-- ==== Sys2Proof/Word.lean ====
section
/-!
DEFINITION. The word types of the ES4: bytes as the host link and the lanes carry them, the 16-bit
numbers that wrap (run, notification number, tag) and the 32-bit ones (device time, frame number).
-/

namespace Sys2Proof

/-- One byte on the host link or on a lane (spec/11_formats.md). -/
abbrev Byte := BitVec 8

/-- A 16-bit number that wraps: run number (R3), notification number (R144), tag (R131). -/
abbrev Half := BitVec 16

/-- A 32-bit number that wraps: device time (R165), frame number (R3). -/
abbrev Time := BitVec 32

end Sys2Proof
end

