-- ==== Sys2Proof/Syntax.lean ====
section
/-!
DEFINITION. The commands of the ES4: one constructor for each row of spec/opcode_table.json.
A command stands for one happening of the part, taken whole (spec/00_scope.md 5.3).
-/

namespace Sys2Proof

/-- The two scan timers (spec/00_scope.md 5.4). -/
inductive TimerId
  | a
  | b
deriving DecidableEq, Repr

/-- The four lanes (spec/00_scope.md 5.4). -/
inductive LaneId
  | l0
  | l1
  | l2
  | l3
deriving DecidableEq, Repr

/-- The commands. The 28 rows of request kinds carry the sequence byte and the payload bytes of the
request the message controller takes (R160, R168); STOP is two rows, by its mode. -/
inductive Instr
  /-- QUERY (R163). -/
  | query (seq : Byte) (payload : List Byte)
  /-- RESET (R164). -/
  | reset (seq : Byte) (payload : List Byte)
  /-- CONFIGURE_LANE (R63, R64). -/
  | configureLane (seq : Byte) (payload : List Byte)
  /-- SLEEP_LANE (R81). -/
  | sleepLane (seq : Byte) (payload : List Byte)
  /-- WAKE_LANE (R83). -/
  | wakeLane (seq : Byte) (payload : List Byte)
  /-- CONFIGURE_TIMER (R10). -/
  | configureTimer (seq : Byte) (payload : List Byte)
  /-- START (R11). -/
  | start (seq : Byte) (payload : List Byte)
  /-- STOP with mode END (R12). -/
  | stopEnd (seq : Byte) (payload : List Byte)
  /-- STOP with mode NOW (R13). -/
  | stopNow (seq : Byte) (payload : List Byte)
  /-- STAGE_ENTRY (R38). -/
  | stageEntry (seq : Byte) (payload : List Byte)
  /-- CLEAR_STAGED (R39). -/
  | clearStaged (seq : Byte) (payload : List Byte)
  /-- READ_ENTRY (R40). -/
  | readEntry (seq : Byte) (payload : List Byte)
  /-- COMMIT (R28). -/
  | commit (seq : Byte) (payload : List Byte)
  /-- WITHDRAW (R37). -/
  | withdraw (seq : Byte) (payload : List Byte)
  /-- WRITE_OUTPUT (R119). -/
  | writeOutput (seq : Byte) (payload : List Byte)
  /-- WRITE_FALLBACK (R120). -/
  | writeFallback (seq : Byte) (payload : List Byte)
  /-- PUBLISH (R121). -/
  | publish (seq : Byte) (payload : List Byte)
  /-- SET_SUPERVISION (R126). -/
  | setSupervision (seq : Byte) (payload : List Byte)
  /-- RESUME (R130). -/
  | resume (seq : Byte) (payload : List Byte)
  /-- HOLD (R111). -/
  | hold (seq : Byte) (payload : List Byte)
  /-- READ_IMAGE (R114). -/
  | readImage (seq : Byte) (payload : List Byte)
  /-- READ_STATUS (R115). -/
  | readStatus (seq : Byte) (payload : List Byte)
  /-- RELEASE (R116). -/
  | release (seq : Byte) (payload : List Byte)
  /-- TRANSACT (R132, R133). -/
  | transact (seq : Byte) (payload : List Byte)
  /-- CANCEL (R138). -/
  | cancel (seq : Byte) (payload : List Byte)
  /-- READ_NODE (R96). -/
  | readNode (seq : Byte) (payload : List Byte)
  /-- FORGET_NODE (R95). -/
  | forgetNode (seq : Byte) (payload : List Byte)
  /-- FETCH (R148). -/
  | fetch (seq : Byte) (payload : List Byte)
  /-- A taken request that matches the last-taken record (R160 step 1, R161). -/
  | duplicateReplay (seq kind : Byte) (payload : List Byte)
  /-- A taken request of none of the 27 kinds (R160 step 2). -/
  | unknownKind (seq kind : Byte) (payload : List Byte)
  /-- The second CRC byte of a frame, with its framing mark (R156). -/
  | frameReceived (byte : Byte) (mark : Bool)
  /-- The sequence byte of a frame whose length is above 250, with its framing mark (R157). -/
  | lengthNak (byte : Byte) (mark : Bool)
  /-- A gap of more than 1 ms within a frame (R155). -/
  | partialFrameDiscard
  /-- 1 ms without a start edge in SKIP (R157). -/
  | skipEnd
  /-- The last byte of a reply has been sent (R162). -/
  | replySent
  /-- Power is applied; `good` says whether power is good yet, which ends the cause of the reset (R165). -/
  | powerOn (good : Bool)
  /-- RST is asserted, or released, which ends the cause of the reset (R165). -/
  | rstPin (asserted : Bool)
  /-- The 5 ms of a reset have passed (R165). -/
  | resetEnd
  /-- The tick after START in IMMEDIATE mode (R18). -/
  | firstFrameStart (t : TimerId)
  /-- The position has passed the frame's last tick (R14, R16, R17). -/
  | frameClose (t : TimerId)
  /-- Active entries start at the present tick (R20). -/
  | postClaims (t : TimerId)
  /-- Tick W of round 0 (R7). -/
  | syncEnd (t : TimerId)
  /-- A rising edge on TRIG (R8, R9). -/
  | trigEdge (t : TimerId)
  /-- The lane controller grants a claim (R70, R71, R73). -/
  | grant (l : LaneId)
  /-- The first tick after the deadline of a waiting cyclic claim, named by timer and position (R72). -/
  | claimExpiry (l : LaneId) (t : TimerId) (position : Nat)
  /-- A command character has ended, and `echo`, the data bits and framing mark that the receiver has taken back
  from the line, or `none` where it has received no character, does not match it (R51, R58). -/
  | echoMismatch (l : LaneId) (echo : Option (Byte × Bool))
  /-- RT runs out (R52). -/
  | responseTimeout (l : LaneId)
  /-- The character limit runs out (R53). -/
  | characterLimitExpiry (l : LaneId)
  /-- The receiver has completed the last response character, with its framing mark (R54). -/
  | responseComplete (l : LaneId) (byte : Byte) (mark : Bool)
  /-- The check character of a broadcast has echoed correctly (R56). -/
  | broadcastComplete (l : LaneId)
  /-- The line is quiet in SLEEPING (R82 step 3). -/
  | sleepCommandStart (l : LaneId)
  /-- The line is quiet after the SLEEP command (R58, R82). -/
  | sleepCommandEnd (l : LaneId)
  /-- 200 µs of the wake pulse have passed (R84). -/
  | wakePulseEnd (l : LaneId)
  /-- The settle time has passed (R84). -/
  | settleEnd (l : LaneId)
  /-- The dominant measure has reached 100 µs on an ASLEEP lane (R60). -/
  | nodeWake (l : LaneId)
  /-- The dominant measure has reached 10 ms (R85). -/
  | lineFault (l : LaneId)
  /-- The quiet measure has reached 1 ms in LINE_FAULT (R86). -/
  | lineFaultRecovery (l : LaneId)
  /-- The timeout of an acyclic entry has run out (R136, R137). -/
  | acyclicTimeout (tag : Half)
  /-- The remaining time of the supervisor has reached 0 (R128). -/
  | supervisionExpiry
  /-- The receiver has completed a response character other than the last, with its framing mark (R52, R53). -/
  | responseCharacterReceived (l : LaneId) (byte : Byte) (mark : Bool)
  /-- A byte is received on RXD, with its framing mark: what rxdCommand reads from the levels of its ten bit times
  (R153, R155, R157). -/
  | hostByteReceived (byte : Byte) (mark : Bool)
deriving DecidableEq, Repr

end Sys2Proof
end

