-- ==== Sys2Proof/Decode.lean ====
section
/-!
DEFINITION. The commands that words spell. spec/opcode_table.json gives no row any bits, so no word
spells a command (log 25). The bytes of host requests are read in Machine/Operands.lean.
-/

namespace Sys2Proof

/-- The command a word spells by the table's bits: none, as the table gives no bits. -/
def decodeTableWord (nbits w : Nat) : Option Instr :=
  match nbits, w with
  | _, _ => none

end Sys2Proof
end

