-- ==== Sys2Proof/Config.lean ====
section
/-!
DEFINITION. What the manual fixes for every ES4: sizes and intervals. The manual leaves no result
value open, so there is no free value here.
-/

namespace Sys2Proof.Config

/-- Positions of a scan table (R22). -/
def positions : Nat := 64

/-- Bytes of an output image (R118). -/
def outputSize : Nat := 512

/-- Bytes of a result image (R98). -/
def resultSize : Nat := 1024

/-- Entries the acyclic table holds at most (R131). -/
def acyclicLimit : Nat := 16

/-- Records the notification queue holds at most, its OVERFLOW record included (R143, R146). -/
def noteLimit : Nat := 32

/-- Requests and replies the message controller queues at most (R159). -/
def linkLimit : Nat := 4

/-- The largest payload of a host frame (R154). -/
def maxPayload : Nat := 250

/-- The start value of a host frame (R166). -/
def startByte : Byte := 0xA5

/-- The gap limit within a host frame and the SKIP interval: 1 ms (R155, R157). -/
def linkGap : Nat := 1000

/-- How much of the link's bit rate makes one bit time, added up half tick by half tick: there are so many half ticks
in a second (R153, R162). -/
def bitTime : Nat := 2000000

/-- The length of a reset after its cause has ended: 5 ms (R165). -/
def resetTicks : Nat := 5000

/-! Intervals of a lane, in ticks; the lanes count half ticks (log 9). -/

/-- The wake pulse: 200 µs (R59). -/
def pulseTicks : Nat := 200

/-- The settle time: 2 ms (R59). -/
def settleTicks : Nat := 2000

/-- The dominant level that is a node wake: 100 µs (R60). -/
def nodeWakeTicks : Nat := 100

/-- The dominant level that is a line fault: 10 ms (R85). -/
def lineFaultTicks : Nat := 10000

/-- The quiet line that ends a line fault: 1 ms (R86). -/
def lineClearTicks : Nat := 1000

/-- The bit rate of the host link for the straps (R153). -/
def linkRate (rate1 rate0 : Bool) : Nat :=
  match rate1, rate0 with
  | false, false => 115200
  | false, true => 460800
  | true, false => 1000000
  | true, true => 3000000

end Sys2Proof.Config
end

