-- ==== Sys2Proof/Machine/State.lean ====
section
/-!
DEFINITION. The state of the ES4 as plain data: every item the manual gives a block, the input pins,
and the queue of commands that wait. Each structure names the rule that lists its items.
-/

namespace Sys2Proof.Machine

/-- Why a step cannot go on. -/
inductive Fault
  /-- Raised by FRAME_CLOSE, FIRST_FRAME_START and TRIG_EDGE in a state whose timer has no FREE result
  buffer to take. R14 and R18 say there always is one, so no run reaches it; safe. -/
  | noFreeBuffer
deriving DecidableEq, Repr

/-- Why a command has no meaning. -/
inductive Refusal
  /-- Would be raised by an arm of exec that has no meaning yet; no arm of this model raises it. Safe. -/
  | notModelled (mnemonic : String)
deriving DecidableEq, Repr

/-- One item for each timer. -/
structure Two (α : Type) where
  a : α
  b : α
deriving DecidableEq, Repr

/-- One item for each lane. -/
structure Four (α : Type) where
  l0 : α
  l1 : α
  l2 : α
  l3 : α
deriving DecidableEq, Repr

/-- One item for each result buffer of a timer, numbered 0 to 2 (R98). -/
structure Three (α : Type) where
  b0 : α
  b1 : α
  b2 : α
deriving DecidableEq, Repr

/-- The number of a result buffer within its timer (R98). -/
inductive BufId
  | b0
  | b1
  | b2
deriving DecidableEq, Repr

/-- An image: cells at strictly rising offsets, none of them 0; an unlisted offset reads 0 (R98, R118). -/
abbrev Memory := List Host.Cell

/-! ### Outcomes and the scan entry -/

/-- The outcomes of positions, transactions and entries (R101, R167). -/
inductive Outcome
  | ok
  | nodeFault
  | noResponse
  | check
  | short
  | echo
  | late
  | overrun
  | suppressed
  | asleep
  | lineFault
  | expired
  | cancelled
  | notRun
  | notDue
  | empty
deriving DecidableEq, Repr

/-- The ops of an entry (R24). SLEEP exists on the wire only. -/
inductive Op
  | read
  | write
  | exchange
deriving DecidableEq, Repr

/-- The phase selector of an entry (R21). -/
inductive Phase
  | every
  | even
  | odd
  | nth (d k : Nat)
deriving DecidableEq, Repr

/-- A scan entry: the twelve fields of R23. -/
structure ScanEntry where
  lane : LaneId
  node : Nat
  op : Op
  round : Nat
  startTick : Nat
  slack : Nat
  n : Nat
  outOffset : Nat
  m : Nat
  resOffset : Nat
  phase : Phase
  retry : Bool
deriving DecidableEq, Repr

/-- The 64 positions of a table, each empty or holding an entry (R22). -/
abbrev Table := List (Option ScanEntry)

/-- What the table store holds for one timer (R22). -/
structure Tables where
  staged : Table
  active : Table
  frozen : Bool
deriving DecidableEq, Repr

/-! ### Scan timers -/

/-- How frames begin (R1). -/
inductive StartMode
  | immediate
  | triggerOnce
  | triggerEach
deriving DecidableEq, Repr

/-- When FRAME_DONE is queued (R1). -/
inductive Report
  | all
  | errors
  | none
deriving DecidableEq, Repr

/-- The configuration of a timer: the eight fields of R1. -/
structure TimerConfig where
  tpr : Nat
  g : Nat
  s : Nat
  rpf : Nat
  q : Nat
  w : Nat
  startMode : StartMode
  report : Report
deriving DecidableEq, Repr

/-- The states of a timer (R4). -/
inductive TimerMode
  | stopped
  | armed
  | running
  | draining
  | waiting
deriving DecidableEq, Repr

/-- What a timer holds (R1, R3, R7). `frameStart` is the T0 of R5. The last three are the model's own:
the close of the present frame is due (R5), a tick has passed since START (R11), the claims of the
present tick have been posted (R6, R8). -/
structure Timer where
  config : TimerConfig
  mode : TimerMode
  run : Half
  frame : Time
  round : Nat
  tick : Nat
  pendingCommit : Bool
  pendingPublish : Bool
  missed : Nat
  sync : Bool
  frameStart : Time
  closeDue : Bool
  firstDue : Bool
  posted : Bool
deriving DecidableEq, Repr

/-! ### Lanes -/

/-- The rate of a lane (R46). -/
inductive Rate
  | off
  | k125
  | k250
  | k500
  | k1000
deriving DecidableEq, Repr

/-- The configuration of a lane (R62). -/
structure LaneConfig where
  rate : Rate
  rt : Nat
  missLimit : Nat
  probeInterval : Nat
deriving DecidableEq, Repr

/-- The states of a lane (R66). -/
inductive LaneMode
  | disabled
  | ready
  | busy
  | sleeping
  | asleep
  | waking
  | lineFault
deriving DecidableEq, Repr

/-- The attempt of a claim: attempt 1, or attempt 2 with the wire outcome of the first (R67). -/
inductive Attempt
  | first
  | retry (wire : Outcome)
deriving DecidableEq, Repr

/-- A cyclic claim (R20, R67). -/
structure CyclicClaim where
  timer : TimerId
  run : Half
  frame : Time
  position : Nat
  deadline : Time
  attempt : Attempt
deriving DecidableEq, Repr

/-- A claim in a lane's claim list (R67). -/
inductive Claim
  | cyclic (c : CyclicClaim)
  | acyclic (tag : Half) (attempt : Attempt)
deriving DecidableEq, Repr

/-- The in-flight record (R65, R73) with the transaction's progress on the wire: `elapsed` half ticks
since the grant, the response characters received with their framing marks, and `elapsed` at the end of the
last of them (R51 to R54). n is the number of request bytes. -/
structure InFlight where
  claim : Claim
  node : Nat
  op : Op
  m : Nat
  request : List Byte
  orphan : Bool
  elapsed : Nat
  received : List (Byte × Bool)
  lastEnd : Nat
deriving DecidableEq, Repr

/-- The progress of a SLEEPING lane: waiting for quiet before the SLEEP command, or the command begun
`elapsed` half ticks ago and `cut` short by an echo mismatch or not (R58, R82). -/
inductive SleepProgress
  | waiting
  | command (elapsed : Nat) (cut : Bool)
deriving DecidableEq, Repr

/-- The wake progress with the half ticks remaining (R65, R84). -/
inductive WakeProgress
  | pulse (left : Nat)
  | settle (left : Nat)
deriving DecidableEq, Repr

/-- The levels of a lane line (R45). A line has one level for each half tick, and half a bit time is a whole number
of half ticks at every rate (R46, R47; log 9). -/
inductive Level
  | recessive
  | dominant
deriving DecidableEq, Repr

/-- The levels of RXD and TXD: that of a start bit and that of a stop bit (R153). -/
inductive LinkLevel
  | start
  | stop
deriving DecidableEq, Repr

/-- A candidate start edge `since` half ticks ago, or the character it began, with the data bits sampled so far,
shifted in from the top, and the framing mark (R47). -/
structure Reception where
  since : Nat
  data : Byte
  mark : Bool
deriving DecidableEq, Repr

/-- The receiver of a lane: the level of the last half tick, the reception in progress, and the character whose
tenth bit time has ended with that half tick, with its framing mark (R47). -/
structure Receiver where
  last : Level
  reception : Option Reception
  done : Option (Byte × Bool)
deriving DecidableEq, Repr

/-- What a lane controller holds (R65), with the receiver of its line (R47) and the two measures of it, in half
ticks (R48). -/
structure Lane where
  config : LaneConfig
  mode : LaneMode
  claims : List Claim
  inFlight : Option InFlight
  sleepPending : Bool
  wakePending : Bool
  sleep : Option SleepProgress
  wake : Option WakeProgress
  rx : Receiver
  quiet : Nat
  dominant : Nat
deriving DecidableEq, Repr

/-! ### Node roster -/

/-- The states of a node record (R87). -/
inductive NodeMode
  | absent
  | online
  | silent
deriving DecidableEq, Repr

/-- A node record (R87). -/
structure NodeRecord where
  mode : NodeMode
  missCount : Nat
  countdown : Option Nat
  lastOutcome : Option Outcome
  lastSeen : Option Time
deriving DecidableEq, Repr

/-! ### Result store -/

/-- The states of a result buffer (R99). -/
inductive BufMode
  | free
  | filling
  | ready
  | held
deriving DecidableEq, Repr

/-- A status element (R101). -/
structure Status where
  outcome : Outcome
  attempts : Nat
  age : Nat
deriving DecidableEq, Repr

/-- A result buffer (R98). -/
structure Buffer where
  mode : BufMode
  run : Half
  frame : Time
  dropped : Bool
  image : Memory
  status : List Status
deriving DecidableEq, Repr

/-! ### Output store and host supervisor -/

/-- What the output store holds for one timer (R118). -/
structure Outputs where
  staged : Memory
  active : Memory
  fallback : Memory
  armed : Bool
deriving DecidableEq, Repr

/-- The states of the host supervisor (R125). -/
inductive SupMode
  | off
  | armed
  | expired
deriving DecidableEq, Repr

/-- The host supervisor: the period in ms and the remaining time in µs (R125). -/
structure Supervisor where
  mode : SupMode
  period : Nat
  remaining : Nat
deriving DecidableEq, Repr

/-! ### Acyclic table -/

/-- An acyclic entry (R131): `inFlight` is its state IN_FLIGHT, `runOut` its timeout mark. -/
structure AcyclicEntry where
  tag : Half
  lane : LaneId
  node : Nat
  op : Op
  request : List Byte
  m : Nat
  timeout : Nat
  retry : Bool
  acceptedAt : Time
  inFlight : Bool
  attempt : Attempt
  runOut : Bool
deriving DecidableEq, Repr

/-! ### Notification queue -/

/-- The causes of a reset (R152). -/
inductive Cause
  | power
  | pin
  | request
deriving DecidableEq, Repr

/-- The kinds of a record with the fields of each (section 9.2 of spec/09_notifications.md). -/
inductive NoteBody
  | restarted (cause : Cause)
  | frameDone (t : TimerId) (run : Half) (frame : Time) (executed failed : Nat)
      (firstFailed : Option Nat) (dropped : Bool)
  | commitDone (t : TimerId) (run : Half) (frame : Time)
  | timerStopped (t : TimerId) (run : Half) (lastFrame : Time)
  | triggerMissed (t : TimerId) (run : Half) (frame : Time) (missed : Nat)
  | transactDone (tag : Half) (outcome : Outcome) (attempts : Nat) (data : List Byte)
  | nodeSilent (l : LaneId) (node : Nat)
  | nodeBack (l : LaneId) (node : Nat)
  | nodeWake (l : LaneId)
  | laneAsleep (l : LaneId)
  | laneAwake (l : LaneId)
  | laneFault (l : LaneId)
  | laneClear (l : LaneId)
  | hostLost
  | overflow (lost : Nat)
deriving DecidableEq, Repr

/-- A record: number, device time and kind (R144). -/
structure Note where
  number : Half
  time : Time
  body : NoteBody
deriving DecidableEq, Repr

/-- The notification queue, oldest record first, and its counter (R143). -/
structure NoteQueue where
  records : List Note
  counter : Half
deriving DecidableEq, Repr

/-! ### Message controller -/

/-- A request in the request queue (R156). -/
structure Request where
  seq : Byte
  kind : Byte
  payload : List Byte
  crc : Half
deriving DecidableEq, Repr

/-- A reply in the reply queue; its CRC is computed when it is sent (R166). -/
structure Reply where
  seq : Byte
  kind : Byte
  payload : List Byte
deriving DecidableEq, Repr

/-- The last-taken record (R159). -/
structure LastTaken where
  seq : Byte
  crc : Half
  reply : Reply
deriving DecidableEq, Repr

/-- The states of the receive side (R155). -/
inductive RxMode
  | hunt
  | length
  | sequence
  | kind
  | payload
  | crc
  | skip
deriving DecidableEq, Repr

/-- What the message controller holds (R153, R159). `got` holds the bytes of the partial frame after its start byte,
`marked` its framing mark, `gap` the half ticks from the last received character to the start edge of the next
(R155), `sending` how much of the oldest reply has been sent, a bit time being Config.bitTime (R162), `early` a byte in
reception whose start edge fell within a reset (R165). -/
structure Link where
  requests : List Request
  replies : List Reply
  lastTaken : Option LastTaken
  rx : RxMode
  got : List Byte
  marked : Bool
  gap : Nat
  sending : Nat
  early : Bool
  takingStopped : Bool
  rate : Nat
deriving DecidableEq, Repr

/-! ### Pins and the whole machine -/

/-- The input pins that are levels (spec/00_scope.md section 2). They are set from outside the machine.
`rxdBusy` is a character in reception on RXD; `lines` is what the parties other than the ES4 put on the lane
lines within the present half tick (R45). -/
structure Pins where
  rate0 : Bool
  rate1 : Bool
  rst : Bool
  powerGood : Bool
  rxdBusy : Bool
  lines : Four Level
deriving DecidableEq, Repr

/-- A reset in progress: its cause, and the ticks left once the cause has ended (R165). -/
structure Resetting where
  cause : Cause
  left : Nat
deriving DecidableEq, Repr

/-- The state of the machine: `time` is the device time, and `half` says that half of its tick has passed (log 9).
`pending` is the model's queue of commands, first in, first out. -/
structure State where
  time : Time
  half : Bool
  resetting : Option Resetting
  pins : Pins
  timers : Two Timer
  tables : Two Tables
  lanes : Four Lane
  roster : Four (List NodeRecord)
  results : Two (Three Buffer)
  outputs : Two Outputs
  supervisor : Supervisor
  acyclic : List AcyclicEntry
  notes : NoteQueue
  link : Link
  pending : List Instr
deriving DecidableEq, Repr

/-! ### Reset values -/

/-- The configuration of a timer after reset (R1). -/
def TimerConfig.reset : TimerConfig :=
  { tpr := 1000, g := 0, s := 1000, rpf := 1, q := 0, w := 0, startMode := .immediate, report := .none }

/-- A timer after reset (R1, R3). -/
def Timer.reset : Timer :=
  { config := .reset, mode := .stopped, run := 0, frame := 0, round := 0, tick := 0
    pendingCommit := false, pendingPublish := false, missed := 0, sync := false
    frameStart := 0, closeDue := false, firstDue := false, posted := false }

/-- The tables of a timer after reset (R22). -/
def Tables.reset : Tables :=
  { staged := List.replicate Config.positions none, active := List.replicate Config.positions none
    frozen := false }

/-- The configuration of a lane after reset (R62). -/
def LaneConfig.reset : LaneConfig := { rate := .off, rt := 100, missLimit := 3, probeInterval := 8 }

/-- A receiver that has seen nothing of its line yet, no recessive level either: a line dominant from the first is no change
to dominant. DESIGN CHOICE: the manual gives it no values; see log 23. -/
def Receiver.reset : Receiver := { last := .dominant, reception := none, done := none }

/-- A lane after reset (R65). -/
def Lane.reset : Lane :=
  { config := .reset, mode := .disabled, claims := [], inFlight := none, sleepPending := false
    wakePending := false, sleep := none, wake := none, rx := .reset, quiet := 0, dominant := 0 }

/-- A node record after reset (R87). -/
def NodeRecord.reset : NodeRecord :=
  { mode := .absent, missCount := 0, countdown := none, lastOutcome := none, lastSeen := none }

/-- A status element after reset (R98). -/
def Status.reset : Status := { outcome := .notRun, attempts := 0, age := 255 }

/-- A result buffer after reset (R98). -/
def Buffer.reset : Buffer :=
  { mode := .free, run := 0, frame := 0, dropped := false, image := []
    status := List.replicate Config.positions .reset }

/-- The images of a timer after reset (R118). -/
def Outputs.reset : Outputs := { staged := [], active := [], fallback := [], armed := false }

/-- The message controller after reset, with the link rate the straps give (R153, R159). -/
def Link.reset (rate : Nat) : Link :=
  { requests := [], replies := [], lastTaken := none, rx := .hunt, got := [], marked := false
    gap := 0, sending := 0, early := false, takingStopped := false, rate := rate }

/-- The pins at `State.reset`: straps low, RST released, power good, lines recessive. DESIGN CHOICE: they
are inputs; unsafe, see log 5. -/
def Pins.idle : Pins :=
  { rate0 := false, rate1 := false, rst := false, powerGood := true, rxdBusy := false
    lines := ⟨.recessive, .recessive, .recessive, .recessive⟩ }

/-- Every block at its reset values and the notification queue empty, with the pins and the waiting
commands as they are: the machine while a reset is in progress (R143, R165). -/
def State.cleared (pins : Pins) (pending : List Instr) (resetting : Option Resetting) : State :=
  { time := 0, half := false, resetting := resetting, pins := pins
    timers := ⟨.reset, .reset⟩, tables := ⟨.reset, .reset⟩
    lanes := ⟨.reset, .reset, .reset, .reset⟩
    roster := ⟨List.replicate 15 .reset, List.replicate 15 .reset, List.replicate 15 .reset,
      List.replicate 15 .reset⟩
    results := ⟨⟨.reset, .reset, .reset⟩, ⟨.reset, .reset, .reset⟩⟩
    outputs := ⟨.reset, .reset⟩
    supervisor := { mode := .off, period := 0, remaining := 0 }
    acyclic := [], notes := { records := [], counter := 0 }
    link := .reset (Config.linkRate pins.rate1 pins.rate0), pending := pending }

/-- The machine at the end of a reset: device time 0, every block at its reset values, and RESTARTED
stored with number 0 (R143, R152, R165). A byte then in reception on RXD began within the reset. -/
def State.restarted (pins : Pins) (pending : List Instr) (cause : Cause) : State :=
  { State.cleared pins pending none with
    link := { Link.reset (Config.linkRate pins.rate1 pins.rate0) with early := pins.rxdBusy }
    notes := { records := [{ number := 0, time := 0, body := .restarted cause }], counter := 1 } }

/-- The machine right after a power-on reset. DESIGN CHOICE: of the three kinds of reset, power-on, and
the idle pins; see logs 4 and 5. -/
def State.reset : State := State.restarted .idle [] .power

end Sys2Proof.Machine
end

