-- ==== Sys2Proof/Machine/Ops.lean ====
section
/-!
DEFINITION. The named operations that every block shares: reading and updating one timer's, one lane's
or one buffer's item, the images, the two byte orders, the two CRCs, and the storing of a notification.
-/

namespace Sys2Proof.Machine

/-- The half ticks of a number of ticks: the unit in which the lanes and the host link count (log 9). -/
abbrev halves (ticks : Nat) : Nat := 2 * ticks

/-! ### One item of a family -/

/-- The item of timer `t`. -/
def Two.get {α : Type} (x : Two α) : TimerId → α
  | .a => x.a
  | .b => x.b

/-- Replace the item of timer `t`. -/
def Two.set {α : Type} (x : Two α) (t : TimerId) (v : α) : Two α :=
  match t with
  | .a => { x with a := v }
  | .b => { x with b := v }

/-- The item of lane `l`. -/
def Four.get {α : Type} (x : Four α) : LaneId → α
  | .l0 => x.l0
  | .l1 => x.l1
  | .l2 => x.l2
  | .l3 => x.l3

/-- Replace the item of lane `l`. -/
def Four.set {α : Type} (x : Four α) (l : LaneId) (v : α) : Four α :=
  match l with
  | .l0 => { x with l0 := v }
  | .l1 => { x with l1 := v }
  | .l2 => { x with l2 := v }
  | .l3 => { x with l3 := v }

/-- The item of buffer `b`. -/
def Three.get {α : Type} (x : Three α) : BufId → α
  | .b0 => x.b0
  | .b1 => x.b1
  | .b2 => x.b2

/-- Replace the item of buffer `b`. -/
def Three.set {α : Type} (x : Three α) (b : BufId) (v : α) : Three α :=
  match b with
  | .b0 => { x with b0 := v }
  | .b1 => { x with b1 := v }
  | .b2 => { x with b2 := v }

/-- Change every lane's item. -/
def Four.map {α β : Type} (x : Four α) (f : α → β) : Four β := ⟨f x.l0, f x.l1, f x.l2, f x.l3⟩

/-- The lanes in ascending order. -/
def allLanes : List LaneId := [.l0, .l1, .l2, .l3]

/-- The timers in ascending order. -/
def allTimers : List TimerId := [.a, .b]

/-- Timer `t`. -/
def State.timer (s : State) (t : TimerId) : Timer := s.timers.get t

/-- Change timer `t`. -/
def State.onTimer (s : State) (t : TimerId) (f : Timer → Timer) : State :=
  { s with timers := s.timers.set t (f (s.timers.get t)) }

/-- The tables of timer `t`. -/
def State.table (s : State) (t : TimerId) : Tables := s.tables.get t

/-- Change the tables of timer `t`. -/
def State.onTables (s : State) (t : TimerId) (f : Tables → Tables) : State :=
  { s with tables := s.tables.set t (f (s.tables.get t)) }

/-- The images of timer `t`. -/
def State.output (s : State) (t : TimerId) : Outputs := s.outputs.get t

/-- Change the images of timer `t`. -/
def State.onOutputs (s : State) (t : TimerId) (f : Outputs → Outputs) : State :=
  { s with outputs := s.outputs.set t (f (s.outputs.get t)) }

/-- The result buffers of timer `t`. -/
def State.buffers (s : State) (t : TimerId) : Three Buffer := s.results.get t

/-- Change the result buffers of timer `t`. -/
def State.onBuffers (s : State) (t : TimerId) (f : Three Buffer → Three Buffer) : State :=
  { s with results := s.results.set t (f (s.results.get t)) }

/-- Change one result buffer of timer `t`. -/
def State.onBuffer (s : State) (t : TimerId) (b : BufId) (f : Buffer → Buffer) : State :=
  s.onBuffers t fun bs => bs.set b (f (bs.get b))

/-- Lane `l`. -/
def State.lane (s : State) (l : LaneId) : Lane := s.lanes.get l

/-- Change lane `l`. -/
def State.onLane (s : State) (l : LaneId) (f : Lane → Lane) : State :=
  { s with lanes := s.lanes.set l (f (s.lanes.get l)) }

/-- The entry of the active table of timer `t` at a position, if it holds one (R44). -/
def State.entry (s : State) (t : TimerId) (position : Nat) : Option ScanEntry :=
  (s.table t).active.getD position none

/-! ### Images -/

/-- What an offset reads as where the image lists no cell: 0, the reset value of R98 and R118. -/
def Memory.background : Byte := 0

/-- One byte of an image. -/
def Memory.read : Memory → Nat → Byte
  | [], _ => Memory.background
  | (k, v) :: rest, a => if k = a then v else Memory.read rest a

/-- Write one byte, keeping the canonical form. -/
def Memory.write (m : Memory) (a : Nat) (v : Byte) : Memory :=
  match m with
  | [] => if v = Memory.background then [] else [(a, v)]
  | (k, w) :: rest =>
    if a < k then
      if v = Memory.background then (k, w) :: rest else (a, v) :: (k, w) :: rest
    else if a = k then
      if v = Memory.background then rest else (a, v) :: rest
    else (k, w) :: Memory.write rest a v

/-- Write bytes at rising offsets from `a` on. -/
def Memory.writeBytes (m : Memory) (a : Nat) : List Byte → Memory
  | [] => m
  | v :: vs => Memory.writeBytes (Memory.write m a v) (a + 1) vs

/-- The `n` bytes from offset `a` on. -/
def Memory.readBytes (m : Memory) (a : Nat) : Nat → List Byte
  | 0 => []
  | n + 1 => Memory.read m a :: Memory.readBytes m (a + 1) n

/-- Every cell lies at offset `lo` or above, at strictly rising offsets, and holds no background byte. -/
def Memory.wfFrom (lo : Nat) : Memory → Bool
  | [] => true
  | (k, v) :: rest => decide (lo ≤ k) && decide (v ≠ Memory.background) && Memory.wfFrom (k + 1) rest

/-- The canonical form of an image. -/
def Memory.wf (m : Memory) : Bool := Memory.wfFrom 0 m

/-! ### Byte order and CRCs -/

/-- Two bytes, least significant first (R166). -/
def bytes2 (x : Nat) : List Byte := [BitVec.ofNat 8 x, BitVec.ofNat 8 (x / 256)]

/-- Four bytes, least significant first (R166). -/
def bytes4 (x : Nat) : List Byte := bytes2 x ++ bytes2 (x / 65536)

/-- The byte of a payload at an offset. -/
def byteAt (p : List Byte) (i : Nat) : Nat := (p.getD i 0).toNat

/-- The two-byte field of a payload at an offset, least significant byte first (R166). -/
def halfAt (p : List Byte) (i : Nat) : Nat := byteAt p i + 256 * byteAt p (i + 1)

/-- One of the eight steps of the CRC-8 (R50). -/
def crc8Step (r : Byte) : Byte := if r.msb then (r <<< 1) ^^^ 0x07 else r <<< 1

/-- Eight applications of one step. -/
def eightTimes {α : Type} (f : α → α) (x : α) : α := f (f (f (f (f (f (f (f x)))))))

/-- The CRC-8 with generator x⁸ + x² + x + 1 over bytes, from an initial value (R50). -/
def crc8 (init : Byte) (bytes : List Byte) : Byte :=
  bytes.foldl (fun r b => eightTimes crc8Step (r ^^^ b)) init

/-- One of the eight steps of the CRC-16 (R166). -/
def crc16Step (r : Half) : Half := if r.msb then (r <<< 1) ^^^ 0x1021 else r <<< 1

/-- The CRC-16 with generator x¹⁶ + x¹² + x⁵ + 1 over bytes, from 0xFFFF (R154, R166). -/
def crc16 (bytes : List Byte) : Half :=
  bytes.foldl (fun r b => eightTimes crc16Step (r ^^^ ((b.setWidth 16 : Half) <<< (8 : Nat)))) 0xFFFF

/-! ### Storing a notification -/

/-- Whether a record is an OVERFLOW record. -/
def Note.isOverflow (n : Note) : Bool :=
  match n.body with
  | .overflow _ => true
  | _ => false

/-- An OVERFLOW record with its lost count incremented, saturating at 65535 (R146). -/
def Note.bump (n : Note) : Note :=
  match n.body with
  | .overflow lost => { n with body := .overflow (min (lost + 1) 65535) }
  | _ => n

/-- Hand a record to the queue: it is appended, replaced by an OVERFLOW record, or counted (R144, R146,
R147). -/
def NoteQueue.hand (q : NoteQueue) (now : Time) (body : NoteBody) : NoteQueue :=
  if q.records.any Note.isOverflow then
    { q with records := q.records.map Note.bump }
  else
    { records := q.records ++
        [{ number := q.counter, time := now
           body := if q.records.length < Config.noteLimit - 1 then body else .overflow 1 }]
      counter := q.counter + 1 }

/-- Hand a record to the notification queue at the present device time (R144). -/
def State.notify (s : State) (body : NoteBody) : State :=
  { s with notes := s.notes.hand s.time body }

end Sys2Proof.Machine
end

