-- ==== Sys2Proof/Machine/Operands.lean ====
section
/-!
DEFINITION. The code sets of the host link (R167), the fields of request payloads (R168) and the layouts
of reply payloads and notification records (R169, R170).
-/

namespace Sys2Proof.Machine

/-! ### Code sets (R167) -/

/-- A request kind, by its code. -/
abbrev Kind := Byte

/-- The 27 request kinds (R167): 0x01 to 0x1C, 0x09 unassigned. -/
def isRequestKind (k : Kind) : Bool :=
  decide (1 ≤ k.toNat) && decide (k.toNat ≤ 0x1C) && decide (k.toNat ≠ 9)

/-- The reply codes (R167). -/
inductive ReplyCode
  | ok
  | accepted
  | pendingAccepted
  | busy
  | badArg
  | badState
  | full
  | none
  | noNewer
  | pending
  | tagInUse
  | notFound
  | inFlight
  | asleep
  | hostLost
  | tableConflict
  | invalid
  | kind
deriving DecidableEq, Repr

/-- The value of a reply code (R167). -/
def ReplyCode.code : ReplyCode → Byte
  | .ok => 0x00
  | .accepted => 0x01
  | .pendingAccepted => 0x02
  | .busy => 0x10
  | .badArg => 0x11
  | .badState => 0x12
  | .full => 0x13
  | .none => 0x14
  | .noNewer => 0x15
  | .pending => 0x16
  | .tagInUse => 0x17
  | .notFound => 0x18
  | .inFlight => 0x19
  | .asleep => 0x1A
  | .hostLost => 0x1B
  | .tableConflict => 0x1C
  | .invalid => 0x1D
  | .kind => 0x1E

/-- The NAK codes (R166). -/
inductive NakCode
  | check
  | length
  | queue
deriving DecidableEq, Repr

/-- The value of a NAK code (R166). -/
def NakCode.code : NakCode → Byte
  | .check => 1
  | .length => 2
  | .queue => 3

/-- The value of an outcome (R167). -/
def Outcome.code : Outcome → Byte
  | .ok => 0
  | .nodeFault => 1
  | .noResponse => 2
  | .check => 3
  | .short => 4
  | .echo => 5
  | .late => 6
  | .overrun => 7
  | .suppressed => 8
  | .asleep => 9
  | .lineFault => 10
  | .expired => 11
  | .cancelled => 12
  | .notRun => 13
  | .notDue => 14
  | .empty => 15

/-- The value of a timer state (R167). -/
def TimerMode.code : TimerMode → Byte
  | .stopped => 0
  | .armed => 1
  | .running => 2
  | .draining => 3
  | .waiting => 4

/-- The value of a lane state (R167). -/
def LaneMode.code : LaneMode → Byte
  | .disabled => 0
  | .ready => 1
  | .busy => 2
  | .sleeping => 3
  | .asleep => 4
  | .waking => 5
  | .lineFault => 6

/-- The value of a buffer state (R167). -/
def BufMode.code : BufMode → Byte
  | .free => 0
  | .filling => 1
  | .ready => 2
  | .held => 3

/-- The value of a node state (R167). -/
def NodeMode.code : NodeMode → Byte
  | .absent => 0
  | .online => 1
  | .silent => 2

/-- The value of a supervisor state (R167). -/
def SupMode.code : SupMode → Byte
  | .off => 0
  | .armed => 1
  | .expired => 2

/-- The value of an op (R167). -/
def Op.code : Op → Byte
  | .read => 0
  | .write => 1
  | .exchange => 2

/-- The op of a code. -/
def opOf : Nat → Option Op
  | 0 => some .read
  | 1 => some .write
  | 2 => some .exchange
  | _ => none

/-- The rate of a code (R167). -/
def rateOf : Nat → Option Rate
  | 0 => some .off
  | 1 => some .k125
  | 2 => some .k250
  | 3 => some .k500
  | 4 => some .k1000
  | _ => none

/-- The start mode of a code (R167). -/
def startModeOf : Nat → Option StartMode
  | 0 => some .immediate
  | 1 => some .triggerOnce
  | 2 => some .triggerEach
  | _ => none

/-- The frame report of a code (R167). -/
def reportOf : Nat → Option Report
  | 0 => some .all
  | 1 => some .errors
  | 2 => some .none
  | _ => none

/-- The timer of an index (R167). -/
def timerOf : Nat → Option TimerId
  | 0 => some .a
  | 1 => some .b
  | _ => none

/-- The value of a timer (R167). -/
def timerCode : TimerId → Byte
  | .a => 0
  | .b => 1

/-- The lane of an index. -/
def laneOf : Nat → Option LaneId
  | 0 => some .l0
  | 1 => some .l1
  | 2 => some .l2
  | 3 => some .l3
  | _ => none

/-- The value of a lane. -/
def laneCode : LaneId → Byte
  | .l0 => 0
  | .l1 => 1
  | .l2 => 2
  | .l3 => 3

/-- The value of a restart cause (R167). -/
def Cause.code : Cause → Byte
  | .power => 0
  | .pin => 1
  | .request => 2

/-- The phase selector of its code, d and k (R23, R38). d and k count for NTH only (R168). -/
def phaseOf (selector d k : Nat) : Option Phase :=
  match selector with
  | 0 => some .every
  | 1 => some .even
  | 2 => some .odd
  | 3 => if 2 ≤ d ∧ d ≤ 16 ∧ k ≤ 15 then some (.nth d k) else none
  | _ => none

/-- The selector, d and k of a phase, d and k 0 but for NTH (R168). -/
def Phase.bytes : Phase → List Byte
  | .every => [0, 0, 0]
  | .even => [1, 0, 0]
  | .odd => [2, 0, 0]
  | .nth d k => [3, BitVec.ofNat 8 d, BitVec.ofNat 8 k]

/-- A flag as 0 or 1. -/
def flagByte (b : Bool) : Byte := if b then 1 else 0

/-! ### Fields of requests (R168) -/

/-- The scan entry of a 17-byte block, when every field is in the range of R23 (R38 step 3). -/
def parseEntry (p : List Byte) (retry : Bool) : Option ScanEntry :=
  match laneOf (byteAt p 0), opOf (byteAt p 2), phaseOf (byteAt p 14) (byteAt p 15) (byteAt p 16) with
  | some lane, some op, some phase =>
    if byteAt p 1 ≤ 15 ∧ byteAt p 8 ≤ 32 ∧ halfAt p 9 ≤ 511 ∧ byteAt p 11 ≤ 32 ∧ halfAt p 12 ≤ 1023 then
      some { lane := lane, node := byteAt p 1, op := op, round := byteAt p 3, startTick := halfAt p 4
             slack := halfAt p 6, n := byteAt p 8, outOffset := halfAt p 9, m := byteAt p 11
             resOffset := halfAt p 12, phase := phase, retry := retry }
    else none
  | _, _, _ => none

/-- The 17-byte block of a scan entry (R168). -/
def ScanEntry.bytes (e : ScanEntry) : List Byte :=
  [laneCode e.lane, BitVec.ofNat 8 e.node, e.op.code, BitVec.ofNat 8 e.round] ++ bytes2 e.startTick ++
    bytes2 e.slack ++ [BitVec.ofNat 8 e.n] ++ bytes2 e.outOffset ++ [BitVec.ofNat 8 e.m] ++
    bytes2 e.resOffset ++ e.phase.bytes

/-- The timer configuration of a CONFIGURE_TIMER payload, when every field is in the range of R1. -/
def parseTimerConfig (p : List Byte) : Option TimerConfig :=
  match startModeOf (byteAt p 12), reportOf (byteAt p 13) with
  | some mode, some report =>
    let c : TimerConfig :=
      { tpr := halfAt p 1, g := halfAt p 3, s := halfAt p 5, rpf := halfAt p 7, q := byteAt p 9
        w := halfAt p 10, startMode := mode, report := report }
    if 50 ≤ c.tpr ∧ c.g < c.tpr ∧ c.g < c.s ∧ c.s ≤ c.tpr ∧ 1 ≤ c.rpf ∧ c.rpf ≤ 256 ∧ c.q < c.rpf ∧
        c.w ≤ c.tpr then some c
    else none
  | _, _ => none

/-- The lane configuration of a CONFIGURE_LANE payload, when every field is in the range of R62. -/
def parseLaneConfig (p : List Byte) : Option LaneConfig :=
  match rateOf (byteAt p 1) with
  | some rate =>
    if 20 ≤ halfAt p 2 ∧ halfAt p 2 ≤ 2000 ∧ 1 ≤ byteAt p 4 ∧ byteAt p 4 ≤ 15 ∧ 1 ≤ byteAt p 5 then
      some { rate := rate, rt := halfAt p 2, missLimit := byteAt p 4, probeInterval := byteAt p 5 }
    else none
  | none => none

/-! ### Reply payloads (R169) -/

/-- What the owner of a request answers: the reply code and the bytes of the fields it carries. -/
structure Answer where
  code : ReplyCode
  fields : List Byte
deriving DecidableEq, Repr

/-- An answer whose code carries no fields. -/
def Answer.plain (code : ReplyCode) : Answer := { code := code, fields := [] }

/-- A reply payload: the code, the flags byte with REPLAY clear, the fields (R169). -/
def Answer.payload (a : Answer) : List Byte := a.code.code :: 0 :: a.fields

/-- Run and frame of a buffer or a timer, as replies and records carry them. -/
def runFrame (run : Half) (frame : Time) : List Byte := bytes2 run.toNat ++ bytes4 frame.toNat

/-- A status element: outcome, attempts, age (R169). -/
def Status.bytes (e : Status) : List Byte :=
  [e.outcome.code, BitVec.ofNat 8 e.attempts, BitVec.ofNat 8 e.age]

/-- A position that may be absent: 0xFF when it is (R169, R170). -/
def positionByte : Option Nat → Byte
  | none => 0xFF
  | some i => BitVec.ofNat 8 i

/-- An OK to READ_ENTRY (R40, R169). Bit 1 for an empty position and the unassigned bits 3 to 7 of the flags
byte are sent as 0 (DESIGN CHOICE, log 28). -/
def entryAnswer (e : Option ScanEntry) (frozen : Bool) : Answer :=
  let flags : Nat := (if frozen then 4 else 0)
  match e with
  | none => { code := .ok, fields := BitVec.ofNat 8 (flags + 1) :: List.replicate 17 0 }
  | some e => { code := .ok, fields := BitVec.ofNat 8 (flags + if e.retry then 2 else 0) :: e.bytes }

/-- An OK to READ_NODE (R96, R169). The unassigned bits 1 to 7 of its flags byte are sent as 0 (DESIGN CHOICE,
log 28). -/
def nodeAnswer (r : NodeRecord) (c : LaneConfig) : Answer :=
  { code := .ok
    fields :=
      [r.mode.code, BitVec.ofNat 8 r.missCount, BitVec.ofNat 8 (r.countdown.getD 0),
        (r.lastOutcome.map Outcome.code).getD 0xFF, flagByte r.lastSeen.isSome] ++
      bytes4 (r.lastSeen.getD 0).toNat ++
      [BitVec.ofNat 8 c.missLimit, BitVec.ofNat 8 c.probeInterval] }

/-- A timer in a QUERY snapshot: 14 bytes (R169). The unassigned bits 2 to 7 of its flags byte are sent as 0
(DESIGN CHOICE, log 28). -/
def timerSnapshot (t : Timer) (bs : Three Buffer) : List Byte :=
  [t.mode.code] ++ runFrame t.run t.frame ++ [BitVec.ofNat 8 t.round] ++ bytes2 t.tick ++
    [BitVec.ofNat 8 ((if t.pendingCommit then 1 else 0) + if t.pendingPublish then 2 else 0),
      bs.b0.mode.code, bs.b1.mode.code, bs.b2.mode.code]

/-- A lane in a QUERY snapshot: 2 bytes (R169). -/
def laneSnapshot (l : Lane) : List Byte := [l.mode.code, BitVec.ofNat 8 l.claims.length]

/-- An OK to QUERY (R163, R169). -/
def queryAnswer (s : State) : Answer :=
  { code := .ok
    fields :=
      timerSnapshot s.timers.a s.results.a ++ timerSnapshot s.timers.b s.results.b ++
      laneSnapshot s.lanes.l0 ++ laneSnapshot s.lanes.l1 ++ laneSnapshot s.lanes.l2 ++
      laneSnapshot s.lanes.l3 ++
      [BitVec.ofNat 8 s.acyclic.length, BitVec.ofNat 8 s.notes.records.length, s.supervisor.mode.code] ++
      bytes4 s.supervisor.remaining ++ bytes4 s.time.toNat }

/-- The code of a record's kind (R170). -/
def NoteBody.kind : NoteBody → Byte
  | .restarted _ => 0x01
  | .frameDone .. => 0x02
  | .commitDone .. => 0x03
  | .timerStopped .. => 0x04
  | .triggerMissed .. => 0x05
  | .transactDone .. => 0x06
  | .nodeSilent .. => 0x07
  | .nodeBack .. => 0x08
  | .nodeWake _ => 0x09
  | .laneAsleep _ => 0x0A
  | .laneAwake _ => 0x0B
  | .laneFault _ => 0x0C
  | .laneClear _ => 0x0D
  | .hostLost => 0x0E
  | .overflow _ => 0x0F

/-- The fields of a record's kind (R170). -/
def NoteBody.fields : NoteBody → List Byte
  | .restarted cause => [cause.code]
  | .frameDone t run frame executed failed first dropped =>
    [timerCode t] ++ runFrame run frame ++
      [BitVec.ofNat 8 executed, BitVec.ofNat 8 failed, positionByte first, flagByte dropped]
  | .commitDone t run frame => timerCode t :: runFrame run frame
  | .timerStopped t run frame => timerCode t :: runFrame run frame
  | .triggerMissed t run frame missed => timerCode t :: (runFrame run frame ++ bytes2 missed)
  | .transactDone tag outcome attempts data =>
    bytes2 tag.toNat ++ [outcome.code, BitVec.ofNat 8 attempts, BitVec.ofNat 8 data.length] ++ data
  | .nodeSilent l node => [laneCode l, BitVec.ofNat 8 node]
  | .nodeBack l node => [laneCode l, BitVec.ofNat 8 node]
  | .nodeWake l => [laneCode l]
  | .laneAsleep l => [laneCode l]
  | .laneAwake l => [laneCode l]
  | .laneFault l => [laneCode l]
  | .laneClear l => [laneCode l]
  | .hostLost => []
  | .overflow lost => bytes2 lost

/-- A record in a FETCH reply: its length byte, its common head and its fields (R170). -/
def Note.bytes (n : Note) : List Byte :=
  BitVec.ofNat 8 (7 + n.body.fields.length) :: n.body.kind ::
    (bytes2 n.number.toNat ++ bytes4 n.time.toNat ++ n.body.fields)

/-- An OK to FETCH (R148, R169). -/
def fetchAnswer (remaining : Nat) (records : List Note) : Answer :=
  { code := .ok
    fields := BitVec.ofNat 8 remaining :: BitVec.ofNat 8 records.length :: records.flatMap Note.bytes }

end Sys2Proof.Machine
end

