-- ==== Sys2Proof/Machine/Flags.lean ====
section
/-!
DEFINITION. Counts and flags computed from the state (R15, R106, R112), and the output pins that are
computed and not stored (R45, R151, R162).
-/

namespace Sys2Proof.Machine

/-- Whether a position counts as executed: its outcome is neither NOT_DUE nor EMPTY (R15). -/
def Status.executed (e : Status) : Bool := e.outcome != .notDue && e.outcome != .empty

/-- Whether a position counts as failed: its outcome is other than OK, NOT_DUE and EMPTY (R15). -/
def Status.failed (e : Status) : Bool := e.executed && e.outcome != .ok

/-- The executed count of a status list (R15, R112). -/
def executedCount (st : List Status) : Nat := st.countP Status.executed

/-- The failed count of a status list (R15, R112). -/
def failedCount (st : List Status) : Nat := st.countP Status.failed

/-- The lowest failed position of a status list; absent when the failed count is 0 (R15, R112). -/
def firstFailed (st : List Status) : Option Nat := st.findIdx? Status.failed

/-- OK and NODE_FAULT, the outcomes that carry response data (R54). -/
def Outcome.isGood (o : Outcome) : Bool := o == .ok || o == .nodeFault

/-- The wire outcomes after which a first attempt may be retried (R76, R77). -/
def Outcome.isRetriable (o : Outcome) : Bool :=
  o == .noResponse || o == .check || o == .short || o == .echo

/-- The outcomes that count against a node (R90). -/
def Outcome.isMiss (o : Outcome) : Bool := o == .noResponse || o == .check || o == .short

/-- Attempts of a claim that ends without going on the wire again (R72, R78, R82, R85). -/
def Attempt.waited : Attempt → Nat
  | .first => 0
  | .retry _ => 1

/-- Attempts of a claim whose transaction is in flight or ends on the wire (R74, R105). -/
def Attempt.sent : Attempt → Nat
  | .first => 1
  | .retry _ => 2

/-- The outcome the roster receives for a claim that ends without the wire: the carried wire outcome of a
retry claim, the final outcome otherwise (R75). -/
def Attempt.rosterOutcome (a : Attempt) (final : Outcome) : Outcome :=
  match a with
  | .first => final
  | .retry wire => wire

/-- ATN is low: the list holds a record and no reset is in progress (R143, R151). -/
def State.atnLow (s : State) : Bool := s.resetting.isNone && !s.notes.records.isEmpty

/-- TXD is sending a reply (R162). -/
def State.txdSending (s : State) : Bool := s.resetting.isNone && !s.link.replies.isEmpty

end Sys2Proof.Machine
end

