-- ==== Sys2Proof/Machine/HostLink.lean ====
section
/-!
DEFINITION. The message controller (spec/10_host_link.md): the characters of its line, taking requests and
answering them, the receive side, the transmitter, QUERY, RESET and the resets.
-/

namespace Sys2Proof.Machine

/-! ### The line (R153) -/

/-- The level of one of the ten bit times of a character, and the stop-bit level after them: the start bit, eight
data bits, least significant first, no parity, the stop bit (R153). A data bit 1 has the stop-bit level (PRESUMED,
log 29). -/
def linkCharacterLevel (byte : Byte) (bit : Nat) : LinkLevel :=
  if bit = 0 then .start
  else if bit ≤ 8 then if byte.getLsbD (bit - 1) then .stop else .start
  else .stop

/-- The number that data bits spell, least significant first, a 1 at the stop-bit level (R153; PRESUMED, log 29). -/
def linkData : List LinkLevel → Nat
  | [] => 0
  | d :: rest => (if d = .stop then 1 else 0) + 2 * linkData rest

/-- The command that the ten levels sampled on RXD from a start edge stand for: the data bits are kept, and a stop
bit at the start-bit level is the framing error that marks them (R153; log 17). No character begins at the
stop-bit level. -/
def rxdCommand : List LinkLevel → Option Instr
  | [.start, d0, d1, d2, d3, d4, d5, d6, d7, stopBit] =>
    some (.hostByteReceived (BitVec.ofNat 8 (linkData [d0, d1, d2, d3, d4, d5, d6, d7])) (stopBit == .start))
  | _ => none

/-! ### Requests and replies -/

/-- The CRC of a host frame over its length, sequence, kind and payload (R154, R166). -/
def frameCrc (seq kind : Byte) (payload : List Byte) : Half :=
  crc16 (bytes2 payload.length ++ seq :: kind :: payload)

/-- The request a good frame with these fields carries (R156). -/
def requestOf (seq kind : Byte) (payload : List Byte) : Request :=
  { seq := seq, kind := kind, payload := payload, crc := frameCrc seq kind payload }

/-- The bytes of a reply on TXD (R154, R166). -/
def Reply.frame (r : Reply) : List Byte :=
  Config.startByte :: (bytes2 r.payload.length ++ r.seq :: r.kind :: r.payload ++
    bytes2 (frameCrc r.seq r.kind r.payload).toNat)

/-- The level of TXD at a bit time of a reply, counted from its first start bit: its characters back to back, ten
bit times each, then the stop-bit level (R153, R162). -/
def Reply.level (r : Reply) (bit : Nat) : LinkLevel :=
  match r.frame[bit / 10]? with
  | some byte => linkCharacterLevel byte (bit % 10)
  | none => .stop

/-- The level of TXD as the present half tick begins: the bit of the oldest reply then being sent, and the stop-bit
level where TXD is idle (R153, R162, R165). The bits that begin within it follow by Reply.level (log 17). -/
def State.txd (s : State) : LinkLevel :=
  match s.resetting, s.link.replies with
  | none, r :: _ => r.level (s.link.sending / Config.bitTime)
  | _, _ => .stop

/-- Place a reply at the tail of the reply queue; sending begins at once when the queue was empty
(R162). -/
def State.pushReply (s : State) (r : Reply) : State :=
  { s with link := { s.link with
      replies := s.link.replies ++ [r]
      sending := if s.link.replies.isEmpty then 0 else s.link.sending } }

/-- Answer a taken request: the reply is queued and, with the request's sequence and CRC, becomes the
last-taken record (R160). -/
def State.answer (s : State) (rq : Request) (a : Answer) : State :=
  let r : Reply := { seq := rq.seq, kind := rq.kind, payload := a.payload }
  let s1 := s.pushReply r
  { s1 with link := { s1.link with lastTaken := some { seq := rq.seq, crc := rq.crc, reply := r } } }

/-- The stored reply with REPLAY set (R161). -/
def Reply.replayed (r : Reply) : Reply :=
  match r.payload with
  | code :: _ :: fields => { r with payload := code :: 1 :: fields }
  | _ => r

/-- Whether a request matches the last-taken record (R160 step 1). -/
def Link.isDuplicate (k : Link) (rq : Request) : Bool :=
  match k.lastTaken with
  | some t => t.seq == rq.seq && t.crc == rq.crc
  | none => false

/-- The state in which the message controller takes `rq`: taking is not stopped, the reply queue has a
place, no reset is in progress, and `rq` is the oldest request, which leaves the request queue (R159,
R160). With an empty request queue the command itself stands for the waiting request (DESIGN CHOICE,
log 3). `none` where `rq` cannot be taken. -/
def State.accept (s : State) (rq : Request) : Option State :=
  if s.resetting.isNone && !s.link.takingStopped && decide (s.link.replies.length < Config.linkLimit) then
    match s.link.requests with
    | [] => some s
    | r :: rest => if r = rq then some { s with link := { s.link with requests := rest } } else none
  else none

/-- Take a request: a duplicate is answered by its stored reply, any other is executed (R160). A request
that cannot be taken changes nothing (log 2). -/
def State.take (s : State) (rq : Request) (run : State → State) : State :=
  match s.accept rq with
  | none => s
  | some s1 =>
    match s1.link.lastTaken with
    | some t => if s1.link.isDuplicate rq then s1.pushReply t.reply.replayed else run s1
    | none => run s1

/-- Take a request of a known kind: its owner acts and answers (R160 steps 3 and 4). -/
def State.serve (s : State) (seq kind : Byte) (payload : List Byte) (owner : State → State × Answer) :
    State :=
  s.take (requestOf seq kind payload) fun s1 =>
    (owner s1).1.answer (requestOf seq kind payload) (owner s1).2

/-- An answer that changes nothing. -/
def refuse (code : ReplyCode) (s : State) : State × Answer := (s, .plain code)

/-! ### QUERY, duplicates, unknown kinds -/

/-- QUERY (R163). -/
def ownQuery (payload : List Byte) (s : State) : State × Answer :=
  match payload with
  | [] => (s, queryAnswer s)
  | _ => refuse .badArg s

/-- QUERY (R163). -/
def execQuery (seq : Byte) (payload : List Byte) (s : State) : Host.Outcome State Fault Refusal :=
  .next (s.serve seq 0x01 payload (ownQuery payload))

/-- RESET (R164): the reply OK and taking stopped. A payload that does not fit is answered BAD_ARG like that of any
request, and taking goes on (R160 step 3). Either leaves the last-taken record as it was (R160); so a retransmission of the
request before a RESET with a payload, a FETCH for one, is replayed, though R150 and R161 have any other taken request
break the match. DESIGN CHOICE: R160 is followed; see log 14. -/
def execReset (seq : Byte) (payload : List Byte) (s : State) : Host.Outcome State Fault Refusal :=
  .next (s.take (requestOf seq 0x02 payload) fun s1 =>
    let reply := fun code => s1.pushReply { seq := seq, kind := 0x02, payload := (Answer.plain code).payload }
    match payload with
    | [] => { reply .ok with link := { (reply .ok).link with takingStopped := true } }
    | _ => reply .badArg)

/-- A duplicate (R160 step 1, R161). A request that is none changes nothing here. -/
def execDuplicateReplay (seq kind : Byte) (payload : List Byte) (s : State) :
    Host.Outcome State Fault Refusal :=
  .next (if s.link.isDuplicate (requestOf seq kind payload) then
    s.take (requestOf seq kind payload) id else s)

/-- A request of no known kind (R160 step 2). A request of a known kind changes nothing here. -/
def execUnknownKind (seq kind : Byte) (payload : List Byte) (s : State) :
    Host.Outcome State Fault Refusal :=
  .next (if isRequestKind kind then s else s.serve seq kind payload (refuse .kind))

/-! ### The receive side -/

/-- Queue a NAK reply; it is lost when the reply queue is full (R158). -/
def State.nak (s : State) (seq : Byte) (code : NakCode) : State :=
  if s.link.replies.length < Config.linkLimit then
    s.pushReply { seq := seq, kind := 0xFF, payload := [code.code] }
  else s

/-- Host activity: an ARMED supervisor's remaining time is restarted (R127). -/
def State.hostActivity (s : State) : State :=
  match s.supervisor.mode with
  | .armed => { s with supervisor := { s.supervisor with remaining := s.supervisor.period * 1000 } }
  | _ => s

/-- Judge a complete frame, its bytes after the start byte in `got` (R156). -/
def State.judgeFrame (s : State) (got : List Byte) (marked : Bool) : State :=
  let seq := got.getD 2 0
  let len := halfAt got 0
  if marked || BitVec.ofNat 16 (halfAt got (4 + len)) != crc16 (got.take (4 + len)) then
    s.nak seq .check
  else if s.hostActivity.link.requests.length < Config.linkLimit then
    let rq : Request :=
      { seq := seq, kind := got.getD 3 0, payload := (got.drop 4).take len
        crc := crc16 (got.take (4 + len)) }
    let s1 := s.hostActivity
    { s1 with link := { s1.link with requests := s1.link.requests ++ [rq] } }
  else s.hostActivity.nak seq .queue

/-- Leave the partial frame and go to a receive state. -/
def Link.restartRx (k : Link) (rx : RxMode) : Link := { k with rx := rx, got := [], marked := false }

/-- Take in one byte of a frame and go to a receive state. -/
def Link.collect (k : Link) (rx : RxMode) (byte : Byte) (mark : Bool) : Link :=
  { k with rx := rx, got := k.got ++ [byte], marked := k.marked || mark }

/-- The receive side takes a byte from RXD (R155, R156, R157); not during a reset, and not a byte whose
start edge fell within one (R165). -/
def State.receiveByte (s : State) (byte : Byte) (mark : Bool) : State :=
  if s.resetting.isSome then s
  else if s.link.early then { s with link := { s.link with early := false, gap := 0 } }
  else
    let k : Link := { s.link with gap := 0 }
    let len := halfAt k.got 0
    match k.rx with
    | .hunt =>
      if byte = Config.startByte ∧ mark = false then { s with link := k.restartRx .length }
      else { s with link := k }
    | .length => { s with link := k.collect (if k.got.length = 1 then .sequence else .length) byte mark }
    | .sequence =>
      if Config.maxPayload < len then
        State.nak { s with link := k.restartRx .skip } byte .length
      else { s with link := k.collect .kind byte mark }
    | .kind => { s with link := k.collect (if len = 0 then .crc else .payload) byte mark }
    | .payload =>
      { s with link := k.collect (if k.got.length + 1 = 4 + len then .crc else .payload) byte mark }
    | .crc =>
      if k.got.length + 1 = 6 + len then
        State.judgeFrame { s with link := k.restartRx .hunt } (k.got ++ [byte]) (k.marked || mark)
      else { s with link := k.collect .crc byte mark }
    | .skip => { s with link := k }

/-- A byte on RXD (R155, R157). -/
def execHostByteReceived (byte : Byte) (mark : Bool) (s : State) : Host.Outcome State Fault Refusal :=
  .next (s.receiveByte byte mark)

/-- The second CRC byte of a frame is the next byte (R156). -/
def Link.atFrameEnd (k : Link) : Bool := k.rx == .crc && k.got.length + 1 == 6 + halfAt k.got 0

/-- The sequence byte of an over-long frame is the next byte (R157). -/
def Link.atLongSequence (k : Link) : Bool := k.rx == .sequence && Config.maxPayload < halfAt k.got 0

/-- The second CRC byte of a frame (R156); nothing where the frame is not that far. -/
def execFrameReceived (byte : Byte) (mark : Bool) (s : State) : Host.Outcome State Fault Refusal :=
  .next (if s.link.atFrameEnd then s.receiveByte byte mark else s)

/-- The sequence byte of an over-long frame (R157); nothing where the frame is not that far. -/
def execLengthNak (byte : Byte) (mark : Bool) (s : State) : Host.Outcome State Fault Refusal :=
  .next (if s.link.atLongSequence then s.receiveByte byte mark else s)

/-- Whether the receive side is within a frame, from LENGTH to CRC (R155). -/
def RxMode.inFrame : RxMode → Bool
  | .hunt => false
  | .skip => false
  | _ => true

/-- A gap of more than 1 ms has passed within a frame, up to the start edge of the next character where one has begun
(R155). -/
def State.gapExceeded (s : State) : Bool :=
  s.resetting.isNone && s.link.rx.inFrame && decide (halves Config.linkGap < s.link.gap)

/-- PARTIAL_FRAME_DISCARD (R155). -/
def execPartialFrameDiscard (s : State) : Host.Outcome State Fault Refusal :=
  .next (if s.gapExceeded then { s with link := s.link.restartRx .hunt } else s)

/-- 1 ms has passed in SKIP without a start edge (R157). A start edge at the very moment at which 1 ms has passed
comes first, and its character is ignored (DESIGN CHOICE, log 30). -/
def State.skipOver (s : State) : Bool :=
  s.resetting.isNone && s.link.rx == .skip && decide (halves Config.linkGap ≤ s.link.gap) && !s.pins.rxdBusy

/-- SKIP_END (R157). -/
def execSkipEnd (s : State) : Host.Outcome State Fault Refusal :=
  .next (if s.skipOver then { s with link := s.link.restartRx .hunt } else s)

/-! ### The transmitter and the resets -/

/-- The reply OK of an executed RESET: the one RESET reply with code OK and REPLAY clear (R164; log 27). -/
def Reply.isReset (r : Reply) : Bool := r.kind == 0x02 && r.payload == [0x00, 0x00]

/-- What a reply takes to be sent: (7 + payload length) characters of 10 bit times (R162). -/
def Reply.duration (r : Reply) : Nat := (7 + r.payload.length) * 10 * Config.bitTime

/-- The last byte of the oldest reply has been sent (R162). -/
def State.replyOut (s : State) : Bool :=
  s.resetting.isNone &&
    match s.link.replies with
    | [] => false
    | r :: _ => decide (r.duration ≤ s.link.sending)

/-- Begin a reset: every block takes its reset values, every line is released, and 5 ms remain once the
cause has ended (R61, R143, R165). -/
def State.beginReset (s : State) (cause : Cause) : State :=
  State.cleared s.pins s.pending (some { cause := cause, left := Config.resetTicks })

/-- The oldest reply leaves its queue, and the next one goes on from its last stop bit without a pause (R162). -/
def Link.sent (k : Link) (r : Reply) (rest : List Reply) : Link :=
  { k with replies := rest, sending := if rest.isEmpty then 0 else k.sending - r.duration }

/-- REPLY_SENT (R162); after the RESET reply the reset with cause REQUEST begins (R164). -/
def execReplySent (s : State) : Host.Outcome State Fault Refusal :=
  .next (if s.replyOut then
    match s.link.replies with
    | [] => s
    | r :: rest =>
      if r.isReset then s.beginReset .request
      else { s with link := s.link.sent r rest }
  else s)

/-- POWER_ON (R165): a reset with cause POWER, whose 5 ms run once power is good. -/
def execPowerOn (good : Bool) (s : State) : Host.Outcome State Fault Refusal :=
  .next (State.beginReset { s with pins := { s.pins with powerGood := good } } .power)

/-- The cause of a reset that RST starts: PIN, but POWER within a power-on reset (R152; log 13). -/
def State.rstCause (s : State) : Cause :=
  match s.resetting with
  | some { cause := .power, .. } => .power
  | _ => .pin

/-- RST_PIN (R165): asserting RST starts or restarts a reset; releasing it ends the cause. -/
def execRstPin (asserted : Bool) (s : State) : Host.Outcome State Fault Refusal :=
  .next (if asserted then
    State.beginReset { s with pins := { s.pins with rst := true } } s.rstCause
  else if s.pins.rst then
    { s with
      pins := { s.pins with rst := false }
      resetting := s.resetting.map fun r => { r with left := Config.resetTicks } }
  else s)

/-- The 5 ms of a reset whose cause has ended have passed (R165). -/
def State.resetOver (s : State) : Bool :=
  s.pins.powerGood && !s.pins.rst &&
    match s.resetting with
    | some r => r.left == 0
    | none => false

/-- RESET_END (R165): device time 0, reset values, straps read, RESTARTED stored. -/
def execResetEnd (s : State) : Host.Outcome State Fault Refusal :=
  .next (match s.resetting with
    | some r => if s.resetOver then State.restarted s.pins s.pending r.cause else s
    | none => s)

end Sys2Proof.Machine
end

