-- ==== Sys2Proof/Machine/Notify.lean ====
section
/-!
DEFINITION. FETCH (spec/09_notifications.md). The storing of a record is NoteQueue.hand in
Machine/Ops.lean.
-/

namespace Sys2Proof.Machine

/-- FETCH of at most `k` records (R148). -/
def State.fetchNotes (s : State) (k : Nat) : State × Answer :=
  ({ s with notes := { s.notes with records := s.notes.records.drop k } },
    fetchAnswer (s.notes.records.drop k).length (s.notes.records.take k))

/-- FETCH (R148). -/
def ownFetch (payload : List Byte) (s : State) : State × Answer :=
  if payload.length = 1 then
    if 1 ≤ byteAt payload 0 ∧ byteAt payload 0 ≤ 4 then s.fetchNotes (byteAt payload 0)
    else refuse .badArg s
  else refuse .badArg s

/-- FETCH (R148). -/
def execFetch (seq : Byte) (payload : List Byte) (s : State) : Host.Outcome State Fault Refusal :=
  .next (s.serve seq 0x1C payload (ownFetch payload))

end Sys2Proof.Machine
end

