-- ==== Sys2Proof/Machine/Results.lean ====
section
/-!
DEFINITION. The result store (spec/06_result_frames.md): the buffers, the delivery of outcomes, its part
in frame close and frame start, and HOLD, READ_IMAGE, READ_STATUS, RELEASE.
-/

namespace Sys2Proof.Machine

/-- The lowest-numbered buffer in a state (R102). -/
def Three.find (bs : Three Buffer) (m : BufMode) : Option BufId :=
  if bs.b0.mode = m then some .b0
  else if bs.b1.mode = m then some .b1
  else if bs.b2.mode = m then some .b2
  else none

/-- Change the status element at a position. -/
def Buffer.mark (b : Buffer) (position : Nat) (f : Status → Status) : Buffer :=
  { b with status := b.status.modify position f }

/-- A delivery written into a FILLING buffer: the status element and, for OK and NODE_FAULT, the response
bytes at the result region of the position's entry (R104). -/
def Buffer.deliver (b : Buffer) (e : Option ScanEntry) (position : Nat) (o : Outcome) (attempts : Nat)
    (data : List Byte) : Buffer :=
  let b1 := b.mark position fun st =>
    { outcome := o, attempts := attempts, age := if o.isGood then 0 else st.age }
  match e with
  | some e =>
    if o.isGood then { b1 with image := b1.image.writeBytes e.resOffset (data.take e.m) } else b1
  | none => b1

/-- The FILLING buffer of the frame a claim belongs to, if that frame is still filling (R103). -/
def State.fillingFor (s : State) (c : CyclicClaim) : Option BufId :=
  match (s.buffers c.timer).find .filling with
  | some b =>
    if ((s.buffers c.timer).get b).run = c.run ∧ ((s.buffers c.timer).get b).frame = c.frame then some b
    else none
  | none => none

/-- The result store takes a final outcome of a cyclic claim, or discards it for a frame that has closed
(R103, R104). -/
def State.deliverResult (s : State) (c : CyclicClaim) (o : Outcome) (attempts : Nat) (data : List Byte) :
    State :=
  match s.fillingFor c with
  | some b =>
    s.onBuffer c.timer b fun buf => buf.deliver (s.entry c.timer c.position) c.position o attempts data
  | none => s

/-- Step 2 of a frame close for one position: OVERRUN, image and age as they were (R105). -/
def State.recordOverrun (s : State) (c : CyclicClaim) : State :=
  match s.fillingFor c with
  | some b =>
    s.onBuffer c.timer b fun buf => buf.mark c.position fun st =>
      { st with outcome := .overrun, attempts := c.attempt.sent }
  | none => s

/-- Step 3 of a frame close: the FILLING buffer becomes READY, an unheld READY buffer becomes FREE and
marks the new one dropped (R106). -/
def Three.close (bs : Three Buffer) : Three Buffer :=
  match bs.find .filling with
  | none => bs
  | some f =>
    match bs.find .ready with
    | some r =>
      (bs.set r { bs.get r with mode := .free }).set f { bs.get f with mode := .ready, dropped := true }
    | none => bs.set f { bs.get f with mode := .ready, dropped := false }

/-- A status element prepared for the next frame: NOT_RUN, attempts 0, age one more, at most 255 (R107). -/
def Status.aged (st : Status) : Status := { outcome := .notRun, attempts := 0, age := min (st.age + 1) 255 }

/-- The buffer prepared from the one just closed for a frame (R107). -/
def Buffer.next (closed : Buffer) (run : Half) (frame : Time) : Buffer :=
  { mode := .filling, run := run, frame := frame, dropped := false, image := closed.image
    status := closed.status.map Status.aged }

/-- Step 5 of a frame close: the lowest-numbered FREE buffer becomes the next FILLING buffer; `none` when
no buffer is FREE (R107). -/
def Three.prepare (bs : Three Buffer) (run : Half) (frame : Time) : Option (Three Buffer) :=
  match bs.find .free, bs.find .ready with
  | some f, some r => some (bs.set f ((bs.get r).next run frame))
  | _, _ => none

/-- The FILLING buffer of the first frame of a run; `none` when no buffer is FREE (R18, R102). -/
def Three.prepareFirst (bs : Three Buffer) (run : Half) : Option (Three Buffer) :=
  match bs.find .free with
  | some f => some (bs.set f { Buffer.reset with mode := .filling, run := run, frame := 0 })
  | none => none

/-- Change the FILLING buffer, if there is one. -/
def Three.onFilling (bs : Three Buffer) (f : Buffer → Buffer) : Three Buffer :=
  match bs.find .filling with
  | some b => bs.set b (f (bs.get b))
  | none => bs

/-- Every age becomes 255 (R109). -/
def Buffer.stale (b : Buffer) : Buffer := { b with status := b.status.map fun st => { st with age := 255 } }

/-- A status element under a newly committed table: age 255, NOT_RUN or EMPTY (R108). -/
def Status.recommit (st : Status) (e : Option ScanEntry) : Status :=
  { st with age := 255, outcome := if e.isSome then .notRun else .empty }

/-- A pending commit applied at a frame start, in the FILLING buffer (R108). -/
def Buffer.recommit (b : Buffer) (active : Table) : Buffer :=
  { b with status := b.status.zipWith Status.recommit active }

/-- Whether a phase selector is due in a frame (R21). -/
def Phase.due (p : Phase) (frame : Time) : Bool :=
  match p with
  | .every => true
  | .even => frame.toNat % 2 == 0
  | .odd => frame.toNat % 2 == 1
  | .nth d k => frame.toNat % d == k

/-- Step 4 of a frame start for one position: EMPTY or NOT_DUE, ages and attempts as they were (R108). -/
def Status.start (st : Status) (frame : Time) (e : Option ScanEntry) : Status :=
  match e with
  | none => { st with outcome := .empty }
  | some e => if e.phase.due frame then st else { st with outcome := .notDue }

/-- Step 4 of a frame start (R108). -/
def Buffer.start (b : Buffer) (frame : Time) (active : Table) : Buffer :=
  { b with status := b.status.zipWith (fun st e => st.start frame e) active }

/-- A stop frees the FILLING buffer (R110). -/
def Three.freeFilling (bs : Three Buffer) : Three Buffer :=
  bs.onFilling fun b => { b with mode := .free }

/-! ### Requests -/

/-- An OK to HOLD: identity, dropped flag and counts of the buffer (R112). -/
def holdAnswer (b : Buffer) : Answer :=
  { code := .ok
    fields := runFrame b.run b.frame ++
      [flagByte b.dropped, BitVec.ofNat 8 (executedCount b.status), BitVec.ofNat 8 (failedCount b.status),
        positionByte (firstFailed b.status)] }

/-- HOLD on the buffers of one timer (R111). -/
def Three.hold (bs : Three Buffer) : Three Buffer × Answer :=
  match bs.find .ready, bs.find .held with
  | some r, some h =>
    ((bs.set h { bs.get h with mode := .free }).set r { bs.get r with mode := .held }, holdAnswer (bs.get r))
  | some r, none => (bs.set r { bs.get r with mode := .held }, holdAnswer (bs.get r))
  | none, some h => (bs, { code := .noNewer, fields := runFrame (bs.get h).run (bs.get h).frame })
  | none, none => (bs, .plain .none)

/-- HOLD (R111). -/
def ownHold (payload : List Byte) (s : State) : State × Answer :=
  if payload.length = 1 then
    match timerOf (byteAt payload 0) with
    | some t => (s.onBuffers t fun bs => bs.hold.1, (s.buffers t).hold.2)
    | none => refuse .badArg s
  else refuse .badArg s

/-- HOLD (R111). -/
def execHold (seq : Byte) (payload : List Byte) (s : State) : Host.Outcome State Fault Refusal :=
  .next (s.serve seq 0x14 payload (ownHold payload))

/-- The HELD buffer of a timer. -/
def State.heldBuffer (s : State) (t : TimerId) : Option Buffer :=
  ((s.buffers t).find .held).map (s.buffers t).get

/-- READ_IMAGE (R114). -/
def ownReadImage (payload : List Byte) (s : State) : State × Answer :=
  if payload.length = 4 then
    let offset := halfAt payload 1
    let len := byteAt payload 3
    match timerOf (byteAt payload 0) with
    | some t =>
      if 1 ≤ len ∧ len ≤ 200 ∧ offset ≤ 1023 ∧ offset + len ≤ Config.resultSize then
        match s.heldBuffer t with
        | some b =>
          (s, { code := .ok
                fields := runFrame b.run b.frame ++ BitVec.ofNat 8 len :: b.image.readBytes offset len })
        | none => refuse .none s
      else refuse .badArg s
    | none => refuse .badArg s
  else refuse .badArg s

/-- READ_IMAGE (R114). -/
def execReadImage (seq : Byte) (payload : List Byte) (s : State) : Host.Outcome State Fault Refusal :=
  .next (s.serve seq 0x15 payload (ownReadImage payload))

/-- READ_STATUS (R115). -/
def ownReadStatus (payload : List Byte) (s : State) : State × Answer :=
  if payload.length = 3 then
    let first := byteAt payload 1
    let count := byteAt payload 2
    match timerOf (byteAt payload 0) with
    | some t =>
      if first ≤ 63 ∧ 1 ≤ count ∧ count ≤ 64 ∧ first + count ≤ Config.positions then
        match s.heldBuffer t with
        | some b =>
          (s, { code := .ok
                fields := runFrame b.run b.frame ++ BitVec.ofNat 8 first :: BitVec.ofNat 8 count ::
                  ((b.status.drop first).take count).flatMap Status.bytes })
        | none => refuse .none s
      else refuse .badArg s
    | none => refuse .badArg s
  else refuse .badArg s

/-- READ_STATUS (R115). -/
def execReadStatus (seq : Byte) (payload : List Byte) (s : State) : Host.Outcome State Fault Refusal :=
  .next (s.serve seq 0x16 payload (ownReadStatus payload))

/-- RELEASE on the buffers of one timer (R116). -/
def Three.release (bs : Three Buffer) : Three Buffer × Answer :=
  match bs.find .held with
  | some h => (bs.set h { bs.get h with mode := .free }, .plain .ok)
  | none => (bs, .plain .none)

/-- RELEASE (R116). -/
def ownRelease (payload : List Byte) (s : State) : State × Answer :=
  if payload.length = 1 then
    match timerOf (byteAt payload 0) with
    | some t => (s.onBuffers t fun bs => bs.release.1, (s.buffers t).release.2)
    | none => refuse .badArg s
  else refuse .badArg s

/-- RELEASE (R116). -/
def execRelease (seq : Byte) (payload : List Byte) (s : State) : Host.Outcome State Fault Refusal :=
  .next (s.serve seq 0x17 payload (ownRelease payload))

end Sys2Proof.Machine
end

