-- ==== Sys2Proof/Machine/Tables.lean ====
section
/-!
DEFINITION. The table store (spec/02_scan_tables_and_commit.md): worst-case durations, validation, the
applying of commits, revalidation, and STAGE_ENTRY, CLEAR_STAGED, READ_ENTRY, COMMIT, WITHDRAW.
-/

namespace Sys2Proof.Machine

/-! ### Durations on a lane (R26, R46) -/

/-- The bit time of a rate in ticks; 0 for OFF (R46). -/
def Rate.bitTime : Rate → Nat
  | .off => 0
  | .k125 => 8
  | .k250 => 4
  | .k500 => 2
  | .k1000 => 1

/-- The byte time: ten bit times (R46). -/
def Rate.byteTime (r : Rate) : Nat := 10 * r.bitTime

/-- The gap: two byte times (R46). -/
def Rate.gap (r : Rate) : Nat := 2 * r.byteTime

/-- The character limit: three byte times (R46). -/
def Rate.charLimit (r : Rate) : Nat := 3 * r.byteTime

/-- The worst-case duration of a transaction to a node with `n` request and `m` response bytes; node 0
is a broadcast (R26). -/
def LaneConfig.wcd (c : LaneConfig) (node n m : Nat) : Nat :=
  if node = 0 then (6 + n) * c.rate.byteTime else (8 + n + m) * c.rate.byteTime + c.rt

/-- The worst-case duration of a scan entry under the lane configurations (R26). -/
def ScanEntry.wcd (e : ScanEntry) (lanes : Four LaneConfig) : Nat :=
  (lanes.get e.lane).wcd e.node e.n e.m

/-! ### Validation (R29 to R33) -/

/-- The causes of a failed validation (R29). -/
inductive FailCause
  | lane
  | node
  | op
  | phase
  | round
  | tick
  | tooLong
  | region
  | overlap
deriving DecidableEq, Repr

/-- The value of a validation cause (R167). -/
def FailCause.code : FailCause → Byte
  | .lane => 1
  | .node => 2
  | .op => 3
  | .phase => 4
  | .round => 5
  | .tick => 6
  | .tooLong => 7
  | .region => 8
  | .overlap => 9

/-- Node 0 goes with WRITE only (R24). -/
def nodeFits (node : Nat) (op : Op) : Bool := node != 0 || op == .write

/-- The lengths an op may carry, each at most 32 (R24). -/
def lengthsFit (op : Op) (n m : Nat) : Bool :=
  match op with
  | .read => n == 0 && decide (1 ≤ m)
  | .write => decide (1 ≤ n) && m == 0
  | .exchange => decide (1 ≤ n) && decide (1 ≤ m)

/-- A phase selector in the form NTH(d, k) (R27). -/
def Phase.asNth : Phase → Nat × Nat
  | .every => (1, 0)
  | .even => (2, 0)
  | .odd => (2, 1)
  | .nth d k => (d, k)

/-- Whether two phase selectors can be due in the same frame (R27). -/
def Phase.meets (p q : Phase) : Bool :=
  p.asNth.2 % Nat.gcd p.asNth.1 q.asNth.1 == q.asNth.2 % Nat.gcd p.asNth.1 q.asNth.1

/-- PHASE: k is below d (R30). -/
def Phase.valid : Phase → Bool
  | .nth d k => decide (k < d)
  | _ => true

/-- Two result regions share a byte (R25, R32). -/
def regionsMeet (a b : ScanEntry) : Bool :=
  decide (0 < a.m) && decide (0 < b.m) && decide (a.resOffset < b.resOffset + b.m) &&
    decide (b.resOffset < a.resOffset + a.m)

/-- OVERLAP of entry `b` with the entry `a` of a lower position (R33). -/
def ScanEntry.overlaps (b a : ScanEntry) (lanes : Four LaneConfig) : Bool :=
  a.lane == b.lane && a.round == b.round && a.phase.meets b.phase &&
    if a.startTick ≤ b.startTick then decide (b.startTick < a.startTick + a.wcd lanes)
    else decide (a.startTick < b.startTick + b.wcd lanes)

/-- The first check an entry fails, against the entries of lower positions (R29). -/
def ScanEntry.firstFailure (e : ScanEntry) (c : TimerConfig) (lanes : Four LaneConfig)
    (lower : List ScanEntry) : Option FailCause :=
  if (lanes.get e.lane).rate = .off then some .lane
  else if !nodeFits e.node e.op then some .node
  else if !lengthsFit e.op e.n e.m then some .op
  else if !e.phase.valid then some .phase
  else if ¬ e.round < c.rpf - c.q then some .round
  else if e.startTick < c.g ∨ ¬ e.startTick < c.s then some .tick
  else if c.tpr < e.startTick + e.wcd lanes then some .tooLong
  else if Config.outputSize < e.outOffset + e.n ∨ Config.resultSize < e.resOffset + e.m ∨
      lower.any (regionsMeet e) then some .region
  else if lower.any fun a => e.overlaps a lanes then some .overlap
  else none

/-- The walk over the positions from `position` on, with the entries already passed (R29). -/
def validateFrom (c : TimerConfig) (lanes : Four LaneConfig) (position : Nat) (lower : List ScanEntry) :
    Table → Option (Nat × FailCause)
  | [] => none
  | none :: rest => validateFrom c lanes (position + 1) lower rest
  | some e :: rest =>
    match e.firstFailure c lanes lower with
    | some cause => some (position, cause)
    | none => validateFrom c lanes (position + 1) (lower ++ [e]) rest

/-- Validation of a table: the first failing position and its cause (R29). -/
def Table.validate (t : Table) (c : TimerConfig) (lanes : Four LaneConfig) : Option (Nat × FailCause) :=
  validateFrom c lanes 0 [] t

/-- The configurations of all lanes. -/
def State.laneConfigs (s : State) : Four LaneConfig := s.lanes.map Lane.config

/-- A table passes validation under a timer configuration and the lane configurations. -/
def Table.valid (t : Table) (c : TimerConfig) (lanes : Four LaneConfig) : Bool :=
  (t.validate c lanes).isNone

/-- TABLE_CONFLICT: timer, table (STAGED 0, ACTIVE 1), position, cause (R41, R169). -/
def conflictAnswer (t : TimerId) (table : Byte) (failure : Nat × FailCause) : Answer :=
  { code := .tableConflict
    fields := [timerCode t, table, BitVec.ofNat 8 failure.1, failure.2.code] }

/-- Revalidation of one timer's active table, and of its staged table where a commit is pending, against
proposed lane configurations (R43). -/
def State.laneConflict (s : State) (t : TimerId) (lanes : Four LaneConfig) : Option Answer :=
  match (s.table t).active.validate (s.timer t).config lanes with
  | some failure => some (conflictAnswer t 1 failure)
  | none =>
    if (s.timer t).pendingCommit then
      ((s.table t).staged.validate (s.timer t).config lanes).map (conflictAnswer t 0)
    else none

/-! ### Commits and publishes (R19, R34, R35, R121, R122) -/

/-- A frame is in progress (R4). -/
def TimerMode.inFrame : TimerMode → Bool
  | .running => true
  | .draining => true
  | _ => false

/-- The staged table becomes the active table and is unfrozen (R34, R35). -/
def Tables.apply (t : Tables) : Tables := { t with active := t.staged, frozen := false }

/-- Apply a pending commit where the timer stops: the copy, the flag and COMMIT_DONE (R19). -/
def State.applyCommit (s : State) (t : TimerId) : State :=
  if (s.timer t).pendingCommit then
    ((s.onTables t Tables.apply).onTimer t fun x => { x with pendingCommit := false }).notify
      (.commitDone t (s.timer t).run (s.timer t).frame)
  else s

/-- Apply a pending publish: the staged image becomes the active image (R122). -/
def State.applyPublish (s : State) (t : TimerId) : State :=
  if (s.timer t).pendingPublish then
    (s.onOutputs t fun o => { o with active := o.staged }).onTimer t fun x =>
      { x with pendingPublish := false }
  else s

/-! ### Requests -/

/-- STAGE_ENTRY for a timer and position in range (R38 steps 2 to 4). -/
def State.stage (s : State) (t : TimerId) (position : Nat) (payload : List Byte) : State × Answer :=
  let flags := byteAt payload 2
  if (s.table t).frozen then refuse .pending s
  else if flags % 2 = 1 then
    (s.onTables t fun x => { x with staged := x.staged.set position none }, .plain .ok)
  else
    match parseEntry (payload.drop 3) (flags / 2 % 2 == 1) with
    | some e => (s.onTables t fun x => { x with staged := x.staged.set position (some e) }, .plain .ok)
    | none => refuse .badArg s

/-- STAGE_ENTRY (R38). -/
def ownStageEntry (payload : List Byte) (s : State) : State × Answer :=
  if payload.length = 20 then
    match timerOf (byteAt payload 0) with
    | some t =>
      if byteAt payload 1 ≤ 63 ∧ byteAt payload 2 ≤ 3 then s.stage t (byteAt payload 1) payload
      else refuse .badArg s
    | none => refuse .badArg s
  else refuse .badArg s

/-- STAGE_ENTRY (R38). -/
def execStageEntry (seq : Byte) (payload : List Byte) (s : State) : Host.Outcome State Fault Refusal :=
  .next (s.serve seq 0x0A payload (ownStageEntry payload))

/-- CLEAR_STAGED (R39). -/
def ownClearStaged (payload : List Byte) (s : State) : State × Answer :=
  if payload.length = 1 then
    match timerOf (byteAt payload 0) with
    | some t =>
      if (s.table t).frozen then refuse .pending s
      else
        (s.onTables t fun x => { x with staged := List.replicate Config.positions none }, .plain .ok)
    | none => refuse .badArg s
  else refuse .badArg s

/-- CLEAR_STAGED (R39). -/
def execClearStaged (seq : Byte) (payload : List Byte) (s : State) : Host.Outcome State Fault Refusal :=
  .next (s.serve seq 0x0B payload (ownClearStaged payload))

/-- READ_ENTRY (R40). -/
def ownReadEntry (payload : List Byte) (s : State) : State × Answer :=
  if payload.length = 3 then
    match timerOf (byteAt payload 0) with
    | some t =>
      if byteAt payload 1 ≤ 1 ∧ byteAt payload 2 ≤ 63 then
        let table := if byteAt payload 1 = 0 then (s.table t).staged else (s.table t).active
        (s, entryAnswer (table.getD (byteAt payload 2) none) (s.table t).frozen)
      else refuse .badArg s
    | none => refuse .badArg s
  else refuse .badArg s

/-- READ_ENTRY (R40). -/
def execReadEntry (seq : Byte) (payload : List Byte) (s : State) : Host.Outcome State Fault Refusal :=
  .next (s.serve seq 0x0C payload (ownReadEntry payload))

/-- A valid COMMIT applied at once: the copy and, in WAITING, stale ages in the prepared FILLING buffer
(R34, R109). -/
def State.commitNow (s : State) (t : TimerId) : State :=
  match (s.timer t).mode with
  | .waiting => (s.onTables t Tables.apply).onBuffers t fun bs => bs.onFilling Buffer.stale
  | _ => s.onTables t Tables.apply

/-- A valid COMMIT made pending (R35). -/
def State.commitLater (s : State) (t : TimerId) : State :=
  (s.onTables t fun x => { x with frozen := true }).onTimer t fun x => { x with pendingCommit := true }

/-- COMMIT of a timer (R28 steps 2 to 5). -/
def State.commitTable (s : State) (t : TimerId) : State × Answer :=
  if (s.timer t).pendingCommit then refuse .pending s
  else
    match (s.table t).staged.validate (s.timer t).config s.laneConfigs with
    | some (position, cause) =>
      (s, { code := .invalid, fields := [BitVec.ofNat 8 position, cause.code] })
    | none =>
      if (s.timer t).mode.inFrame then (s.commitLater t, .plain .pendingAccepted)
      else (s.commitNow t, .plain .ok)

/-- COMMIT (R28). -/
def ownCommit (payload : List Byte) (s : State) : State × Answer :=
  if payload.length = 1 then
    match timerOf (byteAt payload 0) with
    | some t => s.commitTable t
    | none => refuse .badArg s
  else refuse .badArg s

/-- COMMIT (R28). -/
def execCommit (seq : Byte) (payload : List Byte) (s : State) : Host.Outcome State Fault Refusal :=
  .next (s.serve seq 0x0D payload (ownCommit payload))

/-- WITHDRAW (R37). -/
def ownWithdraw (payload : List Byte) (s : State) : State × Answer :=
  if payload.length = 1 then
    match timerOf (byteAt payload 0) with
    | some t =>
      if (s.timer t).pendingCommit then
        ((s.onTimer t fun x => { x with pendingCommit := false }).onTables t fun x =>
          { x with frozen := false }, .plain .ok)
      else refuse .none s
    | none => refuse .badArg s
  else refuse .badArg s

/-- WITHDRAW (R37). -/
def execWithdraw (seq : Byte) (payload : List Byte) (s : State) : Host.Outcome State Fault Refusal :=
  .next (s.serve seq 0x0E payload (ownWithdraw payload))

end Sys2Proof.Machine
end

