-- ==== Sys2Proof/Machine/Output.lean ====
section
/-!
DEFINITION. The output store and the host supervisor (spec/07_output_images_and_host_supervision.md):
WRITE_OUTPUT, WRITE_FALLBACK, PUBLISH, SET_SUPERVISION, RESUME and the expiry.
-/

namespace Sys2Proof.Machine

/-- The timer of a write payload that passes the checks of R119: timer, offset, length, data. -/
def parseWrite (p : List Byte) : Option TimerId :=
  if 4 ≤ p.length ∧ p.length = 4 + byteAt p 3 then
    if 1 ≤ byteAt p 3 ∧ byteAt p 3 ≤ 200 ∧ halfAt p 1 ≤ 511 ∧ halfAt p 1 + byteAt p 3 ≤ Config.outputSize then
      timerOf (byteAt p 0)
    else none
  else none

/-- WRITE_OUTPUT (R119). -/
def ownWriteOutput (payload : List Byte) (s : State) : State × Answer :=
  match parseWrite payload with
  | some t =>
    (s.onOutputs t fun o => { o with staged := o.staged.writeBytes (halfAt payload 1) (payload.drop 4) },
      .plain .ok)
  | none => refuse .badArg s

/-- WRITE_OUTPUT (R119). -/
def execWriteOutput (seq : Byte) (payload : List Byte) (s : State) : Host.Outcome State Fault Refusal :=
  .next (s.serve seq 0x0F payload (ownWriteOutput payload))

/-- WRITE_FALLBACK (R120). -/
def ownWriteFallback (payload : List Byte) (s : State) : State × Answer :=
  match parseWrite payload with
  | some t =>
    (s.onOutputs t fun o =>
        { o with fallback := o.fallback.writeBytes (halfAt payload 1) (payload.drop 4), armed := true },
      .plain .ok)
  | none => refuse .badArg s

/-- WRITE_FALLBACK (R120). -/
def execWriteFallback (seq : Byte) (payload : List Byte) (s : State) : Host.Outcome State Fault Refusal :=
  .next (s.serve seq 0x10 payload (ownWriteFallback payload))

/-- PUBLISH of a timer (R121). -/
def State.publishImage (s : State) (t : TimerId) : State × Answer :=
  if s.supervisor.mode = .expired then refuse .hostLost s
  else if (s.timer t).mode.inFrame then
    if (s.timer t).pendingPublish then refuse .ok s
    else (s.onTimer t fun x => { x with pendingPublish := true }, .plain .pendingAccepted)
  else
    ((s.onOutputs t fun o => { o with active := o.staged }).onTimer t fun x =>
      { x with pendingPublish := false }, .plain .ok)

/-- PUBLISH (R121). -/
def ownPublish (payload : List Byte) (s : State) : State × Answer :=
  if payload.length = 1 then
    match timerOf (byteAt payload 0) with
    | some t => s.publishImage t
    | none => refuse .badArg s
  else refuse .badArg s

/-- PUBLISH (R121). -/
def execPublish (seq : Byte) (payload : List Byte) (s : State) : Host.Outcome State Fault Refusal :=
  .next (s.serve seq 0x11 payload (ownPublish payload))

/-- SET_SUPERVISION with a period in ms (R126). -/
def State.superviseFor (s : State) (period : Nat) : State × Answer :=
  if (1 ≤ period ∧ period ≤ 9) ∨ 60000 < period then refuse .badArg s
  else if s.supervisor.mode = .expired then refuse .badState s
  else if period = 0 then
    ({ s with supervisor := { mode := .off, period := 0, remaining := 0 } }, .plain .ok)
  else
    ({ s with supervisor := { mode := .armed, period := period, remaining := period * 1000 } }, .plain .ok)

/-- SET_SUPERVISION (R126). -/
def ownSetSupervision (payload : List Byte) (s : State) : State × Answer :=
  if payload.length = 2 then s.superviseFor (halfAt payload 0) else refuse .badArg s

/-- SET_SUPERVISION (R126). -/
def execSetSupervision (seq : Byte) (payload : List Byte) (s : State) :
    Host.Outcome State Fault Refusal :=
  .next (s.serve seq 0x12 payload (ownSetSupervision payload))

/-- RESUME (R130). -/
def ownResume (payload : List Byte) (s : State) : State × Answer :=
  match payload with
  | [] =>
    if s.supervisor.mode = .expired then
      ({ s with supervisor :=
          { s.supervisor with mode := .armed, remaining := s.supervisor.period * 1000 } }, .plain .ok)
    else refuse .none s
  | _ => refuse .badArg s

/-- RESUME (R130). -/
def execResume (seq : Byte) (payload : List Byte) (s : State) : Host.Outcome State Fault Refusal :=
  .next (s.serve seq 0x13 payload (ownResume payload))

/-- The expiry is due: the supervisor is ARMED with no time remaining (R128). -/
def State.supervisionOver (s : State) : Bool :=
  s.resetting.isNone && s.supervisor.mode == .armed && s.supervisor.remaining == 0

/-- Step 2 of an expiry for one timer (R128). -/
def Outputs.fallBack (o : Outputs) : Outputs := if o.armed then { o with active := o.fallback } else o

/-- The expiry as one operation (R128). -/
def State.expireHost (s : State) : State :=
  let s1 : State := { s with
    supervisor := { s.supervisor with mode := .expired, remaining := 0 }
    outputs := ⟨s.outputs.a.fallBack, s.outputs.b.fallBack⟩
    timers := ⟨{ s.timers.a with pendingPublish := false }, { s.timers.b with pendingPublish := false }⟩ }
  s1.notify .hostLost

/-- SUPERVISION_EXPIRY (R128). -/
def execSupervisionExpiry (s : State) : Host.Outcome State Fault Refusal :=
  .next (if s.supervisionOver then s.expireHost else s)

end Sys2Proof.Machine
end

