-- ==== Sys2Proof/Machine/Roster.lean ====
section
/-!
DEFINITION. The node roster (spec/05_node_roster.md): how outcomes change a record, suppression at
posting, the part of CONFIGURE_LANE, READ_NODE and FORGET_NODE.
-/

namespace Sys2Proof.Machine

/-- The record of a node 1 to 15 on a lane (R87). -/
def State.node (s : State) (l : LaneId) (node : Nat) : NodeRecord :=
  (s.roster.get l).getD (node - 1) .reset

/-- Replace the record of a node on a lane. -/
def State.setNode (s : State) (l : LaneId) (node : Nat) (r : NodeRecord) : State :=
  { s with roster := s.roster.set l ((s.roster.get l).set (node - 1) r) }

/-- OK or NODE_FAULT applied at a device time (R89). -/
def NodeRecord.seen (r : NodeRecord) (o : Outcome) (now : Time) : NodeRecord :=
  { r with mode := .online, missCount := 0, countdown := none, lastOutcome := some o, lastSeen := some now }

/-- A miss on a record that is ABSENT or ONLINE, under the lane's configuration (R90). -/
def NodeRecord.missed (r : NodeRecord) (o : Outcome) (c : LaneConfig) : NodeRecord :=
  if r.missCount + 1 < c.missLimit then
    { r with missCount := r.missCount + 1, lastOutcome := some o }
  else
    { r with mode := .silent, missCount := 0, countdown := some c.probeInterval, lastOutcome := some o }

/-- An outcome applied to a record (R89 to R92). -/
def NodeRecord.apply (r : NodeRecord) (o : Outcome) (c : LaneConfig) (now : Time) : NodeRecord :=
  if o.isGood then r.seen o now
  else if o.isMiss && r.mode != .silent then r.missed o c
  else { r with lastOutcome := some o }

/-- The notification an outcome causes: NODE_BACK when a SILENT record answers, NODE_SILENT when a record
becomes SILENT (R97). -/
def nodeNote (l : LaneId) (node : Nat) (before after : NodeRecord) : Option NoteBody :=
  match before.mode, after.mode with
  | .silent, .online => some (.nodeBack l node)
  | .absent, .silent => some (.nodeSilent l node)
  | .online, .silent => some (.nodeSilent l node)
  | _, _ => none

/-- Hand over a record where there is one. -/
def State.notifyIf (s : State) : Option NoteBody → State
  | some body => s.notify body
  | none => s

/-- The roster takes an outcome for a node; broadcast, node 0, reaches it with nothing (R75, R88). -/
def State.rosterOutcome (s : State) (l : LaneId) (node : Nat) (o : Outcome) : State :=
  if node = 0 then s
  else
    let before := s.node l node
    let after := before.apply o (s.lane l).config s.time
    (s.setNode l node after).notifyIf (nodeNote l node before after)

/-- The roster's answer to a suppression query and the record after it (R93): `true` is suppress. -/
def NodeRecord.query (r : NodeRecord) (c : LaneConfig) : Bool × NodeRecord :=
  match r.mode, r.countdown with
  | .silent, some k =>
    if 1 < k then (true, { r with countdown := some (k - 1) })
    else (false, { r with countdown := some c.probeInterval })
  | _, _ => (false, r)

/-- The roster's part of a taken CONFIGURE_LANE, for one record (R94). -/
def NodeRecord.reconfigure (r : NodeRecord) (c : LaneConfig) : NodeRecord :=
  { r with
    missCount := 0
    countdown := match r.mode with
      | .silent => some c.probeInterval
      | _ => r.countdown }

/-- The lane and node of a READ_NODE or FORGET_NODE payload, when both are in range (R95, R96). -/
def parseNode (p : List Byte) : Option (LaneId × Nat) :=
  match laneOf (byteAt p 0) with
  | some l => if 1 ≤ byteAt p 1 ∧ byteAt p 1 ≤ 15 then some (l, byteAt p 1) else none
  | none => none

/-- READ_NODE (R96). -/
def ownReadNode (payload : List Byte) (s : State) : State × Answer :=
  if payload.length = 2 then
    match parseNode payload with
    | some (l, node) => (s, nodeAnswer (s.node l node) (s.lane l).config)
    | none => refuse .badArg s
  else refuse .badArg s

/-- READ_NODE (R96). -/
def execReadNode (seq : Byte) (payload : List Byte) (s : State) : Host.Outcome State Fault Refusal :=
  .next (s.serve seq 0x1A payload (ownReadNode payload))

/-- FORGET_NODE (R95). -/
def ownForgetNode (payload : List Byte) (s : State) : State × Answer :=
  if payload.length = 2 then
    match parseNode payload with
    | some (l, node) => (s.setNode l node .reset, .plain .ok)
    | none => refuse .badArg s
  else refuse .badArg s

/-- FORGET_NODE (R95). -/
def execForgetNode (seq : Byte) (payload : List Byte) (s : State) : Host.Outcome State Fault Refusal :=
  .next (s.serve seq 0x1B payload (ownForgetNode payload))

end Sys2Proof.Machine
end

