-- ==== Sys2Proof/Machine/Acyclic.lean ====
section
/-!
DEFINITION. The acyclic table (spec/08_acyclic_transactions.md): TRANSACT, CANCEL, the timeout and the
completion of an entry.
-/

namespace Sys2Proof.Machine

/-- The entry with a tag (R131: tags are distinct). -/
def State.acyclicEntry (s : State) (tag : Half) : Option AcyclicEntry :=
  s.acyclic.find? fun e => e.tag == tag

/-- Change the entry with a tag. -/
def State.onAcyclic (s : State) (tag : Half) (f : AcyclicEntry → AcyclicEntry) : State :=
  { s with acyclic := s.acyclic.map fun e => if e.tag = tag then f e else e }

/-- Steps 1 and 2 of a completion: the entry leaves the table and TRANSACT_DONE is handed over, with the
response data for OK and NODE_FAULT only (R140). -/
def State.completeAcyclic (s : State) (tag : Half) (o : Outcome) (attempts : Nat) (data : List Byte) :
    State :=
  State.notify { s with acyclic := s.acyclic.filter fun e => e.tag != tag }
    (.transactDone tag o attempts (if o.isGood then data else []))

/-- Whether a claim is the acyclic claim with a tag. -/
def Claim.hasTag (c : Claim) (tag : Half) : Bool :=
  match c with
  | .acyclic t _ => t == tag
  | .cyclic _ => false

/-- The acyclic table's own completion of a WAITING entry, on timeout or CANCEL: its claim leaves the
lane's list, the entry completes, and the roster is served for a unicast entry (R136, R138, R140). -/
def State.dropAcyclic (s : State) (e : AcyclicEntry) (o : Outcome) : State :=
  let s1 := s.onLane e.lane fun l => { l with claims := l.claims.filter fun c => !c.hasTag e.tag }
  (s1.completeAcyclic e.tag o e.attempt.waited []).rosterOutcome e.lane e.node (e.attempt.rosterOutcome o)

/-! ### TRANSACT -/

/-- The entry of a TRANSACT payload, when it passes step 1 of R132; accepted at `now`. -/
def parseTransact (p : List Byte) (now : Time) : Option AcyclicEntry :=
  match laneOf (byteAt p 2), opOf (byteAt p 4) with
  | some lane, some op =>
    if byteAt p 3 ≤ 15 ∧ byteAt p 5 ≤ 32 ∧ byteAt p 6 ≤ 32 ∧ 1 ≤ halfAt p 7 ∧ byteAt p 9 ≤ 1 ∧
        nodeFits (byteAt p 3) op ∧ lengthsFit op (byteAt p 5) (byteAt p 6) then
      some { tag := BitVec.ofNat 16 (halfAt p 0), lane := lane, node := byteAt p 3, op := op
             request := p.drop 10, m := byteAt p 6, timeout := halfAt p 7, retry := byteAt p 9 == 1
             acceptedAt := now, inFlight := false, attempt := .first, runOut := false }
    else none
  | _, _ => none

/-- Steps 2 to 5 of R132: the refusal, if any. -/
def State.transactRefusal (s : State) (e : AcyclicEntry) : Option ReplyCode :=
  if Config.acyclicLimit ≤ s.acyclic.length then some .full
  else if (s.acyclicEntry e.tag).isSome then some .tagInUse
  else
    match (s.lane e.lane).mode with
    | .disabled => some .badState
    | .lineFault => some .badState
    | .sleeping => some .asleep
    | .asleep => some .asleep
    | _ => none

/-- An accepted TRANSACT: the entry is stored and its claim enters the list at the end (R133). -/
def State.acceptTransact (s : State) (e : AcyclicEntry) : State :=
  State.onLane { s with acyclic := s.acyclic ++ [e] } e.lane fun l =>
    { l with claims := l.claims ++ [.acyclic e.tag .first] }

/-- TRANSACT (R132, R133). -/
def ownTransact (payload : List Byte) (s : State) : State × Answer :=
  if 10 ≤ payload.length ∧ payload.length = 10 + byteAt payload 5 then
    match parseTransact payload s.time with
    | some e =>
      match s.transactRefusal e with
      | some code => refuse code s
      | none => (s.acceptTransact e, .plain .accepted)
    | none => refuse .badArg s
  else refuse .badArg s

/-- TRANSACT (R132, R133). -/
def execTransact (seq : Byte) (payload : List Byte) (s : State) : Host.Outcome State Fault Refusal :=
  .next (s.serve seq 0x18 payload (ownTransact payload))

/-! ### CANCEL and the timeout -/

/-- CANCEL (R138). -/
def ownCancel (payload : List Byte) (s : State) : State × Answer :=
  if payload.length = 2 then
    match s.acyclicEntry (BitVec.ofNat 16 (halfAt payload 0)) with
    | some e =>
      if e.inFlight then refuse .inFlight s else (s.dropAcyclic e .cancelled, .plain .ok)
    | none => refuse .notFound s
  else refuse .badArg s

/-- CANCEL (R138). -/
def execCancel (seq : Byte) (payload : List Byte) (s : State) : Host.Outcome State Fault Refusal :=
  .next (s.serve seq 0x19 payload (ownCancel payload))

/-- The timeout of an entry has run out: timeout × 1000 ticks have passed since acceptance (R133). -/
def AcyclicEntry.timeOver (e : AcyclicEntry) (now : Time) : Bool :=
  decide (e.timeout * 1000 ≤ (now - e.acceptedAt).toNat)

/-- A timeout that is to be taken: it has run out and the entry is WAITING or not marked yet (R136; for a
marked entry that has returned to WAITING, R137; log 12). -/
def AcyclicEntry.timeoutDue (e : AcyclicEntry) (now : Time) : Bool :=
  e.timeOver now && !(e.inFlight && e.runOut)

/-- The timeout of an entry, as one happening (R136, R137). -/
def State.timeOut (s : State) (e : AcyclicEntry) : State :=
  if e.inFlight then s.onAcyclic e.tag fun x => { x with runOut := true }
  else s.dropAcyclic e .expired

/-- ACYCLIC_TIMEOUT (R136, R137). -/
def execAcyclicTimeout (tag : Half) (s : State) : Host.Outcome State Fault Refusal :=
  .next (match s.acyclicEntry tag with
    | some e => if s.resetting.isNone && e.timeoutDue s.time then s.timeOut e else s
    | none => s)

end Sys2Proof.Machine
end

