-- ==== Sys2Proof/Machine/Lanes.lean ====
section
/-!
DEFINITION. Lane controllers and arbitration (spec/04_lane_controllers_and_arbitration.md): the claim
list, delivery of outcomes, posting, grant with the quiet budget, deadline expiry, the end of a
transaction with its retries, withdrawal, sleep, wake, line fault, and CONFIGURE_LANE.
-/

namespace Sys2Proof.Machine

/-! ### The claim list (R67) -/

/-- Whether a claim is cyclic. -/
def Claim.isCyclic : Claim → Bool
  | .cyclic _ => true
  | .acyclic .. => false

/-- The attempt of a claim. -/
def Claim.attempt : Claim → Attempt
  | .cyclic c => c.attempt
  | .acyclic _ a => a

/-- Where a deadline stands when counted forward from half a wrap before the present device time, so that
the wrap does not disturb the order (R67; log 10). -/
def deadlineRank (now deadline : Time) : Nat := (deadline - now + 0x80000000#32).toNat

/-- A deadline has passed: it lies before the present tick (R72). -/
def deadlinePassed (now deadline : Time) : Bool := decide (deadlineRank now deadline < 2147483648)

/-- The order among cyclic claims of attempt 1: deadline, then timer A before B, then position (R67). -/
def CyclicClaim.before (now : Time) (c d : CyclicClaim) : Bool :=
  let rc := deadlineRank now c.deadline
  let rd := deadlineRank now d.deadline
  decide (rc < rd) || (rc == rd &&
    match c.timer, d.timer with
    | .a, .b => true
    | .b, .a => false
    | _, _ => decide (c.position < d.position))

/-- Insert a cyclic claim of attempt 1 at its place (R67 items 1 to 3). -/
def insertCyclic (now : Time) (c : CyclicClaim) : List Claim → List Claim
  | [] => [.cyclic c]
  | .acyclic tag a :: rest => .cyclic c :: .acyclic tag a :: rest
  | .cyclic d :: rest =>
    match d.attempt with
    | .retry _ => .cyclic d :: insertCyclic now c rest
    | .first =>
      if c.before now d then .cyclic c :: .cyclic d :: rest else .cyclic d :: insertCyclic now c rest

/-- Insert an acyclic retry claim: first among the acyclic claims (R67 item 3, R77). -/
def insertAcyclicRetry (c : Claim) : List Claim → List Claim
  | [] => [c]
  | d :: rest => if d.isCyclic then d :: insertAcyclicRetry c rest else c :: d :: rest

/-! ### Delivery of final outcomes (R75) -/

/-- Deliver the final outcome of a claim that ends while it waits: to its owner, then to the roster for a
unicast claim. Attempts are 0, or 1 for a retry claim, whose carried wire outcome the roster receives. -/
def State.deliverWaiting (s : State) (l : LaneId) (o : Outcome) (c : Claim) : State :=
  match c with
  | .cyclic k =>
    let s1 := s.deliverResult k o k.attempt.waited []
    match s.entry k.timer k.position with
    | some e => s1.rosterOutcome l e.node (k.attempt.rosterOutcome o)
    | none => s1
  | .acyclic tag a =>
    match s.acyclicEntry tag with
    | some e => (s.completeAcyclic tag o a.waited []).rosterOutcome l e.node (a.rosterOutcome o)
    | none => s

/-- Deliver one outcome for each of several waiting claims, in order. -/
def State.deliverAll (s : State) (l : LaneId) (o : Outcome) (claims : List Claim) : State :=
  claims.foldl (fun s c => s.deliverWaiting l o c) s

/-- Deliver the final outcome of a transaction: to the owner of its claim, then to the roster. -/
def State.deliverFinal (s : State) (l : LaneId) (f : InFlight) (o : Outcome) (data : List Byte) : State :=
  match f.claim with
  | .cyclic k => (s.deliverResult k o k.attempt.sent data).rosterOutcome l f.node o
  | .acyclic tag a => (s.completeAcyclic tag o a.sent data).rosterOutcome l f.node o

/-- Empty the claim list and resolve every claim in list order (R82, R85). -/
def State.resolveAll (s : State) (l : LaneId) (o : Outcome) : State :=
  (s.onLane l fun x => { x with claims := [] }).deliverAll l o (s.lane l).claims

/-! ### Posting (R68) -/

/-- Put a cyclic claim into its lane's list. -/
def State.enlist (s : State) (l : LaneId) (c : CyclicClaim) : State :=
  s.onLane l fun x => { x with claims := insertCyclic s.time c x.claims }

/-- A lane that carries claims decides a posted claim: suppressed for a SILENT node but for a probe,
otherwise put into the list (R68 steps 2 and 3, R93). -/
def State.postToLane (s : State) (l : LaneId) (node : Nat) (c : CyclicClaim) : State :=
  if node = 0 then s.enlist l c
  else
    let answer := (s.node l node).query (s.lane l).config
    let s1 := s.setNode l node answer.2
    if answer.1 then s1.deliverWaiting l .suppressed (.cyclic c) else s1.enlist l c

/-- The lane controller decides a posted cyclic claim (R68). A DISABLED lane is never named (R20). -/
def State.post (s : State) (e : ScanEntry) (c : CyclicClaim) : State :=
  match (s.lane e.lane).mode with
  | .disabled => s
  | .ready => s.postToLane e.lane e.node c
  | .busy => s.postToLane e.lane e.node c
  | .sleeping => s.deliverWaiting e.lane .asleep (.cyclic c)
  | .asleep => s.deliverWaiting e.lane .asleep (.cyclic c)
  | .waking => s.deliverWaiting e.lane .asleep (.cyclic c)
  | .lineFault => s.deliverWaiting e.lane .lineFault (.cyclic c)

/-! ### Quiet budget (R2, R71) -/

/-- The present tick is in the timer's quiet time (R2). The tick at which a close is due belongs to no
round of the frame that has passed (log 7). -/
def Timer.inQuietTime (t : Timer) : Bool :=
  !t.closeDue && (decide (t.config.rpf - t.config.q ≤ t.round) || decide (t.config.s ≤ t.tick))

/-- The ticks remaining until the timer's next open-window start, which at a guard tick is that of the present
round (DEDUCED, log 26); `none` is unbounded (R2). -/
def Timer.untilOpen (t : Timer) : Option Nat :=
  if t.round < t.config.rpf - t.config.q ∧ t.tick < t.config.g then some (t.config.g - t.tick)
  else if t.round + 1 < t.config.rpf - t.config.q then some (t.config.tpr - t.tick + t.config.g)
  else if t.mode = .draining then none
  else some ((t.config.rpf - t.round) * t.config.tpr - t.tick + t.config.g)

/-- A timer passes both tests of the quiet budget for a worst-case duration (R71). -/
def Timer.leaves (t : Timer) (wcd : Nat) : Bool :=
  t.inQuietTime &&
    match t.untilOpen with
    | some ticks => decide (wcd ≤ ticks)
    | none => true

/-- A table holds an entry on a lane, whatever its phase (R71). -/
def Table.uses (t : Table) (l : LaneId) : Bool :=
  t.any fun e => match e with
    | some e => e.lane == l
    | none => false

/-- A timer imposes nothing on a lane, or leaves enough quiet time (R71). -/
def State.budgetOf (s : State) (l : LaneId) (wcd : Nat) (t : TimerId) : Bool :=
  !(s.timer t).mode.inFrame || !(s.table t).active.uses l || (s.timer t).leaves wcd

/-- The quiet budget is met for an acyclic entry on its lane (R71). -/
def State.budgetMet (s : State) (l : LaneId) (e : AcyclicEntry) : Bool :=
  let wcd := (s.lane l).config.wcd e.node e.request.length e.m
  s.budgetOf l wcd .a && s.budgetOf l wcd .b

/-! ### Grant (R70, R73) -/

/-- The line is quiet (R48). -/
def Lane.isQuiet (l : Lane) : Bool := decide (halves l.config.rate.gap ≤ l.quiet)

/-- The claim a grant would take, with the list without it: the head where any cyclic claim waits,
otherwise the first acyclic claim (R70). As cyclic claims stand before acyclic ones, it is the head. -/
def chooseClaim : List Claim → Option (Claim × List Claim)
  | [] => none
  | c :: rest => some (c, rest)

/-- The in-flight record of a cyclic claim, its request bytes copied from the active image (R73, R124). -/
def State.cyclicFlight (s : State) (k : CyclicClaim) : Option InFlight :=
  (s.entry k.timer k.position).map fun e =>
    { claim := .cyclic k, node := e.node, op := e.op, m := e.m
      request := (s.output k.timer).active.readBytes e.outOffset e.n
      orphan := false, elapsed := 0, received := [], lastEnd := 0 }

/-- The in-flight record of an acyclic claim, when the quiet budget is met for it (R71, R73). -/
def State.acyclicFlight (s : State) (l : LaneId) (tag : Half) (a : Attempt) : Option InFlight :=
  match s.acyclicEntry tag with
  | some e =>
    if s.budgetMet l e then
      some { claim := .acyclic tag a, node := e.node, op := e.op, m := e.m, request := e.request
             orphan := false, elapsed := 0, received := [], lastEnd := 0 }
    else none
  | none => none

/-- The in-flight record a claim gives, if it may be taken now (R70). -/
def State.flightOf (s : State) (l : LaneId) : Claim → Option InFlight
  | .cyclic k => s.cyclicFlight k
  | .acyclic tag a => s.acyclicFlight l tag a

/-- The grant that may be taken on a lane now: the in-flight record and the list left. A grant is taken at a tick,
never at the middle of one (R70). -/
def State.grantable (s : State) (l : LaneId) : Option (InFlight × List Claim) :=
  if s.resetting.isNone && !s.half && (s.lane l).mode == .ready && (s.lane l).isQuiet then
    match chooseClaim (s.lane l).claims with
    | some (c, rest) => (s.flightOf l c).map fun f => (f, rest)
    | none => none
  else none

/-- The acyclic table marks a granted entry IN_FLIGHT (R135). -/
def State.markGranted (s : State) : Claim → State
  | .cyclic _ => s
  | .acyclic tag _ => s.onAcyclic tag fun e => { e with inFlight := true }

/-- GRANT (R70, R73): the claim leaves the list, the record is built, the command begins, the lane is
BUSY. -/
def execGrant (l : LaneId) (s : State) : Host.Outcome State Fault Refusal :=
  .next (match s.grantable l with
    | some (f, rest) =>
      (s.onLane l fun x => { x with mode := .busy, claims := rest, inFlight := some f }).markGranted f.claim
    | none => s)

/-! ### Deadline expiry (R72) -/

/-- Whether a claim is the cyclic claim of a timer's position. -/
def Claim.isAt (c : Claim) (t : TimerId) (position : Nat) : Bool :=
  match c with
  | .cyclic k => k.timer == t && k.position == position
  | .acyclic .. => false

/-- The waiting claim of a timer's position whose deadline has passed (R72). -/
def State.expired (s : State) (l : LaneId) (t : TimerId) (position : Nat) : Option CyclicClaim :=
  if s.resetting.isSome then none
  else
    match (s.lane l).claims.find? fun c => c.isAt t position with
    | some (.cyclic k) => if deadlinePassed s.time k.deadline then some k else none
    | _ => none

/-- CLAIM_EXPIRY (R72). -/
def execClaimExpiry (l : LaneId) (t : TimerId) (position : Nat) (s : State) :
    Host.Outcome State Fault Refusal :=
  .next (match s.expired l t position with
    | some k =>
      (s.onLane l fun x => { x with claims := x.claims.erase (.cyclic k) }).deliverWaiting l .late (.cyclic k)
    | none => s)

/-! ### Sleep (R81, R82) -/

/-- Entry to SLEEPING: sleep-pending is cleared, every claim is resolved ASLEEP, and the lane waits for
quiet (R82 steps 1 to 3). -/
def State.enterSleeping (s : State) (l : LaneId) : State :=
  (s.onLane l fun x =>
    { x with mode := .sleeping, sleepPending := false, sleep := some .waiting }).resolveAll l .asleep

/-! ### The end of a transaction (R74, R76, R77) -/

/-- The retry claim placed at the end of a transaction, if its claim is retried: a first attempt with a
retriable outcome whose entry has retry, no sleep pending, and for a cyclic claim no orphan flag and a
deadline that has not passed (R76, R77). -/
def State.retryClaim (s : State) (l : LaneId) (f : InFlight) (o : Outcome) : Option Claim :=
  if o.isRetriable && !(s.lane l).sleepPending then
    match f.claim with
    | .cyclic k =>
      match k.attempt, s.entry k.timer k.position with
      | .first, some e =>
        if e.retry && !f.orphan && !deadlinePassed s.time k.deadline then
          some (.cyclic { k with attempt := .retry o })
        else none
      | _, _ => none
    | .acyclic tag a =>
      match a, s.acyclicEntry tag with
      | .first, some e => if e.retry then some (.acyclic tag (.retry o)) else none
      | _, _ => none
  else none

/-- Place a retry claim: a cyclic one at the head, an acyclic one first among the acyclic claims, its
entry WAITING again (R76, R77, R137). -/
def State.placeRetry (s : State) (l : LaneId) (o : Outcome) : Claim → State
  | .cyclic k => s.onLane l fun x => { x with claims := .cyclic k :: x.claims }
  | .acyclic tag a =>
    (s.onLane l fun x => { x with claims := insertAcyclicRetry (.acyclic tag a) x.claims }).onAcyclic tag
      fun e => { e with inFlight := false, attempt := .retry o }

/-- Steps 1 and 2 of the end of a transaction: the in-flight record is cleared, and the lane is READY or
enters SLEEPING (R74). -/
def State.clearFlight (s : State) (l : LaneId) : State :=
  let s1 := s.onLane l fun x => { x with mode := .ready, inFlight := none }
  if (s.lane l).sleepPending then s1.enterSleeping l else s1

/-- The end of a transaction as one operation (R74). -/
def State.endTransaction (s : State) (l : LaneId) (f : InFlight) (o : Outcome) (data : List Byte) : State :=
  match s.retryClaim l f o with
  | some c => (s.clearFlight l).placeRetry l o c
  | none => (s.clearFlight l).deliverFinal l f o data

/-! ### Withdrawal and orphans (R78, R79) -/

/-- A claim of a timer's frame. -/
def CyclicClaim.isOf (c : CyclicClaim) (t : TimerId) (run : Half) (frame : Time) : Bool :=
  c.timer == t && c.run == run && c.frame == frame

/-- Whether a claim is a cyclic claim of a timer's frame. -/
def Claim.isOfFrame (c : Claim) (t : TimerId) (run : Half) (frame : Time) : Bool :=
  match c with
  | .cyclic k => k.isOf t run frame
  | .acyclic .. => false

/-- Whether a claim is a cyclic claim of a timer. -/
def Claim.isOfTimer (c : Claim) (t : TimerId) : Bool :=
  match c with
  | .cyclic k => k.timer == t
  | .acyclic .. => false

/-- Set the orphan flag of the transaction in flight, if its claim satisfies a test. -/
def Lane.orphanIf (x : Lane) (p : Claim → Bool) : Lane :=
  { x with inFlight := x.inFlight.map fun f => if p f.claim then { f with orphan := true } else f }

/-- The withdrawal at a frame close, on one lane: the claims of the frame still in the list are removed
with LATE, in list order (R14 step 1, R78). -/
def State.withdrawLate (s : State) (t : TimerId) (run : Half) (frame : Time) (l : LaneId) : State :=
  (s.onLane l fun x => { x with claims := x.claims.filter fun c => !c.isOfFrame t run frame }).deliverAll
    l .late ((s.lane l).claims.filter fun c => c.isOfFrame t run frame)

/-- Step 2 of a frame close, on one lane: a transaction of the frame in flight gets OVERRUN and becomes an
orphan (R14 step 2, R78, R105). -/
def State.overrun (s : State) (t : TimerId) (run : Half) (frame : Time) (l : LaneId) : State :=
  match (s.lane l).inFlight with
  | some f =>
    match f.claim with
    | .cyclic k =>
      if k.isOf t run frame then
        (s.recordOverrun k).onLane l fun x => x.orphanIf fun c => c.isOfFrame t run frame
      else s
    | .acyclic .. => s
  | none => s

/-- The roster receives the carried wire outcome of a retry claim withdrawn by STOP NOW (R79). -/
def State.withdrawnToRoster (s : State) (l : LaneId) (c : Claim) : State :=
  match c with
  | .cyclic k =>
    match k.attempt, s.entry k.timer k.position with
    | .retry wire, some e => s.rosterOutcome l e.node wire
    | _, _ => s
  | .acyclic .. => s

/-- The withdrawal at a STOP NOW, on one lane: every waiting claim of the timer leaves the list without an
outcome, and its transaction in flight becomes an orphan (R79). -/
def State.withdrawNow (s : State) (t : TimerId) (l : LaneId) : State :=
  ((s.lane l).claims.filter fun c => c.isOfTimer t).foldl (fun s c => s.withdrawnToRoster l c)
    (s.onLane l fun x =>
      { x.orphanIf (fun c => c.isOfTimer t) with claims := x.claims.filter fun c => !c.isOfTimer t })

/-! ### CONFIGURE_LANE, SLEEP_LANE, WAKE_LANE (R63, R64, R81, R83) -/

/-- The lane state after a taken CONFIGURE_LANE (R64). -/
def LaneMode.configured (m : LaneMode) (rate : Rate) : LaneMode :=
  if rate = .off then .disabled
  else
    match m with
    | .disabled => .ready
    | m => m

/-- The receiver after a taken CONFIGURE_LANE: it observes the line on where the rate stays (R47), and has seen nothing of
it where the line was or will be unobserved (R46). DESIGN CHOICE: between two rates it keeps the level it has seen and
gives up a reception begun at the old rate; see log 31. -/
def Receiver.configured (x : Receiver) (old new : Rate) : Receiver :=
  if old = new then x
  else if old = .off ∨ new = .off then .reset
  else { x with reception := none }

/-- A taken CONFIGURE_LANE (R64). -/
def State.configureTo (s : State) (l : LaneId) (c : LaneConfig) : State :=
  let s1 := s.onLane l fun x =>
    { x with
      config := c, rx := x.rx.configured x.config.rate c.rate, quiet := 0, dominant := 0
      mode := x.mode.configured c.rate }
  { s1 with roster := s1.roster.set l ((s1.roster.get l).map fun r => r.reconfigure c) }

/-- CONFIGURE_LANE is refused with BUSY: the lane is BUSY, SLEEPING or WAKING, or the acyclic table holds
an entry for it (R63 step 2). -/
def State.laneInUse (s : State) (l : LaneId) : Bool :=
  (s.lane l).mode == .busy || (s.lane l).mode == .sleeping || (s.lane l).mode == .waking ||
    s.acyclic.any fun e => e.lane == l

/-- The first conflict of a proposed lane configuration, timer A before timer B (R43). -/
def State.firstLaneConflict (s : State) (l : LaneId) (c : LaneConfig) : Option Answer :=
  let proposed := s.laneConfigs.set l c
  match s.laneConflict .a proposed with
  | some a => some a
  | none => s.laneConflict .b proposed

/-- CONFIGURE_LANE for a lane with a configuration in range (R63 steps 2 and 3). -/
def State.tryConfigureLane (s : State) (l : LaneId) (c : LaneConfig) : State × Answer :=
  if s.laneInUse l then refuse .busy s
  else
    match s.firstLaneConflict l c with
    | some conflict => (s, conflict)
    | none => (s.configureTo l c, .plain .ok)

/-- CONFIGURE_LANE (R63). -/
def ownConfigureLane (payload : List Byte) (s : State) : State × Answer :=
  if payload.length = 6 then
    match laneOf (byteAt payload 0), parseLaneConfig payload with
    | some l, some c => s.tryConfigureLane l c
    | _, _ => refuse .badArg s
  else refuse .badArg s

/-- CONFIGURE_LANE (R63, R64). -/
def execConfigureLane (seq : Byte) (payload : List Byte) (s : State) : Host.Outcome State Fault Refusal :=
  .next (s.serve seq 0x03 payload (ownConfigureLane payload))

/-- SLEEP_LANE on a lane (R81). -/
def State.sleepLane (s : State) (l : LaneId) : State × Answer :=
  match (s.lane l).mode with
  | .ready => (s.enterSleeping l, .plain .ok)
  | .busy => (s.onLane l fun x => { x with sleepPending := true }, .plain .ok)
  | .sleeping => refuse .ok s
  | .asleep => refuse .ok s
  | .waking => refuse .busy s
  | .disabled => refuse .badState s
  | .lineFault => refuse .badState s

/-- SLEEP_LANE (R81). -/
def ownSleepLane (payload : List Byte) (s : State) : State × Answer :=
  if payload.length = 1 then
    match laneOf (byteAt payload 0) with
    | some l => s.sleepLane l
    | none => refuse .badArg s
  else refuse .badArg s

/-- SLEEP_LANE (R81). -/
def execSleepLane (seq : Byte) (payload : List Byte) (s : State) : Host.Outcome State Fault Refusal :=
  .next (s.serve seq 0x04 payload (ownSleepLane payload))

/-- Entry to WAKING with a given progress (R84). -/
def Lane.startWake (x : Lane) (p : WakeProgress) : Lane :=
  { x with mode := .waking, sleep := none, wake := some p }

/-- WAKE_LANE on a lane (R83). -/
def State.wakeLane (s : State) (l : LaneId) : State × Answer :=
  match (s.lane l).mode with
  | .asleep => (s.onLane l fun x => x.startWake (.pulse (halves Config.pulseTicks)), .plain .ok)
  | .sleeping => (s.onLane l fun x => { x with wakePending := true }, .plain .ok)
  | .busy =>
    if (s.lane l).sleepPending then (s.onLane l fun x => { x with wakePending := true }, .plain .ok)
    else refuse .ok s
  | .ready => refuse .ok s
  | .waking => refuse .ok s
  | .disabled => refuse .badState s
  | .lineFault => refuse .badState s

/-- WAKE_LANE (R83). -/
def ownWakeLane (payload : List Byte) (s : State) : State × Answer :=
  if payload.length = 1 then
    match laneOf (byteAt payload 0) with
    | some l => s.wakeLane l
    | none => refuse .badArg s
  else refuse .badArg s

/-- WAKE_LANE (R83). -/
def execWakeLane (seq : Byte) (payload : List Byte) (s : State) : Host.Outcome State Fault Refusal :=
  .next (s.serve seq 0x05 payload (ownWakeLane payload))

end Sys2Proof.Machine
end

