-- ==== Sys2Proof/Machine/Wire.lean ====
section
/-!
DEFINITION. The lane protocol (spec/03_the_lane_protocol.md): command frames, echo supervision, response
reception and judgement, the SLEEP command, wake, line fault and recovery, what the ES4 drives, and the
receiver and the measures of the line. The line has one level for each half tick (DESIGN CHOICE, log 9).
-/

namespace Sys2Proof.Machine

/-! ### Frames (R49, R50, R171) -/

/-- The header byte: node address in bits 0 to 3, lane op in bits 4 and 5 (R171). -/
def headerByte (node : Nat) (opCode : Byte) : Byte := BitVec.ofNat 8 (node % 16 + 16 * opCode.toNat)

/-- A command frame: header, request length, response length, request data, check (R49, R50). -/
def commandFrame (header : Byte) (m : Nat) (request : List Byte) : List Byte :=
  let body := header :: BitVec.ofNat 8 request.length :: BitVec.ofNat 8 m :: request
  body ++ [crc8 0 body]

/-- The command frame of a transaction. -/
def InFlight.frame (f : InFlight) : List Byte := commandFrame (headerByte f.node f.op.code) f.m f.request

/-- The SLEEP command: header 0x30, both lengths 0 (R58, R171). -/
def sleepFrame : List Byte := commandFrame 0x30 0 []

/-- The check byte of a transaction's command (R50). -/
def InFlight.commandCheck (f : InFlight) : Byte := f.frame.getLastD 0

/-- The bit time of a rate in half ticks (R46). -/
def Rate.bitHalves (r : Rate) : Nat := halves r.bitTime

/-- The byte time of a rate in half ticks (R46). -/
def Rate.byteHalves (r : Rate) : Nat := halves r.byteTime

/-- How many half ticks the command frame of a transaction takes: 4 + n byte times (R45, R49). -/
def InFlight.commandHalves (f : InFlight) (r : Rate) : Nat := (4 + f.request.length) * r.byteHalves

/-- How many half ticks the SLEEP command takes: 4 byte times (R58). -/
def sleepHalves (r : Rate) : Nat := 4 * r.byteHalves

/-- The transaction is unicast and draws a response (R49). -/
def InFlight.isUnicast (f : InFlight) : Bool := f.node != 0

/-- The transaction in flight on a lane, while no reset is in progress. -/
def State.flight (s : State) (l : LaneId) : Option InFlight :=
  if s.resetting.isNone then (s.lane l).inFlight else none

/-- The SLEEP command has been sent to its end, or was cut short (R58). -/
def SleepProgress.sent (p : SleepProgress) (r : Rate) : Bool :=
  match p with
  | .waiting => false
  | .command elapsed cut => cut || decide (sleepHalves r ≤ elapsed)

/-! ### What the ES4 drives (R45) -/

/-- The level of one of the ten bit times of a character: the start bit, eight data bits, least significant
first and 0 dominant, the stop bit (R45). -/
def characterLevel (byte : Byte) (bit : Nat) : Level :=
  if bit = 0 then .dominant
  else if bit ≤ 8 then if byte.getLsbD (bit - 1) then .recessive else .dominant
  else .recessive

/-- The level of a frame's characters, sent back to back, in a half tick since the frame began (R45). -/
def frameLevel (frame : List Byte) (r : Rate) (elapsed : Nat) : Level :=
  match frame[elapsed / r.byteHalves]? with
  | some byte => characterLevel byte (elapsed % r.byteHalves / r.bitHalves)
  | none => .recessive

/-- The frame the ES4 is sending, and the half ticks since it began: a command, or the SLEEP command until it is
sent or cut short (R45, R51, R58). -/
def Lane.sending (x : Lane) : Option (List Byte × Nat) :=
  match x.mode, x.inFlight, x.sleep with
  | .busy, some f, _ =>
    if f.elapsed < f.commandHalves x.config.rate then some (f.frame, f.elapsed) else none
  | .sleeping, _, some (.command elapsed cut) =>
    if (SleepProgress.command elapsed cut).sent x.config.rate then none else some (sleepFrame, elapsed)
  | _, _, _ => none

/-- What the ES4 puts on a lane line: the characters of a command, the SLEEP command or a wake pulse;
recessive otherwise (R45). -/
def Lane.drive (x : Lane) : Level :=
  match x.sending with
  | some (frame, elapsed) => frameLevel frame x.config.rate elapsed
  | none =>
    match x.mode, x.wake with
    | .waking, some (.pulse _) => .dominant
    | _, _ => .recessive

/-- The level of the line: dominant when any party drives it (R45). -/
def Lane.level (x : Lane) (input : Level) : Level :=
  if x.drive = .dominant ∨ input = .dominant then .dominant else .recessive

/-! ### The receiver (R47) -/

/-- A sample taken `since` half ticks after the start edge, where one is due: of a data bit at the middle of its bit
time, or of the stop bit, whose dominant level is a framing error (R47). -/
def Reception.sample (c : Reception) (bit : Nat) (level : Level) : Reception :=
  if c.since % bit = bit / 2 ∧ bit ≤ c.since then
    if c.since < 9 * bit then { c with data := c.data >>> 1 ||| (if level = .recessive then 0x80 else 0) }
    else { c with mark := decide (level = .dominant) }
  else c

/-- The reception in progress once the receiver has seen the present level: a change from recessive to
dominant is a candidate start edge, and half a bit time later a recessive level proves it a glitch (R47). DESIGN CHOICE:
a further change to dominant before that sample is no candidate of its own, and the sample of the first edge alone
decides; see log 9. -/
def Receiver.see (x : Receiver) (bit : Nat) (level : Level) : Option Reception :=
  match x.reception with
  | none =>
    if x.last = .recessive ∧ level = .dominant then some { since := 0, data := 0, mark := false } else none
  | some c =>
    if c.since = bit / 2 ∧ level = .recessive then none else some (c.sample bit level)

/-- A character has begun: its start edge has passed the half-bit sample (R47). -/
def Reception.confirmed (c : Reception) (bit : Nat) : Bool := decide (bit / 2 ≤ c.since)

/-- Half a tick of the receiver at a level of the line; a character is complete at the end of its tenth bit time
(R47). -/
def Receiver.hear (x : Receiver) (bit : Nat) (level : Level) : Receiver :=
  match x.see bit level with
  | none => { last := level, reception := none, done := none }
  | some c =>
    if c.since + 1 < 10 * bit then
      { last := level, reception := some { c with since := c.since + 1 }, done := none }
    else { last := level, reception := none, done := some (c.data, c.mark) }

/-- A character has begun, and is not over, in the half tick with this level (R47). -/
def Receiver.inCharacter (x : Receiver) (bit : Nat) (level : Level) : Bool :=
  match x.see bit level with
  | some c => c.confirmed bit
  | none => false

/-- A character of any party is on the line within the present half tick: the ES4 sends one, or one has begun (R47,
R48). -/
def Lane.inCharacter (x : Lane) (input : Level) : Bool :=
  x.sending.isSome || x.rx.inCharacter x.config.rate.bitHalves (x.level input)

/-- No start edge awaits its half-bit sample, and no character is in reception (R52, R53). -/
def State.lineFree (s : State) (l : LaneId) : Bool :=
  ((s.lane l).rx.see (s.lane l).config.rate.bitHalves ((s.lane l).level (s.pins.lines.get l))).isNone

/-! ### Echo supervision (R51) -/

/-- The character of a frame that ends after so many half ticks since the frame began, if one does (R45). -/
def characterEnding (frame : List Byte) (r : Rate) (elapsed : Nat) : Option Byte :=
  if r.byteHalves = 0 then none
  else if elapsed % r.byteHalves = 0 ∧ 0 < elapsed then frame[elapsed / r.byteHalves - 1]?
  else none

/-- A command character ends now and its echo does not match: no character was received from the start edge
the ES4 drove, its data bits differ, or it carries a framing error (R51). -/
def mismatchNow (frame : List Byte) (r : Rate) (elapsed : Nat) (echo : Option (Byte × Bool)) : Bool :=
  match characterEnding frame r elapsed with
  | some sent => echo != some (sent, false)
  | none => false

/-- The transaction whose command has just met an echo mismatch (R51). -/
def State.echoFails (s : State) (l : LaneId) : Option InFlight :=
  match s.flight l with
  | some f =>
    if mismatchNow f.frame (s.lane l).config.rate f.elapsed (s.lane l).rx.done then some f else none
  | none => none

/-- The SLEEP command has just met an echo mismatch (R58). -/
def State.sleepEchoFails (s : State) (l : LaneId) : Bool :=
  match (s.lane l).sleep with
  | some (.command elapsed false) =>
    s.resetting.isNone && mismatchNow sleepFrame (s.lane l).config.rate elapsed (s.lane l).rx.done
  | _ => false

/-- The SLEEP command is cut short (R58). -/
def SleepProgress.cutShort : SleepProgress → SleepProgress
  | .waiting => .waiting
  | .command elapsed _ => .command elapsed true

/-- The command character that has just ended did not match: a transaction ends with ECHO (R51), a SLEEP command
is cut short and nothing is reported (R58). -/
def State.failEcho (s : State) (l : LaneId) : State :=
  match s.echoFails l with
  | some f => s.endTransaction l f .echo []
  | none =>
    if s.sleepEchoFails l then s.onLane l fun x => { x with sleep := x.sleep.map SleepProgress.cutShort }
    else s

/-- ECHO_MISMATCH (R51, R58). The command names what the receiver has taken back at this moment; one that names
anything else is not at hand (log 2). -/
def execEchoMismatch (l : LaneId) (echo : Option (Byte × Bool)) (s : State) : Host.Outcome State Fault Refusal :=
  .next (if (s.lane l).rx.done = echo then s.failEcho l else s)

/-- The check character of a broadcast has ended, its echo matching (R56). -/
def State.broadcastOver (s : State) (l : LaneId) : Option InFlight :=
  match s.flight l with
  | some f =>
    if !f.isUnicast && decide (f.commandHalves (s.lane l).config.rate ≤ f.elapsed) && (s.echoFails l).isNone
    then some f else none
  | none => none

/-- BROADCAST_COMPLETE (R56). -/
def execBroadcastComplete (l : LaneId) (s : State) : Host.Outcome State Fault Refusal :=
  .next (match s.broadcastOver l with
    | some f => s.endTransaction l f .ok []
    | none => s)

/-! ### Response reception (R52, R53) -/

/-- A character that ends now is one of the response: its start edge, one byte time ago, fell after the
command and within RT for the first (R52), after the character before it and within the character limit for
a later one (R53). -/
def InFlight.expects (f : InFlight) (c : LaneConfig) : Bool :=
  f.isUnicast && decide (f.commandHalves c.rate + c.rate.byteHalves ≤ f.elapsed) &&
    if f.received.isEmpty then decide (f.elapsed ≤ f.commandHalves c.rate + halves c.rt + c.rate.byteHalves)
    else decide (f.lastEnd + c.rate.byteHalves ≤ f.elapsed) &&
      decide (f.elapsed ≤ f.lastEnd + halves c.rate.charLimit + c.rate.byteHalves)

/-- The response character that has just been completed, with its transaction (R52, R53). -/
def State.arriving (s : State) (l : LaneId) : Option (InFlight × Byte × Bool) :=
  match s.flight l, (s.lane l).rx.done with
  | some f, some c => if f.expects (s.lane l).config then some (f, c) else none
  | _, _ => none

/-- The response timeout has run out with no response begun and no edge that awaits its sample (R52). -/
def State.responseOver (s : State) (l : LaneId) : Option InFlight :=
  match s.flight l with
  | some f =>
    if f.isUnicast && f.received.isEmpty && s.lineFree l && (s.arriving l).isNone &&
        decide (f.commandHalves (s.lane l).config.rate + halves (s.lane l).config.rt ≤ f.elapsed) then some f
    else none
  | none => none

/-- RESPONSE_TIMEOUT (R52). -/
def execResponseTimeout (l : LaneId) (s : State) : Host.Outcome State Fault Refusal :=
  .next (match s.responseOver l with
    | some f => s.endTransaction l f .noResponse []
    | none => s)

/-- The character limit has run out with the response begun, no further character begun and no edge that
awaits its sample (R53). -/
def State.characterLimitOver (s : State) (l : LaneId) : Option InFlight :=
  match s.flight l with
  | some f =>
    if f.isUnicast && !f.received.isEmpty && s.lineFree l && (s.arriving l).isNone &&
        decide (f.lastEnd + halves (s.lane l).config.rate.charLimit ≤ f.elapsed) then some f
    else none
  | none => none

/-- CHARACTER_LIMIT_EXPIRY (R53). -/
def execCharacterLimitExpiry (l : LaneId) (s : State) : Host.Outcome State Fault Refusal :=
  .next (match s.characterLimitOver l with
    | some f => s.endTransaction l f .short []
    | none => s)

/-- The response character that has just been completed, other than the last of 2 + m (R53). -/
def State.characterIn (s : State) (l : LaneId) : Option (InFlight × Byte × Bool) :=
  (s.arriving l).filter fun a => decide (a.1.received.length + 1 < 2 + a.1.m)

/-- RESPONSE_CHARACTER_RECEIVED: the character is taken in, once (R52, R53). The command names the character
that the receiver has completed at this moment; one that names another is not at hand (log 2). -/
def execResponseCharacterReceived (l : LaneId) (byte : Byte) (mark : Bool) (s : State) :
    Host.Outcome State Fault Refusal :=
  .next (match s.characterIn l with
    | some (f, c) =>
      if c = (byte, mark) then
        s.onLane l fun x =>
          { x with
            rx := { x.rx with done := none }
            inFlight := some { f with received := f.received ++ [c], lastEnd := f.elapsed } }
      else s
    | none => s)

/-! ### Judgement (R54) -/

/-- The outcome of a complete response and the data handed on with it (R54). The characters are status,
m data bytes and check. -/
def judgeResponse (node : Nat) (commandCheck : Byte) (chars : List (Byte × Bool)) : Outcome × List Byte :=
  let bytes := chars.map Prod.fst
  let body := bytes.dropLast
  let status := bytes.headD 0
  if chars.any Prod.snd then (.check, [])
  else if crc8 commandCheck body != bytes.getLastD 0 then (.check, [])
  else if status.toNat % 16 ≠ node then (.check, [])
  else if status.toNat / 16 % 2 = 1 then (.nodeFault, body.drop 1)
  else (.ok, body.drop 1)

/-- The judgement of the response in flight once its last character has come (R54). -/
def InFlight.judge (f : InFlight) (byte : Byte) (mark : Bool) : Outcome × List Byte :=
  judgeResponse f.node f.commandCheck (f.received ++ [(byte, mark)])

/-- The last of 2 + m response characters has just been completed (R54). -/
def State.lastIn (s : State) (l : LaneId) : Option (InFlight × Byte × Bool) :=
  (s.arriving l).filter fun a => decide (a.1.received.length + 1 = 2 + a.1.m)

/-- RESPONSE_COMPLETE: the last of 2 + m characters (R54). The command names the character that the receiver
has completed at this moment; one that names another is not at hand (log 2). -/
def execResponseComplete (l : LaneId) (byte : Byte) (mark : Bool) (s : State) : Host.Outcome State Fault Refusal :=
  .next (match s.lastIn l with
    | some (f, c) =>
      if c = (byte, mark) then s.endTransaction l f (f.judge byte mark).1 (f.judge byte mark).2 else s
    | none => s)

/-! ### The SLEEP command (R58, R82) -/

/-- SLEEP_COMMAND_START is due: SLEEPING, waiting, line quiet (R82 step 3). -/
def State.sleepStarts (s : State) (l : LaneId) : Bool :=
  s.resetting.isNone && (s.lane l).mode == .sleeping && (s.lane l).sleep == some .waiting &&
    (s.lane l).isQuiet

/-- SLEEP_COMMAND_START (R82). -/
def execSleepCommandStart (l : LaneId) (s : State) : Host.Outcome State Fault Refusal :=
  .next (if s.sleepStarts l then s.onLane l fun x => { x with sleep := some (.command 0 false) } else s)

/-- The SLEEP command has ended on the wire: the line is quiet after it, at the earliest 6 byte times after
it began (R58; log 11). -/
def State.sleepEnds (s : State) (l : LaneId) : Bool :=
  s.resetting.isNone && (s.lane l).mode == .sleeping && (s.lane l).isQuiet &&
    match (s.lane l).sleep with
    | some (.command elapsed cut) =>
      (SleepProgress.command elapsed cut).sent (s.lane l).config.rate &&
        decide (6 * (s.lane l).config.rate.byteHalves ≤ elapsed)
    | _ => false

/-- SLEEP_COMMAND_END (R82): ASLEEP with LANE_ASLEEP, or WAKING with a pulse when wake-pending is set. -/
def execSleepCommandEnd (l : LaneId) (s : State) : Host.Outcome State Fault Refusal :=
  .next (if s.sleepEnds l then
    if (s.lane l).wakePending then
      s.onLane l fun x => { x.startWake (.pulse (halves Config.pulseTicks)) with wakePending := false }
    else (s.onLane l fun x => { x with mode := .asleep, sleep := none }).notify (.laneAsleep l)
  else s)

/-! ### Wake (R59, R60, R84) -/

/-- WAKE_PULSE_END (R84). -/
def execWakePulseEnd (l : LaneId) (s : State) : Host.Outcome State Fault Refusal :=
  .next (if s.resetting.isNone && (s.lane l).wake == some (.pulse 0) then
    s.onLane l fun x => { x with wake := some (.settle (halves Config.settleTicks)) }
  else s)

/-- SETTLE_END (R84). -/
def execSettleEnd (l : LaneId) (s : State) : Host.Outcome State Fault Refusal :=
  .next (if s.resetting.isNone && (s.lane l).wake == some (.settle 0) then
    (s.onLane l fun x => { x with mode := .ready, wake := none }).notify (.laneAwake l)
  else s)

/-- A node wake is due (R60). -/
def State.nodeWakes (s : State) (l : LaneId) : Bool :=
  s.resetting.isNone && (s.lane l).mode == .asleep &&
    decide (halves Config.nodeWakeTicks ≤ (s.lane l).dominant)

/-- NODE_WAKE (R60, R84). -/
def execNodeWake (l : LaneId) (s : State) : Host.Outcome State Fault Refusal :=
  .next (if s.nodeWakes l then
    (s.onLane l fun x => x.startWake (.settle (halves Config.settleTicks))).notify (.nodeWake l)
  else s)

/-! ### Line fault (R85, R86) -/

/-- The lane waits for quiet: READY, or SLEEPING before or after its SLEEP command (R85). -/
def Lane.waitsForQuiet (x : Lane) : Bool :=
  match x.mode with
  | .ready => true
  | .sleeping =>
    match x.sleep with
    | some (.command elapsed cut) => (SleepProgress.command elapsed cut).sent x.config.rate
    | _ => true
  | _ => false

/-- A line fault is due (R85). -/
def State.lineFaults (s : State) (l : LaneId) : Bool :=
  s.resetting.isNone && (s.lane l).waitsForQuiet && decide (halves Config.lineFaultTicks ≤ (s.lane l).dominant)

/-- LINE_FAULT (R85). -/
def execLineFault (l : LaneId) (s : State) : Host.Outcome State Fault Refusal :=
  .next (if s.lineFaults l then
    State.resolveAll ((s.onLane l fun x =>
      { x with mode := .lineFault, sleep := none, wakePending := false }).notify (.laneFault l)) l .lineFault
  else s)

/-- Recovery from a line fault is due (R86). -/
def State.lineClears (s : State) (l : LaneId) : Bool :=
  s.resetting.isNone && (s.lane l).mode == .lineFault && decide (halves Config.lineClearTicks ≤ (s.lane l).quiet)

/-- LINE_FAULT_RECOVERY (R86). -/
def execLineFaultRecovery (l : LaneId) (s : State) : Host.Outcome State Fault Refusal :=
  .next (if s.lineClears l then
    (s.onLane l fun x => { x with mode := .ready }).notify (.laneClear l)
  else s)

/-! ### Half a tick of a lane (R47, R48) -/

/-- Half a tick of a sleep progress. -/
def SleepProgress.halfTick : SleepProgress → SleepProgress
  | .waiting => .waiting
  | .command elapsed cut => .command (elapsed + 1) cut

/-- Half a tick of a wake progress. -/
def WakeProgress.halfTick : WakeProgress → WakeProgress
  | .pulse left => .pulse (left - 1)
  | .settle left => .settle (left - 1)

/-- Half a tick of a lane: the receiver and the line measures, kept while the rate is not OFF (R46, R47, R48), and
the times of the transaction, the SLEEP command and the wake. A dominant level or a character of any party
sets the quiet measure back. -/
def Lane.halfTick (x : Lane) (input : Level) : Lane :=
  let y : Lane := { x with
    inFlight := x.inFlight.map fun f => { f with elapsed := f.elapsed + 1 }
    sleep := x.sleep.map SleepProgress.halfTick
    wake := x.wake.map WakeProgress.halfTick }
  let v := x.level input
  if x.config.rate = .off then y
  else
    { y with
      rx := x.rx.hear x.config.rate.bitHalves v
      quiet := if v = .dominant ∨ x.inCharacter input = true then 0 else x.quiet + 1
      dominant := if v = .dominant then x.dominant + 1 else 0 }

end Sys2Proof.Machine
end

