-- ==== Sys2Proof/Machine/Timers.lean ====
section
/-!
DEFINITION. The scan timers (spec/01_scan_timers.md): CONFIGURE_TIMER, START, STOP, frame close, frame
start, posting of claims, SYNC and TRIG.
-/

namespace Sys2Proof.Machine

/-! ### Frame start (R17, R18) -/

/-- Step 2 of a frame start: a pending commit is applied, the FILLING buffer starts afresh under the new
active table, COMMIT_DONE is queued (R17, R108). -/
def State.startCommit (s : State) (t : TimerId) : State :=
  if (s.timer t).pendingCommit then
    (((s.onTables t Tables.apply).onTimer t fun x => { x with pendingCommit := false }).onBuffers t
      fun bs => bs.onFilling fun b => b.recommit (s.table t).staged).notify
      (.commitDone t (s.timer t).run (s.timer t).frame)
  else s

/-- Steps 5 and 6 of a frame start: SYNC high when W is above 0, position 0, and T0 (R5, R7, R17). -/
def Timer.beginFrame (x : Timer) (now : Time) : Timer :=
  { x with
    mode := .running, round := 0, tick := 0, sync := decide (0 < x.config.w), frameStart := now
    closeDue := false, firstDue := false, posted := false }

/-- Step 4 of a frame start, in the FILLING buffer (R17, R108). -/
def State.markPositions (s : State) (t : TimerId) : State :=
  s.onBuffers t fun bs => bs.onFilling fun b => b.start (s.timer t).frame (s.table t).active

/-- Steps 2 to 6 of a frame start (R17). -/
def State.frameStart (s : State) (t : TimerId) : State :=
  (((s.startCommit t).applyPublish t).markPositions t).onTimer t fun x => x.beginFrame s.time

/-- A frame start other than the first of a run (R17). -/
def State.nextFrame (s : State) (t : TimerId) : State :=
  State.frameStart (s.onTimer t fun x => { x with frame := x.frame + 1 }) t

/-- The first frame start of a run; `none` when no result buffer is FREE (R18). -/
def State.firstFrame (s : State) (t : TimerId) : Option State :=
  ((s.buffers t).prepareFirst (s.timer t).run).map fun bs =>
    State.frameStart (s.onBuffers t fun _ => bs) t

/-! ### Posting (R20, R21) -/

/-- The claim of an entry at a position of the timer's present frame (R20). -/
def State.claimFor (s : State) (t : TimerId) (position : Nat) (e : ScanEntry) : CyclicClaim :=
  let x := s.timer t
  { timer := t, run := x.run, frame := x.frame, position := position
    deadline := x.frameStart + BitVec.ofNat 32 (e.round * x.config.tpr + e.startTick + e.slack)
    attempt := .first }

/-- An entry starts at the timer's present tick and is due in its present frame (R20). -/
def Timer.starts (x : Timer) (e : ScanEntry) : Bool :=
  e.round == x.round && e.startTick == x.tick && e.phase.due x.frame

/-- The entries of a table that start now, with their positions, in ascending order (R20). -/
def dueEntries (x : Timer) (position : Nat) : Table → List (Nat × ScanEntry)
  | [] => []
  | none :: rest => dueEntries x (position + 1) rest
  | some e :: rest =>
    if x.starts e then (position, e) :: dueEntries x (position + 1) rest
    else dueEntries x (position + 1) rest

/-- Post one claim for each entry that starts at the present tick (R20). -/
def State.postAll (s : State) (t : TimerId) : State :=
  ((dueEntries (s.timer t) 0 (s.table t).active).foldl (fun s p => s.post p.2 (s.claimFor t p.1 p.2)) s).onTimer
    t fun x => { x with posted := true }

/-- The first frame start of a run and the posting of its claims of round 0, tick 0 (R6, R8, R18, R20). -/
def State.openFirst (s : State) (t : TimerId) : Option State := (s.firstFrame t).map fun s1 => s1.postAll t

/-- A frame start other than the first and the posting of its claims of round 0, tick 0 (R6, R8, R17, R20). -/
def State.openNext (s : State) (t : TimerId) : State := (s.nextFrame t).postAll t

/-- A step that may find no FREE result buffer, which no run reaches (log 18). -/
def bufferOrFault : Option State → Host.Outcome State Fault Refusal
  | some s => .next s
  | none => .fault .noFreeBuffer

/-- The first frame start is due: ARMED in IMMEDIATE mode, one tick after START (R6, R11). -/
def State.firstFrameDue (s : State) (t : TimerId) : Bool :=
  s.resetting.isNone && (s.timer t).mode == .armed && (s.timer t).config.startMode == .immediate &&
    (s.timer t).firstDue

/-- FIRST_FRAME_START, with the posting of its tick (R6, R18). -/
def execFirstFrameStart (t : TimerId) (s : State) : Host.Outcome State Fault Refusal :=
  if s.firstFrameDue t then bufferOrFault (s.openFirst t) else .next s

/-! ### Frame close (R14, R15, R16) -/

/-- Steps 1 and 2 of a frame close: LATE for the frame's waiting claims of every lane, then OVERRUN for its
transactions in flight (R14, R78, R105). -/
def State.endFrame (s : State) (t : TimerId) : State :=
  let run := (s.timer t).run
  let frame := (s.timer t).frame
  let s1 := allLanes.foldl (fun s l => s.withdrawLate t run frame l) s
  allLanes.foldl (fun s l => s.overrun t run frame l) s1

/-- Step 3 of a frame close (R106). -/
def State.closeBuffer (s : State) (t : TimerId) : State := s.onBuffers t Three.close

/-- Whether FRAME_DONE is queued for a failed count (R15). -/
def Report.wants (r : Report) (failed : Nat) : Bool :=
  match r with
  | .all => true
  | .errors => decide (0 < failed)
  | .none => false

/-- The FRAME_DONE of a closed buffer (R15). -/
def frameDone (t : TimerId) (b : Buffer) : NoteBody :=
  .frameDone t b.run b.frame (executedCount b.status) (failedCount b.status) (firstFailed b.status) b.dropped

/-- Step 4 of a frame close (R15). -/
def State.reportFrame (s : State) (t : TimerId) : State :=
  match (s.buffers t).find .ready with
  | some r =>
    let b := (s.buffers t).get r
    if (s.timer t).config.report.wants (failedCount b.status) then s.notify (frameDone t b) else s
  | none => s

/-- The timer once its frame has ended without a next one at the same tick: SYNC low, position 0 (R5,
R7). -/
def Timer.rest (x : Timer) (m : TimerMode) : Timer :=
  { x with mode := m, round := 0, tick := 0, sync := false, closeDue := false, firstDue := false
           posted := false }

/-- The timer reaches STOPPED and TIMER_STOPPED is queued (R12, R13, R16). -/
def State.halt (s : State) (t : TimerId) : State :=
  (s.onTimer t fun x => x.rest .stopped).notify (.timerStopped t (s.timer t).run (s.timer t).frame)

/-- The close of a DRAINING timer after step 4 (R16). -/
def State.drain (s : State) (t : TimerId) : State := ((s.applyCommit t).applyPublish t).halt t

/-- Step 5 of a frame close; `none` when no result buffer is FREE (R107). -/
def State.prepareNext (s : State) (t : TimerId) : Option State :=
  ((s.buffers t).prepare (s.timer t).run ((s.timer t).frame + 1)).map fun bs => s.onBuffers t fun _ => bs

/-- Steps 1 to 4 of a frame close (R14). -/
def State.closeFrame (s : State) (t : TimerId) : State :=
  ((s.endFrame t).closeBuffer t).reportFrame t

/-- The frame close as one operation, with the frame start and the posting at its tick (R6, R14, R16, R17). -/
def State.close (s : State) (t : TimerId) : Option State :=
  let s1 := s.closeFrame t
  if (s.timer t).mode = .draining then some (s1.drain t)
  else
    (s1.prepareNext t).map fun s2 =>
      if (s.timer t).config.startMode = .triggerEach then s2.onTimer t fun x => x.rest .waiting
      else s2.openNext t

/-- A frame close is due: the position has passed the frame's last tick (R5, R14). -/
def State.frameCloseDue (s : State) (t : TimerId) : Bool :=
  s.resetting.isNone && (s.timer t).mode.inFrame && (s.timer t).closeDue

/-- FRAME_CLOSE (R14). -/
def execFrameClose (t : TimerId) (s : State) : Host.Outcome State Fault Refusal :=
  if s.frameCloseDue t then bufferOrFault (s.close t) else .next s

/-! ### POST_CLAIMS (R6, R20) -/

/-- The timer may post at the present tick: RUNNING or DRAINING, no close due, not posted yet (R6, R20). -/
def State.mayPost (s : State) (t : TimerId) : Bool :=
  s.resetting.isNone && (s.timer t).mode.inFrame && !(s.timer t).closeDue && !(s.timer t).posted

/-- POST_CLAIMS (R20). -/
def execPostClaims (t : TimerId) (s : State) : Host.Outcome State Fault Refusal :=
  .next (if s.mayPost t then s.postAll t else s)

/-! ### SYNC and TRIG (R7, R8, R9) -/

/-- SYNC has been high for W ticks of the frame (R7). -/
def State.syncOver (s : State) (t : TimerId) : Bool :=
  let x := s.timer t
  s.resetting.isNone && x.sync && x.mode.inFrame && !x.closeDue &&
    decide (x.config.w ≤ x.round * x.config.tpr + x.tick)

/-- SYNC_END (R7). -/
def execSyncEnd (t : TimerId) (s : State) : Host.Outcome State Fault Refusal :=
  .next (if s.syncOver t then s.onTimer t fun x => { x with sync := false } else s)

/-- A missed trigger: the count, saturating, and TRIGGER_MISSED (R9). -/
def State.missTrigger (s : State) (t : TimerId) : State :=
  let s1 := s.onTimer t fun x => { x with missed := min (x.missed + 1) 65535 }
  s1.notify (.triggerMissed t (s.timer t).run (s.timer t).frame (s1.timer t).missed)

/-- A TRIG edge by state and start mode (R8): it starts frame 0 from ARMED or the next frame from WAITING,
with the claims of round 0, tick 0, is a missed trigger, or is ignored. -/
def State.trigger (s : State) (t : TimerId) : Option State :=
  match (s.timer t).mode, (s.timer t).config.startMode with
  | .armed, .triggerOnce => s.openFirst t
  | .armed, .triggerEach => s.openFirst t
  | .waiting, .triggerEach => some (s.openNext t)
  | .running, .triggerEach => some (s.missTrigger t)
  | .draining, .triggerEach => some (s.missTrigger t)
  | _, _ => some s

/-- TRIG_EDGE (R8). -/
def execTrigEdge (t : TimerId) (s : State) : Host.Outcome State Fault Refusal :=
  if s.resetting.isSome then .next s else bufferOrFault (s.trigger t)

/-! ### Requests (R10 to R13) -/

/-- CONFIGURE_TIMER of a timer (R10). -/
def State.configureTimer (s : State) (t : TimerId) (payload : List Byte) : State × Answer :=
  if (s.timer t).mode ≠ .stopped then refuse .badState s
  else
    match parseTimerConfig payload with
    | none => refuse .badArg s
    | some c =>
      match (s.table t).active.validate c s.laneConfigs with
      | some failure => (s, conflictAnswer t 1 failure)
      | none => (s.onTimer t fun x => { x with config := c }, .plain .ok)

/-- CONFIGURE_TIMER (R10). -/
def ownConfigureTimer (payload : List Byte) (s : State) : State × Answer :=
  if payload.length = 14 then
    match timerOf (byteAt payload 0) with
    | some t => s.configureTimer t payload
    | none => refuse .badArg s
  else refuse .badArg s

/-- CONFIGURE_TIMER (R10). -/
def execConfigureTimer (seq : Byte) (payload : List Byte) (s : State) : Host.Outcome State Fault Refusal :=
  .next (s.serve seq 0x06 payload (ownConfigureTimer payload))

/-- START of a timer (R11). -/
def State.startTimer (s : State) (t : TimerId) : State × Answer :=
  if (s.timer t).mode = .stopped then
    (s.onTimer t fun x =>
      { x with mode := .armed, run := x.run + 1, frame := 0, missed := 0, firstDue := false }, .plain .ok)
  else refuse .badState s

/-- START (R11). -/
def ownStart (payload : List Byte) (s : State) : State × Answer :=
  if payload.length = 1 then
    match timerOf (byteAt payload 0) with
    | some t => s.startTimer t
    | none => refuse .badArg s
  else refuse .badArg s

/-- START (R11). -/
def execStart (seq : Byte) (payload : List Byte) (s : State) : Host.Outcome State Fault Refusal :=
  .next (s.serve seq 0x07 payload (ownStart payload))

/-- Stop a WAITING timer: the prepared buffer becomes FREE, pending flags are applied (R12, R110). -/
def State.stopWaiting (s : State) (t : TimerId) : State :=
  (((s.onBuffers t Three.freeFilling).applyCommit t).applyPublish t).halt t

/-- STOP with mode END on a timer (R12). -/
def State.stopAtEnd (s : State) (t : TimerId) : State :=
  match (s.timer t).mode with
  | .running => s.onTimer t fun x => { x with mode := .draining }
  | .draining => s
  | .armed => s.halt t
  | .waiting => s.stopWaiting t
  | .stopped => s

/-- STOP NOW in RUNNING or DRAINING (R13). -/
def State.stopRunning (s : State) (t : TimerId) : State :=
  let s1 := allLanes.foldl (fun s l => s.withdrawNow t l) (s.onBuffers t Three.freeFilling)
  ((s1.applyCommit t).applyPublish t).halt t

/-- STOP with mode NOW on a timer (R13). -/
def State.stopAtOnce (s : State) (t : TimerId) : State :=
  match (s.timer t).mode with
  | .running => s.stopRunning t
  | .draining => s.stopRunning t
  | .armed => s.halt t
  | .waiting => s.stopWaiting t
  | .stopped => s

/-- STOP on a payload that fits it, with the mode `code` meaning `act`; another mode is out of the set
(R12, R168). -/
def ownStop (payload : List Byte) (code : Nat) (act : State → TimerId → State) (s : State) :
    State × Answer :=
  if payload.length = 2 then
    match timerOf (byteAt payload 0) with
    | some t => if byteAt payload 1 = code then (act s t, .plain .ok) else refuse .badArg s
    | none => refuse .badArg s
  else refuse .badArg s

/-- A STOP payload carries the mode with this code (R167). -/
def stopModeIs (payload : List Byte) (code : Nat) : Bool := payload.length == 2 && byteAt payload 1 == code

/-- STOP with mode END (R12). A STOP of mode NOW is the other row and changes nothing here (log 16). -/
def execStopEnd (seq : Byte) (payload : List Byte) (s : State) : Host.Outcome State Fault Refusal :=
  .next (if stopModeIs payload 1 then s else s.serve seq 0x08 payload (ownStop payload 0 State.stopAtEnd))

/-- STOP with mode NOW (R13). A STOP of mode END is the other row and changes nothing here (log 16). -/
def execStopNow (seq : Byte) (payload : List Byte) (s : State) : Host.Outcome State Fault Refusal :=
  .next (if stopModeIs payload 0 then s else s.serve seq 0x08 payload (ownStop payload 1 State.stopAtOnce))

end Sys2Proof.Machine
end

