-- ==== Sys2Proof/Machine/Tick.lean ====
section
/-!
DEFINITION. Half a tick of device time for every block, and which happening the part takes of its own accord
at the present moment. The opcode table has no row for it: it is what a step on an empty queue does
(DESIGN CHOICE, logs 1, 6 and 9).
-/

namespace Sys2Proof.Machine

/-! ### Half a tick and a tick -/

/-- One tick of a timer: the position advances while a frame is in progress (R5), and an ARMED timer's
first frame becomes due (R11). After the frame's last tick the close is due (log 7). -/
def Timer.advance (x : Timer) : Timer :=
  if x.mode.inFrame && !x.closeDue then
    if x.tick + 1 < x.config.tpr then { x with tick := x.tick + 1, posted := false }
    else if x.round + 1 < x.config.rpf then { x with round := x.round + 1, tick := 0, posted := false }
    else { x with closeDue := true, posted := false }
  else { x with firstDue := x.mode == .armed, posted := false }

/-- One tick of the host supervisor (R125). -/
def Supervisor.tick (x : Supervisor) : Supervisor :=
  match x.mode with
  | .armed => { x with remaining := x.remaining - 1 }
  | _ => x

/-- Half a tick of the message controller: the gap measure, which stops at a start edge (R155), the sending of the
oldest reply (R162), and on an idle RXD no byte from a reset any more (R165). -/
def Link.halfTick (k : Link) (rxdBusy : Bool) : Link :=
  { k with
    gap := if rxdBusy then k.gap else k.gap + 1
    sending := if k.replies.isEmpty then k.sending else k.sending + k.rate
    early := k.early && rxdBusy }

/-- Half a tick of the lanes and of the serial lines of the host link (log 9). -/
def State.halfTick (s : State) : State :=
  { s with
    half := !s.half
    lanes := ⟨s.lanes.l0.halfTick s.pins.lines.l0, s.lanes.l1.halfTick s.pins.lines.l1,
      s.lanes.l2.halfTick s.pins.lines.l2, s.lanes.l3.halfTick s.pins.lines.l3⟩
    link := s.link.halfTick s.pins.rxdBusy }

/-- The end of a tick for the blocks that count whole ticks: device time, the timers and the supervisor. -/
def State.nextTick (s : State) : State :=
  { s with
    time := s.time + 1
    timers := ⟨s.timers.a.advance, s.timers.b.advance⟩
    supervisor := s.supervisor.tick }

/-- The time that passes in one step: half a tick, and with the second half of a tick that tick. During a reset only
its 5 ms run, tick by tick, once the cause has ended (R165). -/
def State.pass (s : State) : State :=
  match s.resetting with
  | some r =>
    if s.pins.powerGood && !s.pins.rst then { s with resetting := some { r with left := r.left - 1 } } else s
  | none => if s.half then s.halfTick.nextTick else s.halfTick

/-! ### The happening that is due -/

/-- The row of a taken request, by its kind; STOP by its mode (R160, R167). -/
def rowOf (seq kind : Byte) (payload : List Byte) : Instr :=
  match kind.toNat with
  | 0x01 => .query seq payload
  | 0x02 => .reset seq payload
  | 0x03 => .configureLane seq payload
  | 0x04 => .sleepLane seq payload
  | 0x05 => .wakeLane seq payload
  | 0x06 => .configureTimer seq payload
  | 0x07 => .start seq payload
  | 0x08 => if stopModeIs payload 1 then .stopNow seq payload else .stopEnd seq payload
  | 0x0A => .stageEntry seq payload
  | 0x0B => .clearStaged seq payload
  | 0x0C => .readEntry seq payload
  | 0x0D => .commit seq payload
  | 0x0E => .withdraw seq payload
  | 0x0F => .writeOutput seq payload
  | 0x10 => .writeFallback seq payload
  | 0x11 => .publish seq payload
  | 0x12 => .setSupervision seq payload
  | 0x13 => .resume seq payload
  | 0x14 => .hold seq payload
  | 0x15 => .readImage seq payload
  | 0x16 => .readStatus seq payload
  | 0x17 => .release seq payload
  | 0x18 => .transact seq payload
  | 0x19 => .cancel seq payload
  | 0x1A => .readNode seq payload
  | 0x1B => .forgetNode seq payload
  | 0x1C => .fetch seq payload
  | _ => .unknownKind seq kind payload

/-- A command when a condition holds. -/
def dueIf (b : Bool) (c : Instr) : Option Instr := if b then some c else none

/-- A timer's own work at the present tick, in the order of R6. -/
def dueOfTimer (s : State) (t : TimerId) : Option Instr :=
  (dueIf (s.frameCloseDue t) (.frameClose t)).or <|
  (dueIf (s.firstFrameDue t) (.firstFrameStart t)).or <|
  (dueIf (s.syncOver t) (.syncEnd t)).or <|
  dueIf (s.mayPost t && !(dueEntries (s.timer t) 0 (s.table t).active).isEmpty) (.postClaims t)

/-- The first waiting claim of a lane whose deadline has passed; of several that pass at one tick the first in the
claim list expires first (DESIGN CHOICE, log 6; R72 gives no order). -/
def dueExpiry (s : State) (l : LaneId) : Option Instr :=
  (s.lane l).claims.findSome? fun c =>
    match c with
    | .cyclic k => dueIf (s.expired l k.timer k.position).isSome (.claimExpiry l k.timer k.position)
    | .acyclic .. => none

/-- A lane controller's happening at the present moment; a deadline expiry before a grant. -/
def dueOfLane (s : State) (l : LaneId) : Option Instr :=
  (dueIf ((s.echoFails l).isSome || s.sleepEchoFails l) (.echoMismatch l (s.lane l).rx.done)).or <|
  ((s.characterIn l).map fun a => .responseCharacterReceived l a.2.1 a.2.2).or <|
  ((s.lastIn l).map fun a => .responseComplete l a.2.1 a.2.2).or <|
  (dueIf (s.responseOver l).isSome (.responseTimeout l)).or <|
  (dueIf (s.characterLimitOver l).isSome (.characterLimitExpiry l)).or <|
  (dueIf (s.broadcastOver l).isSome (.broadcastComplete l)).or <|
  (dueIf (s.resetting.isNone && (s.lane l).wake == some (.pulse 0)) (.wakePulseEnd l)).or <|
  (dueIf (s.resetting.isNone && (s.lane l).wake == some (.settle 0)) (.settleEnd l)).or <|
  (dueIf (s.nodeWakes l) (.nodeWake l)).or <|
  (dueIf (s.lineFaults l) (.lineFault l)).or <|
  (dueIf (s.lineClears l) (.lineFaultRecovery l)).or <|
  (dueIf (s.sleepStarts l) (.sleepCommandStart l)).or <|
  (dueIf (s.sleepEnds l) (.sleepCommandEnd l)).or <|
  (dueExpiry s l).or <|
  dueIf (s.grantable l).isSome (.grant l)

/-- The acyclic entry whose timeout is due; of several the one accepted first (DESIGN CHOICE, log 6). -/
def dueOfAcyclic (s : State) : Option Instr :=
  s.acyclic.findSome? fun e => dueIf (e.timeoutDue s.time) (.acyclicTimeout e.tag)

/-- The taking of the oldest request, where it can be taken (R160). -/
def dueRequest (s : State) : Option Instr :=
  match s.link.requests with
  | [] => none
  | r :: _ =>
    if (s.accept (requestOf r.seq r.kind r.payload)).isSome then
      if s.link.isDuplicate (requestOf r.seq r.kind r.payload) then
        some (.duplicateReplay r.seq r.kind r.payload)
      else some (rowOf r.seq r.kind r.payload)
    else none

/-- The message controller's happening at the present moment. -/
def dueOfLink (s : State) : Option Instr :=
  (dueIf s.gapExceeded .partialFrameDiscard).or <|
  (dueIf s.skipOver .skipEnd).or <|
  (dueIf s.replyOut .replySent).or <|
  dueRequest s

/-- The happening the part takes next of its own accord at the present moment, if one is due. The order
among blocks is a DESIGN CHOICE (log 6). -/
def due (s : State) : Option Instr :=
  if s.resetting.isSome then dueIf s.resetOver .resetEnd
  else
    (dueIf s.supervisionOver .supervisionExpiry).or <|
    (dueOfTimer s .a).or <|
    (dueOfTimer s .b).or <|
    (dueOfAcyclic s).or <|
    (dueOfLane s .l0).or <|
    (dueOfLane s .l1).or <|
    (dueOfLane s .l2).or <|
    (dueOfLane s .l3).or <|
    dueOfLink s

end Sys2Proof.Machine
end

