-- ==== Sys2Proof/Machine/Dispatch.lean ====
section
/-!
DEFINITION. exec: one arm for each command.
-/

namespace Sys2Proof.Machine

def exec (i : Instr) (s : State) : Host.Outcome State Fault Refusal :=
  match i with
  | .query seq payload => Sys2Proof.Machine.execQuery seq payload s
  | .reset seq payload => Sys2Proof.Machine.execReset seq payload s
  | .configureLane seq payload => Sys2Proof.Machine.execConfigureLane seq payload s
  | .sleepLane seq payload => Sys2Proof.Machine.execSleepLane seq payload s
  | .wakeLane seq payload => Sys2Proof.Machine.execWakeLane seq payload s
  | .configureTimer seq payload => Sys2Proof.Machine.execConfigureTimer seq payload s
  | .start seq payload => Sys2Proof.Machine.execStart seq payload s
  | .stopEnd seq payload => Sys2Proof.Machine.execStopEnd seq payload s
  | .stopNow seq payload => Sys2Proof.Machine.execStopNow seq payload s
  | .stageEntry seq payload => Sys2Proof.Machine.execStageEntry seq payload s
  | .clearStaged seq payload => Sys2Proof.Machine.execClearStaged seq payload s
  | .readEntry seq payload => Sys2Proof.Machine.execReadEntry seq payload s
  | .commit seq payload => Sys2Proof.Machine.execCommit seq payload s
  | .withdraw seq payload => Sys2Proof.Machine.execWithdraw seq payload s
  | .writeOutput seq payload => Sys2Proof.Machine.execWriteOutput seq payload s
  | .writeFallback seq payload => Sys2Proof.Machine.execWriteFallback seq payload s
  | .publish seq payload => Sys2Proof.Machine.execPublish seq payload s
  | .setSupervision seq payload => Sys2Proof.Machine.execSetSupervision seq payload s
  | .resume seq payload => Sys2Proof.Machine.execResume seq payload s
  | .hold seq payload => Sys2Proof.Machine.execHold seq payload s
  | .readImage seq payload => Sys2Proof.Machine.execReadImage seq payload s
  | .readStatus seq payload => Sys2Proof.Machine.execReadStatus seq payload s
  | .release seq payload => Sys2Proof.Machine.execRelease seq payload s
  | .transact seq payload => Sys2Proof.Machine.execTransact seq payload s
  | .cancel seq payload => Sys2Proof.Machine.execCancel seq payload s
  | .readNode seq payload => Sys2Proof.Machine.execReadNode seq payload s
  | .forgetNode seq payload => Sys2Proof.Machine.execForgetNode seq payload s
  | .fetch seq payload => Sys2Proof.Machine.execFetch seq payload s
  | .duplicateReplay seq kind payload => Sys2Proof.Machine.execDuplicateReplay seq kind payload s
  | .unknownKind seq kind payload => Sys2Proof.Machine.execUnknownKind seq kind payload s
  | .frameReceived byte mark => Sys2Proof.Machine.execFrameReceived byte mark s
  | .lengthNak byte mark => Sys2Proof.Machine.execLengthNak byte mark s
  | .partialFrameDiscard => Sys2Proof.Machine.execPartialFrameDiscard s
  | .skipEnd => Sys2Proof.Machine.execSkipEnd s
  | .replySent => Sys2Proof.Machine.execReplySent s
  | .powerOn good => Sys2Proof.Machine.execPowerOn good s
  | .rstPin asserted => Sys2Proof.Machine.execRstPin asserted s
  | .resetEnd => Sys2Proof.Machine.execResetEnd s
  | .firstFrameStart t => Sys2Proof.Machine.execFirstFrameStart t s
  | .frameClose t => Sys2Proof.Machine.execFrameClose t s
  | .postClaims t => Sys2Proof.Machine.execPostClaims t s
  | .syncEnd t => Sys2Proof.Machine.execSyncEnd t s
  | .trigEdge t => Sys2Proof.Machine.execTrigEdge t s
  | .grant l => Sys2Proof.Machine.execGrant l s
  | .claimExpiry l t position => Sys2Proof.Machine.execClaimExpiry l t position s
  | .echoMismatch l echo => Sys2Proof.Machine.execEchoMismatch l echo s
  | .responseTimeout l => Sys2Proof.Machine.execResponseTimeout l s
  | .characterLimitExpiry l => Sys2Proof.Machine.execCharacterLimitExpiry l s
  | .responseComplete l byte mark => Sys2Proof.Machine.execResponseComplete l byte mark s
  | .broadcastComplete l => Sys2Proof.Machine.execBroadcastComplete l s
  | .sleepCommandStart l => Sys2Proof.Machine.execSleepCommandStart l s
  | .sleepCommandEnd l => Sys2Proof.Machine.execSleepCommandEnd l s
  | .wakePulseEnd l => Sys2Proof.Machine.execWakePulseEnd l s
  | .settleEnd l => Sys2Proof.Machine.execSettleEnd l s
  | .nodeWake l => Sys2Proof.Machine.execNodeWake l s
  | .lineFault l => Sys2Proof.Machine.execLineFault l s
  | .lineFaultRecovery l => Sys2Proof.Machine.execLineFaultRecovery l s
  | .acyclicTimeout tag => Sys2Proof.Machine.execAcyclicTimeout tag s
  | .supervisionExpiry => Sys2Proof.Machine.execSupervisionExpiry s
  | .responseCharacterReceived l byte mark => Sys2Proof.Machine.execResponseCharacterReceived l byte mark s
  | .hostByteReceived byte mark => Sys2Proof.Machine.execHostByteReceived byte mark s

end Sys2Proof.Machine
end

