-- ==== Sys2Proof/Machine/Step.lean ====
section
/-!
DEFINITION. One step: the command at the front of the queue, or on an empty queue the happening that is
due, or else half a tick that passes (DESIGN CHOICE, logs 1 and 9).
-/

namespace Sys2Proof.Machine

/-- What the part does of its own accord: the happening that is due, or half a tick. -/
def idle (s : State) : Host.Outcome State Fault Refusal :=
  match due s with
  | some c => exec c s
  | none => .next s.pass

/-- One step. -/
def step (s : State) : Host.Outcome State Fault Refusal :=
  match s.pending with
  | c :: rest => exec c { s with pending := rest }
  | [] => idle s

/-- The state with the command a word spells at the front of its queue; unchanged where it spells none. -/
def State.withFetchWord (s : State) (nbits w : Nat) : State :=
  match decodeTableWord nbits w with
  | some c => { s with pending := c :: s.pending }
  | none => s

end Sys2Proof.Machine
end

