-- ==== Sys2Proof/Safety.lean ====
section
/-!
DEFINITION. What the statements about the machine speak of: when a request can be taken, what the
message controller holds once it is answered, and the invariants the manual states in its prose.
-/

namespace Sys2Proof.Machine

/-! ### Taking a request -/

/-- A request stands oldest in the request queue and can be taken as a new one: no reset, taking not
stopped, a place in the reply queue, no match with the last-taken record (R160). -/
def State.ready (s : State) (rq : Request) : Bool :=
  s.resetting.isNone && !s.link.takingStopped && decide (s.link.replies.length < 4) &&
    s.link.requests.head? == some rq && !s.link.isDuplicate rq

/-- The message controller once a reply has been placed at the tail of its queue and the oldest request has
left (R159, R162). -/
def Link.sends (k : Link) (r : Reply) : Link :=
  { k with
    requests := k.requests.tail
    replies := k.replies ++ [r]
    sending := if k.replies.isEmpty then 0 else k.sending }

/-- The reply to a request with a code and the fields it carries, REPLAY clear (R160, R169). -/
def Request.reply (rq : Request) (code : ReplyCode) (fields : List Byte) : Reply :=
  { seq := rq.seq, kind := rq.kind, payload := code.code :: 0 :: fields }

/-- The message controller after the oldest request was taken and answered: the reply is queued and, with
the request's sequence and CRC, is the last-taken record (R160). -/
def Link.answered (k : Link) (rq : Request) (code : ReplyCode) (fields : List Byte) : Link :=
  { k.sends (rq.reply code fields) with
    lastTaken := some { seq := rq.seq, crc := rq.crc, reply := rq.reply code fields } }

/-- The payload length that fits a kind (R168). -/
def payloadFits (kind : Kind) (p : List Byte) : Bool :=
  match kind.toNat with
  | 0x01 => p.length == 0
  | 0x02 => p.length == 0
  | 0x03 => p.length == 6
  | 0x04 => p.length == 1
  | 0x05 => p.length == 1
  | 0x06 => p.length == 14
  | 0x07 => p.length == 1
  | 0x08 => p.length == 2
  | 0x0A => p.length == 20
  | 0x0B => p.length == 1
  | 0x0C => p.length == 3
  | 0x0D => p.length == 1
  | 0x0E => p.length == 1
  | 0x0F => decide (4 ≤ p.length) && p.length == 4 + byteAt p 3
  | 0x10 => decide (4 ≤ p.length) && p.length == 4 + byteAt p 3
  | 0x11 => p.length == 1
  | 0x12 => p.length == 2
  | 0x13 => p.length == 0
  | 0x14 => p.length == 1
  | 0x15 => p.length == 4
  | 0x16 => p.length == 3
  | 0x17 => p.length == 1
  | 0x18 => decide (10 ≤ p.length) && p.length == 10 + byteAt p 5
  | 0x19 => p.length == 2
  | 0x1A => p.length == 2
  | 0x1B => p.length == 2
  | 0x1C => p.length == 1
  | _ => false

/-- A field other than the timer lies outside the set or the range that its kind checks before the state of its
owner, or else the lengths do not go with the op (R24, R38 step 1, R40, R63 step 1, R81, R83, R95, R96, R132 step 1;
the mode of STOP, R12). -/
def fieldOutside (kind : Kind) (p : List Byte) : Bool :=
  match kind.toNat with
  | 0x03 =>
    decide (3 < byteAt p 0 ∨ 4 < byteAt p 1 ∨ halfAt p 2 < 20 ∨ 2000 < halfAt p 2 ∨ byteAt p 4 = 0 ∨
      15 < byteAt p 4 ∨ byteAt p 5 = 0)
  | 0x04 => decide (3 < byteAt p 0)
  | 0x05 => decide (3 < byteAt p 0)
  | 0x08 => decide (1 < byteAt p 1)
  | 0x0A => decide (63 < byteAt p 1 ∨ 3 < byteAt p 2)
  | 0x0C => decide (1 < byteAt p 1 ∨ 63 < byteAt p 2)
  | 0x18 =>
    decide (3 < byteAt p 2 ∨ 15 < byteAt p 3 ∨ 2 < byteAt p 4 ∨ 32 < byteAt p 5 ∨ 32 < byteAt p 6 ∨
      halfAt p 7 = 0 ∨ 1 < byteAt p 9 ∨ (byteAt p 3 = 0 ∧ byteAt p 4 ≠ 1) ∨
      (byteAt p 4 = 0 ∧ (byteAt p 5 ≠ 0 ∨ byteAt p 6 = 0)) ∨ (byteAt p 4 = 1 ∧ (byteAt p 5 = 0 ∨ byteAt p 6 ≠ 0)) ∨
      (byteAt p 4 = 2 ∧ (byteAt p 5 = 0 ∨ byteAt p 6 = 0)))
  | 0x1A => decide (3 < byteAt p 0 ∨ byteAt p 1 = 0 ∨ 15 < byteAt p 1)
  | 0x1B => decide (3 < byteAt p 0 ∨ byteAt p 1 = 0 ∨ 15 < byteAt p 1)
  | _ => false

/-- A field of the 14 bytes of CONFIGURE_TIMER lies outside its range (R1, R10 step 2, R168). -/
def timerFieldOutside (p : List Byte) : Bool :=
  decide (halfAt p 1 < 50 ∨ halfAt p 1 ≤ halfAt p 3 ∨ halfAt p 5 ≤ halfAt p 3 ∨ halfAt p 1 < halfAt p 5 ∨
    halfAt p 7 = 0 ∨ 256 < halfAt p 7 ∨ halfAt p 7 ≤ byteAt p 9 ∨ halfAt p 1 < halfAt p 10 ∨ 2 < byteAt p 12 ∨
    2 < byteAt p 13)

/-- A field of the 17-byte entry block lies outside its range, d and k counting for NTH only (R23, R38 step 3,
R168). -/
def entryFieldOutside (block : List Byte) : Bool :=
  decide (3 < byteAt block 0 ∨ 15 < byteAt block 1 ∨ 2 < byteAt block 2 ∨ 32 < byteAt block 8 ∨
    511 < halfAt block 9 ∨ 32 < byteAt block 11 ∨ 1023 < halfAt block 12 ∨ 3 < byteAt block 14 ∨
    (byteAt block 14 = 3 ∧ (byteAt block 15 < 2 ∨ 16 < byteAt block 15 ∨ 15 < byteAt block 16)))

/-- The state with a request answered: only the message controller differs (R160). -/
def State.replied (s : State) (rq : Request) (code : ReplyCode) (fields : List Byte) : State :=
  { s with link := s.link.answered rq code fields }

/-! ### Payloads as the host lays them out (R167, R168) -/

/-- The value of a start mode (R167). -/
def StartMode.code : StartMode → Byte
  | .immediate => 0
  | .triggerOnce => 1
  | .triggerEach => 2

/-- The value of a frame report (R167). -/
def Report.code : Report → Byte
  | .all => 0
  | .errors => 1
  | .none => 2

/-- The value of a rate (R167). -/
def Rate.code : Rate → Byte
  | .off => 0
  | .k125 => 1
  | .k250 => 2
  | .k500 => 3
  | .k1000 => 4

/-- The payload of CONFIGURE_TIMER (R168). -/
def TimerConfig.payload (c : TimerConfig) (t : TimerId) : List Byte :=
  timerCode t :: (bytes2 c.tpr ++ bytes2 c.g ++ bytes2 c.s ++ bytes2 c.rpf ++ [BitVec.ofNat 8 c.q] ++
    bytes2 c.w ++ [c.startMode.code, c.report.code])

/-- The payload of CONFIGURE_LANE (R168). -/
def LaneConfig.payload (c : LaneConfig) (l : LaneId) : List Byte :=
  laneCode l :: c.rate.code :: (bytes2 c.rt ++ [BitVec.ofNat 8 c.missLimit, BitVec.ofNat 8 c.probeInterval])

/-- The payload of STAGE_ENTRY with the empty flag clear (R168). -/
def ScanEntry.payload (e : ScanEntry) (t : TimerId) (position : Nat) : List Byte :=
  timerCode t :: BitVec.ofNat 8 position :: (if e.retry then 2 else 0) :: e.bytes

/-- Every field of an entry is in the range STAGE_ENTRY accepts (R23). -/
def ScanEntry.InRange (e : ScanEntry) : Prop :=
  e.node ≤ 15 ∧ e.round ≤ 255 ∧ e.startTick ≤ 65535 ∧ e.slack ≤ 65535 ∧ e.n ≤ 32 ∧ e.outOffset ≤ 511 ∧
    e.m ≤ 32 ∧ e.resOffset ≤ 1023 ∧
    match e.phase with
    | .nth d k => 2 ≤ d ∧ d ≤ 16 ∧ k ≤ 15
    | _ => True

/-- The payload of WRITE_OUTPUT and WRITE_FALLBACK (R168). -/
def writePayload (t : TimerId) (offset : Nat) (data : List Byte) : List Byte :=
  timerCode t :: (bytes2 offset ++ BitVec.ofNat 8 data.length :: data)

/-- The payload of TRANSACT (R168). -/
def transactPayload (tag : Half) (l : LaneId) (node : Nat) (op : Op) (m timeout : Nat) (retry : Bool)
    (data : List Byte) : List Byte :=
  bytes2 tag.toNat ++ laneCode l :: BitVec.ofNat 8 node :: op.code :: BitVec.ofNat 8 data.length ::
    BitVec.ofNat 8 m :: (bytes2 timeout ++ flagByte retry :: data)

/-! ### Several commands, NAKs, host activity -/

/-- Several commands, one after the other. -/
def execAll : List Instr → State → Host.Outcome State Fault Refusal
  | [], s => .next s
  | c :: cs, s =>
    match exec c s with
    | .next t => execAll cs t
    | o => o

/-- A record body is laid out with a kind code and kind fields (R170). -/
def NoteBody.LaidOut (body : NoteBody) (kind : Byte) (fields : List Byte) : Prop :=
  body.kind = kind ∧ body.fields = fields

/-- The message controller with a NAK queued, or lost with the reply queue full (R158). -/
def Link.nakked (k : Link) (seq : Byte) (code : NakCode) : Link :=
  if k.replies.length < 4 then
    { k with
      replies := k.replies ++ [{ seq := seq, kind := 0xFF, payload := [code.code] }]
      sending := if k.replies.isEmpty then 0 else k.sending }
  else k

/-- The receive side back in HUNT or in SKIP, with no partial frame (R155, R157). -/
def Link.leavesFrame (k : Link) (rx : RxMode) : Link := { k with rx := rx, got := [], marked := false }

/-- Host activity restarts the remaining time in ARMED only (R127). -/
def Supervisor.active (x : Supervisor) : Supervisor :=
  if x.mode = .armed then { x with remaining := x.period * 1000 } else x

/-! ### A timer that stops -/

/-- A timer stops: a pending commit, then a pending publish, is applied, SYNC is low and the position round 0,
tick 0; COMMIT_DONE, where a commit was pending, and TIMER_STOPPED are queued (R13, R16, R19). -/
def State.stopped (s : State) (t : TimerId) : State :=
  let x := s.timer t
  { s with
    timers := s.timers.set t
      { x with
        mode := .stopped, round := 0, tick := 0, pendingCommit := false, pendingPublish := false
        sync := false, closeDue := false, firstDue := false, posted := false }
    tables :=
      if x.pendingCommit then s.tables.set t { s.table t with active := (s.table t).staged, frozen := false }
      else s.tables
    outputs :=
      if x.pendingPublish then s.outputs.set t { s.output t with active := (s.output t).staged } else s.outputs
    notes :=
      NoteQueue.hand
        (if x.pendingCommit then s.notes.hand s.time (.commitDone t x.run x.frame) else s.notes)
        s.time (.timerStopped t x.run x.frame) }

/-! ### Claims that leave a list together -/

/-- What the roster hears of a waiting cyclic claim that leaves its list: the carried wire outcome of a retry
claim, and of another claim the outcome it ends with, if it has one (R75, R78, R79). -/
def State.hears (s : State) (l : LaneId) (final : Option Outcome) (c : Claim) : State :=
  match c with
  | .cyclic k =>
    match s.entry k.timer k.position, k.attempt, final with
    | some e, .retry wire, _ => s.rosterOutcome l e.node wire
    | some e, .first, some o => s.rosterOutcome l e.node o
    | _, _, _ => s
  | .acyclic .. => s

/-- The roster has heard of every waiting claim that passes a test, lane by lane from 0, in list order (R75; the
order of the lanes is the model's, log 19). -/
def State.hearsAll (s : State) (final : Option Outcome) (p : Claim → Bool) : State :=
  allLanes.foldl (fun u l => ((s.lane l).claims.filter p).foldl (fun w c => w.hears l final c) u) s

/-! ### A frame that opens -/

/-- A status element at a frame start, under the entry of its position: EMPTY or NOT_DUE, and under a table just
committed NOT_RUN and age 255 (R17, R108). -/
def Status.opened (st : Status) (frame : Time) (commit : Bool) (e : Option ScanEntry) : Status :=
  { st with
    outcome :=
      match e with
      | none => .empty
      | some e => if e.phase.due frame then if commit then .notRun else st.outcome else .notDue
    age := if commit then 255 else st.age }

/-- A frame start with number `frame`, its FILLING buffer `b` prepared as `fill`: what is pending is applied, with
COMMIT_DONE; positions are marked EMPTY and NOT_DUE; the timer is RUNNING at round 0, tick 0 of this tick, SYNC
high exactly when W is above 0 (R5, R7, R17, R18, R108). -/
def State.opened (s : State) (t : TimerId) (b : BufId) (fill : Buffer) (frame : Time) : State :=
  let x := s.timer t
  let active := if x.pendingCommit then (s.table t).staged else (s.table t).active
  { s with
    timers := s.timers.set t
      { x with
        mode := .running, frame := frame, round := 0, tick := 0, pendingCommit := false, pendingPublish := false
        sync := decide (0 < x.config.w), frameStart := s.time, closeDue := false, firstDue := false
        posted := false }
    tables :=
      if x.pendingCommit then s.tables.set t { s.table t with active := active, frozen := false } else s.tables
    outputs :=
      if x.pendingPublish then s.outputs.set t { s.output t with active := (s.output t).staged } else s.outputs
    results := s.results.set t ((s.buffers t).set b
      { fill with status := fill.status.zipWith (fun st e => st.opened frame x.pendingCommit e) active })
    notes := if x.pendingCommit then s.notes.hand s.time (.commitDone t x.run frame) else s.notes }

/-! ### The line (R45, R47) -/

/-- The receiver after several half ticks, each with the level of the line within it. -/
def Receiver.run (x : Receiver) (bit : Nat) (levels : List Level) : Receiver :=
  levels.foldl (fun y level => y.hear bit level) x

/-! ### Open windows (R2) -/

/-- An open window starts `ahead` ticks after the present tick of a timer's frame: tick G of a round below
RPF − Q, or of round 0 of the next frame, which a DRAINING timer does not have (R2). -/
def Timer.OpensIn (x : Timer) (ahead : Nat) : Prop :=
  (∃ r, r < x.config.rpf - x.config.q ∧
    x.round * x.config.tpr + x.tick + ahead = r * x.config.tpr + x.config.g) ∨
  (x.mode ≠ .draining ∧
    x.round * x.config.tpr + x.tick + ahead = x.config.rpf * x.config.tpr + x.config.g)

/-! ### Notifications (R144, R146) -/

/-- The queue holds at most 32 records; an OVERFLOW record is the last; without one there are at most 31;
numbers run on along the list up to the counter (R144, R146). -/
def NoteQueue.Ok (q : NoteQueue) : Prop :=
  q.records.length ≤ 32 ∧ (∀ n ∈ q.records.dropLast, n.isOverflow = false) ∧
    ((∀ n ∈ q.records, n.isOverflow = false) → q.records.length ≤ 31) ∧
    q.records.map Note.number =
      (List.range q.records.length).map fun i => q.counter - BitVec.ofNat 16 (q.records.length - i)

/-! ### Images (R98, R118) -/

/-- Every image is in its canonical form. -/
def State.ImagesOk (s : State) : Prop :=
  ∀ t : TimerId,
    (s.output t).staged.wf = true ∧ (s.output t).active.wf = true ∧ (s.output t).fallback.wf = true ∧
      ∀ b : BufId, ((s.buffers t).get b).image.wf = true

/-! ### Tables (section 2.8 of spec/02_scan_tables_and_commit.md, R22, R35) -/

/-- The active table passes validation under the timer's and the lanes' configurations; the staged table is
frozen exactly while a commit is pending, which is while a frame is in progress or WAITING, and it then
passes too; each has 64 positions. -/
def State.TablesOk (s : State) : Prop :=
  ∀ t : TimerId,
    (s.table t).active.length = 64 ∧ (s.table t).staged.length = 64 ∧
    (s.table t).active.valid (s.timer t).config s.laneConfigs = true ∧
    (s.table t).frozen = (s.timer t).pendingCommit ∧
    ((s.timer t).pendingCommit = true →
      (s.table t).staged.valid (s.timer t).config s.laneConfigs = true ∧
        (s.timer t).mode ≠ .stopped ∧ (s.timer t).mode ≠ .armed)

/-! ### Result buffers (R99) -/

/-- At most one of three buffers is in a state. -/
def Three.AtMostOne (bs : Three Buffer) (m : BufMode) : Prop :=
  ∀ i j : BufId, (bs.get i).mode = m → (bs.get j).mode = m → i = j

/-- A timer state in which a FILLING buffer is present (R4, R99). -/
def TimerMode.hasFilling (m : TimerMode) : Bool := m == .running || m == .draining || m == .waiting

/-- At most one buffer of each timer is FILLING, one READY and one HELD, and a FILLING one exists exactly in
RUNNING, DRAINING and WAITING (R99). -/
def State.BuffersOk (s : State) : Prop :=
  ∀ t : TimerId,
    (s.buffers t).AtMostOne .filling ∧ (s.buffers t).AtMostOne .ready ∧ (s.buffers t).AtMostOne .held ∧
      ((s.buffers t).find .filling).isSome = (s.timer t).mode.hasFilling

/-- The FILLING buffer carries the run of its timer and the number of the frame in progress, or in WAITING of the
next one; an ARMED timer holds frame number 0 (R11, R18, R100, R107). -/
def State.IdentitiesOk (s : State) : Prop :=
  ∀ t : TimerId,
    (∀ b, (s.buffers t).find .filling = some b →
      ((s.buffers t).get b).run = (s.timer t).run ∧
        ((s.buffers t).get b).frame =
          if (s.timer t).mode = .waiting then (s.timer t).frame + 1 else (s.timer t).frame) ∧
    ((s.timer t).mode = .armed → (s.timer t).frame = 0)

/-! ### Host supervision (R125, R128) -/

/-- The supervisor's values lie in their ranges for its state, and no publish is pending while it is EXPIRED
(R125, R128). -/
def State.SupervisionOk (s : State) : Prop :=
  match s.supervisor.mode with
  | .off => s.supervisor.period = 0 ∧ s.supervisor.remaining = 0
  | .armed =>
    10 ≤ s.supervisor.period ∧ s.supervisor.period ≤ 60000 ∧
      s.supervisor.remaining ≤ s.supervisor.period * 1000
  | .expired =>
    10 ≤ s.supervisor.period ∧ s.supervisor.period ≤ 60000 ∧ s.supervisor.remaining = 0 ∧
      ∀ t : TimerId, (s.timer t).pendingPublish = false

/-! ### Lanes (R66) -/

/-- A transaction is in flight exactly in BUSY; DISABLED, SLEEPING, ASLEEP and LINE_FAULT have no claim and
WAKING no cyclic one; the progress items and the pending flags stand only in their states; DISABLED is rate OFF (R46,
R65, R66). -/
def Lane.Ok (x : Lane) : Prop :=
  (x.inFlight.isSome = (x.mode == .busy)) ∧
  (x.mode = .disabled ∨ x.mode = .sleeping ∨ x.mode = .asleep ∨ x.mode = .lineFault → x.claims = []) ∧
  (x.mode = .waking → ∀ c ∈ x.claims, c.isCyclic = false) ∧
  (x.sleep.isSome = (x.mode == .sleeping)) ∧ (x.wake.isSome = (x.mode == .waking)) ∧
  (x.sleepPending = true → x.mode = .busy) ∧
  (x.wakePending = true → x.mode = .sleeping ∨ (x.mode = .busy ∧ x.sleepPending = true)) ∧
  (x.mode = .disabled ↔ x.config.rate = .off)

/-- Every lane satisfies R66. -/
def State.LanesOk (s : State) : Prop := ∀ l : LaneId, (s.lane l).Ok

/-- A cyclic claim belongs to the frame its timer has in progress (R4, R67). -/
def State.Current (s : State) (k : CyclicClaim) : Prop :=
  (s.timer k.timer).mode.inFrame = true ∧ k.run = (s.timer k.timer).run ∧ k.frame = (s.timer k.timer).frame

/-- Every waiting cyclic claim, and every cyclic transaction in flight that is no orphan, belongs to the frame
its timer has in progress; so a timer that is STOPPED, ARMED or WAITING has no claim in any list (R4). -/
def State.ClaimsOk (s : State) : Prop :=
  ∀ l : LaneId,
    (∀ k : CyclicClaim, Claim.cyclic k ∈ (s.lane l).claims → s.Current k) ∧
    (∀ f k, (s.lane l).inFlight = some f → f.claim = .cyclic k → f.orphan = false → s.Current k)

/-- How many claims of a timer's position a lane has: waiting, or in flight and no orphan. -/
def Lane.claimsAt (x : Lane) (t : TimerId) (position : Nat) : Nat :=
  x.claims.countP (fun c => c.isAt t position) +
    match x.inFlight with
    | some f => if f.claim.isAt t position && !f.orphan then 1 else 0
    | none => 0

/-- How many claims of a timer's position all lanes have (R20, R67). -/
def State.claimsAt (s : State) (t : TimerId) (position : Nat) : Nat :=
  (allLanes.map fun l => (s.lane l).claimsAt t position).sum

/-- A position whose entry is due in the frame in progress at a tick for which claims have not been posted yet (R20,
R21). -/
def State.Unposted (s : State) (t : TimerId) (position : Nat) : Prop :=
  let x := s.timer t
  x.mode.inFrame = true ∧ x.closeDue = false ∧
    ∃ e, s.entry t position = some e ∧ e.phase.due x.frame = true ∧
      (x.round < e.round ∨
        (x.round = e.round ∧ (x.tick < e.startTick ∨ (x.tick = e.startTick ∧ x.posted = false))))

/-- Run and frame of an orphan in flight lie before those the timer has in progress, or, with no frame in progress,
at those of its last frame or before (R78, R79, R100). -/
def State.OrphanPast (s : State) (k : CyclicClaim) : Prop :=
  let x := s.timer k.timer
  k.run.toNat < x.run.toNat ∨
    (k.run = x.run ∧
      match x.mode with
      | .armed => False
      | .running => k.frame.toNat < x.frame.toNat
      | .draining => k.frame.toNat < x.frame.toNat
      | .stopped => k.frame.toNat ≤ x.frame.toNat
      | .waiting => k.frame.toNat ≤ x.frame.toNat)

/-- In every status element age is 0 exactly when the outcome is OK or NODE_FAULT (R101). It rests on this: each
position has one claim at most and none before its entry is posted; in the FILLING buffer a position that still has a
claim, or is not posted yet, or of a frame still to start, has no delivery; orphans are of the past (R20, R104). -/
def State.AgesOk (s : State) : Prop :=
  (∀ t : TimerId,
    (∀ b, ∀ e ∈ ((s.buffers t).get b).status, e.age = 0 ↔ e.outcome = .ok ∨ e.outcome = .nodeFault) ∧
    (∀ position, s.claimsAt t position ≤ 1 ∧ (s.Unposted t position → s.claimsAt t position = 0)) ∧
    (∀ b position e, (s.buffers t).find .filling = some b → ((s.buffers t).get b).status[position]? = some e →
      (s.timer t).mode = .waiting ∨ s.claimsAt t position ≠ 0 ∨ s.Unposted t position →
      e.outcome ≠ .ok ∧ e.outcome ≠ .nodeFault)) ∧
  (∀ l f k, (s.lane l).inFlight = some f → f.claim = .cyclic k → f.orphan = true → s.OrphanPast k)

/-- The position of a cyclic claim holds an entry of the active table on this lane (R20, R44). -/
def State.Placed (s : State) (l : LaneId) (k : CyclicClaim) : Prop :=
  ∃ e, s.entry k.timer k.position = some e ∧ e.lane = l

/-- The acyclic table holds the entry of a tag on this lane, IN_FLIGHT or WAITING (R131, R134). -/
def State.Held (s : State) (l : LaneId) (tag : Half) (inFlight : Bool) : Prop :=
  ∃ e, s.acyclicEntry tag = some e ∧ e.lane = l ∧ e.inFlight = inFlight

/-- Every waiting cyclic claim, and every cyclic transaction in flight that is no orphan, stems from an active entry
on its lane; every waiting acyclic claim has its WAITING entry and every acyclic transaction its IN_FLIGHT one; no
tag waits twice (R64, R67, R134). -/
def State.ClaimsPlaced (s : State) : Prop :=
  ∀ l : LaneId,
    (∀ k, Claim.cyclic k ∈ (s.lane l).claims → s.Placed l k) ∧
    (∀ tag a, Claim.acyclic tag a ∈ (s.lane l).claims → s.Held l tag false) ∧
    (∀ tag, (s.lane l).claims.countP (fun c => c.hasTag tag) ≤ 1) ∧
    (∀ f k, (s.lane l).inFlight = some f → f.claim = .cyclic k → f.orphan = false → s.Placed l k) ∧
    (∀ f tag a, (s.lane l).inFlight = some f → f.claim = .acyclic tag a → s.Held l tag true)

/-- One claim may stand before another in a lane's list: a cyclic retry claim first, the other cyclic claims by
deadline, timer and position, the acyclic claims behind them (R67). -/
def Claim.MayPrecede (now : Time) (c d : Claim) : Prop :=
  match c, d with
  | .cyclic x, .cyclic y =>
    match x.attempt, y.attempt with
    | .retry _, _ => True
    | .first, .first => y.before now x = false
    | .first, .retry _ => False
  | .acyclic .., .cyclic _ => False
  | _, .acyclic .. => True

/-- A claim of attempt 1. -/
def Claim.isFirst (c : Claim) : Bool := c.attempt == .first

/-- The order of R67 but for deadlines: cyclic claims before acyclic ones, in each part only the first may be a
retry claim, and no retry claim waits of the kind the transaction in flight may still return; an acyclic
transaction was granted with no cyclic claim waiting (R67, R70, R76, R77). -/
def Lane.ListOk (x : Lane) : Prop :=
  ∃ cyclic acyclic : List Claim, x.claims = cyclic ++ acyclic ∧
    (∀ c ∈ cyclic, c.isCyclic = true) ∧ (∀ c ∈ acyclic, c.isCyclic = false) ∧
    (∀ c ∈ cyclic.tail, c.isFirst = true) ∧ (∀ c ∈ acyclic.tail, c.isFirst = true) ∧
    (∀ f, x.inFlight = some f →
      (∀ c ∈ cyclic, c.isFirst = true) ∧ (f.claim.isCyclic = false → ∀ c ∈ acyclic, c.isFirst = true))

/-- Every lane's list is in the order of R67. -/
def State.ListsOk (s : State) : Prop := ∀ l : LaneId, (s.lane l).ListOk

/-! ### Node records (R62, R87) -/

/-- A lane configuration in range (R62). -/
def LaneConfig.Ok (c : LaneConfig) : Prop :=
  20 ≤ c.rt ∧ c.rt ≤ 2000 ∧ 1 ≤ c.missLimit ∧ c.missLimit ≤ 15 ∧ 1 ≤ c.probeInterval ∧ c.probeInterval ≤ 255

/-- ABSENT or ONLINE: a miss count below the miss limit and no countdown; SILENT: miss count 0 and a
countdown from 1 to the probe interval (R87). -/
def NodeRecord.Ok (r : NodeRecord) (c : LaneConfig) : Prop :=
  match r.mode with
  | .silent => r.missCount = 0 ∧ ∃ k, r.countdown = some k ∧ 1 ≤ k ∧ k ≤ c.probeInterval
  | _ => r.missCount < c.missLimit ∧ r.countdown = none

/-- Every lane's configuration is in range and its 15 records satisfy R87. -/
def State.RosterOk (s : State) : Prop :=
  ∀ l : LaneId,
    (s.lane l).config.Ok ∧ (s.roster.get l).length = 15 ∧ ∀ r ∈ s.roster.get l, r.Ok (s.lane l).config

/-! ### Timers (R1, R3, R5) -/

/-- A timer configuration in range (R1). -/
def TimerConfig.Ok (c : TimerConfig) : Prop :=
  50 ≤ c.tpr ∧ c.tpr ≤ 65535 ∧ c.g < c.tpr ∧ c.g < c.s ∧ c.s ≤ c.tpr ∧ 1 ≤ c.rpf ∧ c.rpf ≤ 256 ∧
    c.q < c.rpf ∧ c.w ≤ c.tpr

/-- The configuration is in range, the position within the frame, the missed count at most 65535, and with no
frame in progress the position reads round 0, tick 0 and SYNC is low (R1, R3, R5, R7). -/
def Timer.Ok (x : Timer) : Prop :=
  x.config.Ok ∧ x.round < x.config.rpf ∧ x.tick < x.config.tpr ∧ x.missed ≤ 65535 ∧
    (x.mode.inFrame = false → x.round = 0 ∧ x.tick = 0 ∧ x.sync = false)

/-- Both timers satisfy `Timer.Ok`. -/
def State.TimersOk (s : State) : Prop := ∀ t : TimerId, (s.timer t).Ok

/-! ### Queues of the message controller and the acyclic table (R131, R159) -/

/-- At most four requests and four replies wait; at most 16 acyclic entries with distinct tags are held (R131,
R159). -/
def State.QueuesOk (s : State) : Prop :=
  s.link.requests.length ≤ 4 ∧ s.link.replies.length ≤ 4 ∧ s.acyclic.length ≤ 16 ∧
    (s.acyclic.map AcyclicEntry.tag).Nodup

end Sys2Proof.Machine
end

