-- ==== Sys2Proof/Certificates/Slice0/Obligations.lean ====
section
/-!
DEFINITION. The statements for the provers. Each docstring names the rules of spec/ it rests on.
-/

open Sys2Proof Sys2Proof.Machine

/-! ### The machine -/

/-- One step takes the command at the front of the queue and runs it on the state with the queue's rest; on an
empty queue it performs the happening that is due, or else lets half a tick pass (the model's choice, logs 1 and
9). -/
def Obligations.StepRunsFrontCommand : Prop :=
  (∀ (c : Instr) (rest : List Instr) (s : State), s.pending = c :: rest →
    step s = exec c { s with pending := rest }) ∧
  (∀ (c : Instr) (s : State), s.pending = [] → due s = some c → step s = exec c s) ∧
  (∀ s : State, s.pending = [] → due s = none → step s = .next s.pass)

/-- State.pass. While no reset is in progress, half a tick moves the transaction, the SLEEP command, a wake pulse or a
settling, the receiver and, of a line whose rate is not OFF, the two measures on by half a tick: dominant counts a
dominant level, quiet recessive half ticks outside every character; and the gap, up to a start edge, and the sending
of a reply. With the second half the tick is over: 1 is added to the device time; the position of a RUNNING or
DRAINING timer moves on by one, past the frame's last tick to a close that is due (where it stays until the close,
log 7); the first frame of an ARMED timer is due; an ARMED supervisor has 1 less left. A reset's 5 ms run while power
is good and RST released (R5, R11, R46, R48, R58, R59, R84, R125, R155, R162, R165). The model's choices in it: that
time passes on an empty queue is log 1; the half ticks of lanes and link, a line having one level in each, and that
quiet stays 0 within a character, log 9 (link: log 17); no measure has a bound (log 21); within a reset device time
and everything else stand still (log 20); the mark early lasts while RXD stays busy (log 23). -/
def Obligations.TickAdvancesClocks : Prop :=
  (∀ s : State, s.resetting = none →
    let t := s.pass
    t.half = !s.half ∧ t.resetting = none ∧
    (s.half = false → t.time = s.time ∧ t.timers = s.timers ∧ t.supervisor = s.supervisor) ∧
    (s.half = true →
      t.time = s.time + 1 ∧
      (∀ i : TimerId,
        let x := s.timer i
        (x.mode.inFrame = true → x.closeDue = false →
          (x.tick + 1 < x.config.tpr → t.timer i = { x with tick := x.tick + 1, posted := false }) ∧
          (x.config.tpr ≤ x.tick + 1 → x.round + 1 < x.config.rpf →
            t.timer i = { x with round := x.round + 1, tick := 0, posted := false }) ∧
          (x.config.tpr ≤ x.tick + 1 → x.config.rpf ≤ x.round + 1 →
            t.timer i = { x with closeDue := true, posted := false })) ∧
        (x.mode.inFrame = false ∨ x.closeDue = true →
          t.timer i = { x with firstDue := decide (x.mode = .armed), posted := false })) ∧
      (s.supervisor.mode = .armed →
        t.supervisor = { s.supervisor with remaining := s.supervisor.remaining - 1 }) ∧
      (s.supervisor.mode ≠ .armed → t.supervisor = s.supervisor)) ∧
    t.link =
      { s.link with
        gap := s.link.gap + if s.pins.rxdBusy then 0 else 1
        sending := s.link.sending + if s.link.replies = [] then 0 else s.link.rate
        early := s.link.early && s.pins.rxdBusy } ∧
    (∀ l : LaneId,
      let x := s.lane l
      let y := t.lane l
      let input := s.pins.lines.get l
      let v := x.level input
      y.config = x.config ∧ y.mode = x.mode ∧ y.claims = x.claims ∧ y.sleepPending = x.sleepPending ∧
      y.wakePending = x.wakePending ∧
      y.inFlight = (x.inFlight.map fun f => { f with elapsed := f.elapsed + 1 }) ∧
      (x.sleep = none → y.sleep = none) ∧ (x.sleep = some .waiting → y.sleep = some .waiting) ∧
      (∀ elapsed cut, x.sleep = some (.command elapsed cut) → y.sleep = some (.command (elapsed + 1) cut)) ∧
      (x.wake = none → y.wake = none) ∧ (∀ left, x.wake = some (.pulse left) → y.wake = some (.pulse (left - 1))) ∧
      (∀ left, x.wake = some (.settle left) → y.wake = some (.settle (left - 1))) ∧
      (x.config.rate = .off → y.rx = x.rx ∧ y.quiet = x.quiet ∧ y.dominant = x.dominant) ∧
      (x.config.rate ≠ .off →
        y.rx = x.rx.hear (2 * x.config.rate.bitTime) v ∧
        y.dominant = (if v = .dominant then x.dominant + 1 else 0) ∧
        (v = .dominant ∨ x.inCharacter input = true → y.quiet = 0) ∧
        (v = .recessive → x.inCharacter input = false → y.quiet = x.quiet + 1))) ∧
    t.pins = s.pins ∧ t.tables = s.tables ∧ t.roster = s.roster ∧ t.results = s.results ∧ t.outputs = s.outputs ∧
    t.acyclic = s.acyclic ∧ t.notes = s.notes ∧ t.pending = s.pending) ∧
  (∀ (s : State) (r : Resetting), s.resetting = some r →
    (s.pins.powerGood = true → s.pins.rst = false →
      s.pass = { s with resetting := some { r with left := r.left - 1 } }) ∧
    (s.pins.powerGood = false ∨ s.pins.rst = true → s.pass = s))

/-- No command touches the queue of waiting commands, a field of the model. -/
def Obligations.CommandsLeaveQueue : Prop :=
  ∀ (c : Instr) (s t : State), exec c s = .next t → t.pending = s.pending

/-- No command faults and none is refused, on any state whose result buffers satisfy R99: a close and a first
frame start find a FREE buffer (R11, R14). -/
def Obligations.NoCommandFaults : Prop :=
  ∀ (c : Instr) (s : State), s.BuffersOk → ∃ t, exec c s = .next t

/-- The state after a power-on reset satisfies every invariant stated below. -/
def Obligations.ResetMeetsInvariants : Prop :=
  State.reset.notes.Ok ∧ State.reset.ImagesOk ∧ State.reset.TablesOk ∧ State.reset.BuffersOk ∧
    State.reset.IdentitiesOk ∧ State.reset.AgesOk ∧ State.reset.SupervisionOk ∧ State.reset.LanesOk ∧ State.reset.ClaimsOk ∧
    State.reset.ClaimsPlaced ∧ State.reset.ListsOk ∧ State.reset.RosterOk ∧ State.reset.TimersOk ∧
    State.reset.QueuesOk

/-! ### Resets -/

/-- RESET_END: device time 0 and every block at the reset values its rule gives; one RESTARTED record with
number 0, device time 0 and the cause; ATN low (R1, R3, R22, R62, R65, R87, R98, R118, R125, R131, R143, R152,
R153, R159, R165). That the link rate is the one the straps give as they stand at the end of the reset is the
model's choice (log 20), and that a tick begins there (log 9). -/
def Obligations.ResetEndGivesResetValues : Prop :=
  ∀ (s : State) (cause : Cause),
    s.resetting = some { cause := cause, left := 0 } → s.pins.powerGood = true → s.pins.rst = false →
    ∃ t, exec .resetEnd s = .next t ∧ t.time = 0 ∧ t.half = false ∧ t.resetting = none ∧ t.pins = s.pins ∧
      (∀ x : TimerId,
        (t.timer x).config =
          { tpr := 1000, g := 0, s := 1000, rpf := 1, q := 0, w := 0, startMode := .immediate, report := .none } ∧
        (t.timer x).mode = .stopped ∧ (t.timer x).run = 0 ∧ (t.timer x).frame = 0 ∧ (t.timer x).round = 0 ∧
        (t.timer x).tick = 0 ∧ (t.timer x).pendingCommit = false ∧ (t.timer x).pendingPublish = false ∧
        (t.timer x).missed = 0 ∧ (t.timer x).sync = false ∧
        (t.table x).staged = List.replicate 64 none ∧ (t.table x).active = List.replicate 64 none ∧
        (t.table x).frozen = false ∧
        (∀ b : BufId,
          ((t.buffers x).get b).mode = .free ∧ ((t.buffers x).get b).run = 0 ∧
          ((t.buffers x).get b).frame = 0 ∧ ((t.buffers x).get b).dropped = false ∧
          (∀ a, ((t.buffers x).get b).image.read a = 0) ∧
          ((t.buffers x).get b).status = List.replicate 64 { outcome := .notRun, attempts := 0, age := 255 }) ∧
        (∀ a, (t.output x).staged.read a = 0 ∧ (t.output x).active.read a = 0 ∧
          (t.output x).fallback.read a = 0) ∧
        (t.output x).armed = false) ∧
      (∀ l : LaneId,
        (t.lane l).config = { rate := .off, rt := 100, missLimit := 3, probeInterval := 8 } ∧
        (t.lane l).mode = .disabled ∧ (t.lane l).claims = [] ∧ (t.lane l).inFlight = none ∧
        (t.lane l).sleepPending = false ∧ (t.lane l).wakePending = false ∧ (t.lane l).wake = none ∧
        (t.lane l).quiet = 0 ∧ (t.lane l).dominant = 0 ∧ (t.lane l).drive = .recessive ∧
        (t.roster.get l).length = 15 ∧
        ∀ j, t.node l j =
          { mode := .absent, missCount := 0, countdown := none, lastOutcome := none, lastSeen := none }) ∧
      t.supervisor = { mode := .off, period := 0, remaining := 0 } ∧ t.acyclic = [] ∧
      t.notes = { records := [{ number := 0, time := 0, body := .restarted cause }], counter := 1 } ∧
      t.link.requests = [] ∧ t.link.replies = [] ∧ t.link.lastTaken = none ∧ t.link.rx = .hunt ∧
      t.link.takingStopped = false ∧
      t.link.rate =
        (if s.pins.rate1 then (if s.pins.rate0 then 3000000 else 1000000)
        else if s.pins.rate0 then 460800 else 115200) ∧
      t.atnLow = true

/-- POWER_ON and asserting RST begin a reset of 5 ms, within which every line is released, ATN and SYNC are
off, TXD is idle and the notification queue is empty; the cause is POWER, or for RST PIN unless a power-on
reset is in progress; releasing RST starts the 5 ms (R61, R143, R152, R165; cause within a reset: log 13). That
every block is at its reset values and device time is 0 from the beginning of the reset on is the model's choice
(log 20; R165 gives them at its end). -/
def Obligations.PowerAndPinBeginReset : Prop :=
  ∀ (s : State),
    (∀ good : Bool, exec (.powerOn good) s =
      .next (State.cleared { s.pins with powerGood := good } s.pending (some { cause := .power, left := 5000 }))) ∧
    ((∀ r, s.resetting = some r → r.cause ≠ .power) →
      exec (.rstPin true) s =
        .next (State.cleared { s.pins with rst := true } s.pending (some { cause := .pin, left := 5000 }))) ∧
    (∀ r, s.resetting = some r → r.cause = .power →
      exec (.rstPin true) s =
        .next (State.cleared { s.pins with rst := true } s.pending (some { cause := .power, left := 5000 }))) ∧
    (∀ r, s.pins.rst = true → s.resetting = some r →
      exec (.rstPin false) s =
        .next { s with pins := { s.pins with rst := false }, resetting := some { r with left := 5000 } }) ∧
    (∀ (pins : Pins) (q : List Instr) (r : Resetting),
      let t := State.cleared pins q (some r)
      t.atnLow = false ∧ t.txdSending = false ∧ t.notes.records = [] ∧
        (∀ l, (t.lane l).drive = .recessive ∧ (t.lane l).mode = .disabled) ∧ ∀ x, (t.timer x).sync = false)

/-- RESET queues OK, leaves the last-taken record and stops the taking of requests; once the last byte of a
reply is out, the reply leaves its queue, and after the reply to RESET the reset with cause REQUEST begins
(R162, R164; the RESET reply is told by its kind and payload, log 27). A bit time is 2000000 in the measure of what has
been sent, to which each half tick adds the bit rate; that the last byte is out at the half tick which completes it is
the model's rounding (log 17), and that every block is at its reset values from the beginning of the reset on is its
choice (log 20). -/
def Obligations.ResetRequestEndsInReset : Prop :=
  (∀ (s : State) (seq : Byte), s.ready (requestOf seq 0x02 []) = true →
    exec (.reset seq []) s =
      .next { s with
        link := { s.link.sends { seq := seq, kind := 0x02, payload := [0x00, 0x00] } with takingStopped := true } }) ∧
  (∀ (s : State) (r : Reply) (rest : List Reply),
    s.resetting = none → s.link.replies = r :: rest →
    (7 + r.payload.length) * 10 * 2000000 ≤ s.link.sending →
    (r.kind = 0x02 ∧ r.payload = [0x00, 0x00] →
      exec .replySent s = .next (State.cleared s.pins s.pending (some { cause := .request, left := 5000 }))) ∧
    (¬ (r.kind = 0x02 ∧ r.payload = [0x00, 0x00]) →
      exec .replySent s =
        .next { s with
          link := { s.link with
            replies := rest
            sending := if rest = [] then 0 else s.link.sending - (7 + r.payload.length) * 10 * 2000000 } }))

/-! ### The message controller -/

/-- A request that matches the last-taken record is not executed, by whichever row it is taken: its stored
reply is queued again with REPLAY set, the record unchanged; a request of none of the 27 kinds is answered
KIND (R160, R161). -/
def Obligations.DuplicatesReplayedUnknownAnswered : Prop :=
  (∀ (s : State) (seq kind : Byte) (p : List Byte) (last : LastTaken) (code flags : Byte) (fields : List Byte),
    s.resetting = none → s.link.takingStopped = false → s.link.replies.length < 4 →
    s.link.requests.head? = some (requestOf seq kind p) → s.link.lastTaken = some last → last.seq = seq →
    last.crc = (requestOf seq kind p).crc → last.reply.payload = code :: flags :: fields →
    ∀ c, c = .duplicateReplay seq kind p ∨ c = rowOf seq kind p →
      exec c s = .next { s with link := s.link.sends { last.reply with payload := code :: 0x01 :: fields } }) ∧
  (∀ (s : State) (seq kind : Byte) (p : List Byte), isRequestKind kind = false →
    s.ready (requestOf seq kind p) = true →
    exec (.unknownKind seq kind p) s = .next (s.replied (requestOf seq kind p) .kind []))

/-- A payload whose length does not fit its kind is answered BAD_ARG by every one of the 27 kinds, and nothing
else changes, the last-taken record becoming the request's but for RESET, which leaves it as it was; so is a timer index other than 0 or 1, for the kinds that carry a timer first; and so is, in every
state of the lane or the table and for any timer 0 or 1, a field of CONFIGURE_LANE, SLEEP_LANE, WAKE_LANE,
READ_ENTRY, TRANSACT, READ_NODE or FORGET_NODE outside its range, a STOP mode outside its set, and a position or
flags byte of STAGE_ENTRY outside its range (R160 step 3, R168 and the first check of R10 to R13, R28, R37 to R40,
R63, R81, R83, R95, R96, R111, R114 to R116, R119 to R121, R132). That a RESET with a payload is a RESET whose reply
leaves the record, and does not stop the taking of requests, is the model's choice (log 14). -/
def Obligations.MalformedPayloadGetsBadArg : Prop :=
  ∀ (s : State) (seq kind : Byte) (p : List Byte), isRequestKind kind = true →
    s.ready (requestOf seq kind p) = true →
    (payloadFits kind p = false → kind ≠ 0x02 →
      exec (rowOf seq kind p) s = .next (s.replied (requestOf seq kind p) .badArg [])) ∧
    (payloadFits kind p = false → kind = 0x02 →
      exec (rowOf seq kind p) s =
        .next { s with link := s.link.sends ((requestOf seq kind p).reply .badArg []) }) ∧
    (payloadFits kind p = true → 1 < byteAt p 0 →
      kind ∈ ([0x06, 0x07, 0x08, 0x0A, 0x0B, 0x0C, 0x0D, 0x0E, 0x0F, 0x10, 0x11, 0x14, 0x15, 0x16, 0x17] : List Byte) →
      exec (rowOf seq kind p) s = .next (s.replied (requestOf seq kind p) .badArg [])) ∧
    (payloadFits kind p = true → fieldOutside kind p = true →
      exec (rowOf seq kind p) s = .next (s.replied (requestOf seq kind p) .badArg []))

/-- The bytes of a good frame, taken one by one from HUNT with a place in the request queue, append exactly the
request they spell, restart an ARMED supervisor, and leave the receive side in HUNT (R127, R154, R155, R156,
R166). A character is ten bit times: the start bit, eight data bits, least significant first, and the stop bit. Ten
levels on RXD from a start bit are the command of one byte with those data bits, marked exactly when the stop bit is
at the start-bit level; so a character sent arrives as it was sent. TXD carries the characters of the oldest reply's
frame back to back at the link rate, and is idle at the stop-bit level with no reply, once the frame is out, and
during a reset (R153, R154, R162, R165). That a data bit 1 has the stop-bit level is presumed (log 29); TXD is seen
as a half tick begins (log 17). -/
def Obligations.HostFrameYieldsItsRequest : Prop :=
  (∀ (s : State) (seq kind : Byte) (p : List Byte),
    s.resetting = none → s.link.early = false → s.link.rx = .hunt → p.length ≤ 250 →
    s.link.requests.length < 4 →
    let body := bytes2 p.length ++ seq :: kind :: p
    let frame := 0xA5 :: (body ++ bytes2 (crc16 body).toNat)
    execAll (frame.map fun b => .hostByteReceived b false) s =
      .next { s with
        supervisor := s.supervisor.active
        link := { s.link with
          requests := s.link.requests ++ [{ seq := seq, kind := kind, payload := p, crc := crc16 body }]
          rx := .hunt, got := [], marked := false, gap := 0 } }) ∧
  (∀ b : Byte, linkCharacterLevel b 0 = .start ∧ linkCharacterLevel b 9 = .stop ∧
    (∀ i, i < 8 → (linkCharacterLevel b (i + 1) = .stop ↔ b.getLsbD i = true)) ∧
    rxdCommand ((List.range 10).map (linkCharacterLevel b)) = some (.hostByteReceived b false)) ∧
  (∀ levels : List LinkLevel, levels.length = 10 →
    (levels[0]? = some .start →
      ∃ b m, rxdCommand levels = some (.hostByteReceived b m) ∧
        (∀ i, i < 8 → (b.getLsbD i = true ↔ levels[i + 1]? = some .stop)) ∧ (m = true ↔ levels[9]? = some .start)) ∧
    (levels[0]? = some .stop → rxdCommand levels = none)) ∧
  (∀ s : State,
    let bit := s.link.sending / 2000000
    (∀ r rest, s.resetting = none → s.link.replies = r :: rest →
      let body := bytes2 r.payload.length ++ r.seq :: r.kind :: r.payload
      let frame := 0xA5 :: (body ++ bytes2 (crc16 body).toNat)
      (∀ i j b, frame[i]? = some b → j < 10 → bit = 10 * i + j → s.txd = linkCharacterLevel b j) ∧
      ((7 + r.payload.length) * 10 ≤ bit → s.txd = .stop)) ∧
    (s.resetting ≠ none ∨ s.link.replies = [] → s.txd = .stop))

/-- The second CRC byte: a framing mark or a wrong CRC queues a CHECK NAK; a good frame is host activity and is
stored, or with four requests waiting is answered by a QUEUE NAK; a NAK is lost when four replies wait (R127,
R156, R158). -/
def Obligations.FrameReceivedJudgesFrame : Prop :=
  ∀ (s : State) (byte : Byte) (mark : Bool) (c : Instr),
    s.resetting = none → s.link.early = false → s.link.rx = .crc →
    s.link.got.length + 1 = 6 + halfAt s.link.got 0 →
    (c = .frameReceived byte mark ∨ c = .hostByteReceived byte mark) →
    let len := halfAt s.link.got 0
    let whole := s.link.got ++ [byte]
    let crc := crc16 (whole.take (4 + len))
    let k := { s.link.leavesFrame .hunt with gap := 0 }
    ((s.link.marked = true ∨ mark = true ∨ halfAt whole (4 + len) ≠ crc.toNat) →
      exec c s = .next { s with link := k.nakked (whole.getD 2 0) .check }) ∧
    (s.link.marked = false → mark = false → halfAt whole (4 + len) = crc.toNat → s.link.requests.length < 4 →
      exec c s =
        .next { s with
          supervisor := s.supervisor.active
          link := { k with
            requests := s.link.requests ++
              [{ seq := whole.getD 2 0, kind := whole.getD 3 0, payload := (whole.drop 4).take len, crc := crc }] } }) ∧
    (s.link.marked = false → mark = false → halfAt whole (4 + len) = crc.toNat → 4 ≤ s.link.requests.length →
      exec c s =
        .next { s with
          supervisor := s.supervisor.active
          link := k.nakked (whole.getD 2 0) .queue })

/-- A byte on RXD: in HUNT only the start value without a framing mark begins a frame; in LENGTH, SEQUENCE,
KIND, PAYLOAD and CRC the byte fills its field and the state moves on when the field is full, a payload of
length 0 passing straight to CRC; in SKIP it is ignored. The sequence byte of a frame longer than 250 queues a
LENGTH NAK and enters SKIP; a gap of more than 1 ms within a frame, whether or not a character has then begun, and 1
ms in SKIP with none begun, return to HUNT with no reply (R155, R157, R158); a start edge at the very moment at which
SKIP would end comes first, by the model's choice (log 30). Within a reset no byte is received, and a byte whose start edge fell within one is not received
after it (R165): it is the byte in reception on RXD at the end of the reset, which the mark early holds (log 23; that it
sets the gap measure to 0 is the model's too). -/
def Obligations.HostByteAdvancesReceiver : Prop :=
  (∀ (s : State) (byte : Byte) (mark : Bool), s.resetting = none → s.link.early = false →
    let k : Link := { s.link with gap := 0 }
    let fill := fun rx : RxMode => { k with rx := rx, got := k.got ++ [byte], marked := k.marked || mark }
    let len := halfAt s.link.got 0
    let answer := fun k' : Link => exec (.hostByteReceived byte mark) s = .next { s with link := k' }
    (s.link.rx = .hunt → byte = 0xA5 → mark = false → answer (k.leavesFrame .length)) ∧
    (s.link.rx = .hunt → byte ≠ 0xA5 ∨ mark = true → answer k) ∧
    (s.link.rx = .skip → answer k) ∧
    (s.link.rx = .length → s.link.got.length = 0 → answer (fill .length)) ∧
    (s.link.rx = .length → s.link.got.length = 1 → answer (fill .sequence)) ∧
    (s.link.rx = .sequence → len ≤ 250 → answer (fill .kind)) ∧
    (s.link.rx = .kind → len = 0 → answer (fill .crc)) ∧
    (s.link.rx = .kind → len ≠ 0 → answer (fill .payload)) ∧
    (s.link.rx = .payload → s.link.got.length + 1 < 4 + len → answer (fill .payload)) ∧
    (s.link.rx = .payload → s.link.got.length + 1 = 4 + len → answer (fill .crc)) ∧
    (s.link.rx = .crc → s.link.got.length = 4 + len → answer (fill .crc))) ∧
  (∀ (s : State) (byte : Byte) (mark : Bool) (c : Instr),
    s.resetting = none → s.link.early = false → s.link.rx = .sequence → 250 < halfAt s.link.got 0 →
    (c = .lengthNak byte mark ∨ c = .hostByteReceived byte mark) →
    exec c s = .next { s with link := Link.nakked { s.link.leavesFrame .skip with gap := 0 } byte .length }) ∧
  (∀ s : State, s.resetting = none → s.link.rx ≠ .hunt → s.link.rx ≠ .skip → 2000 < s.link.gap →
    exec .partialFrameDiscard s = .next { s with link := s.link.leavesFrame .hunt }) ∧
  (∀ s : State, s.resetting = none → s.link.rx = .skip → 2000 ≤ s.link.gap → s.pins.rxdBusy = false →
    exec .skipEnd s = .next { s with link := s.link.leavesFrame .hunt }) ∧
  (∀ s : State, s.link.rx = .skip → s.pins.rxdBusy = true → exec .skipEnd s = .next s) ∧
  (∀ (s : State) (byte : Byte) (mark : Bool) (c : Instr),
    c = .hostByteReceived byte mark ∨ c = .frameReceived byte mark ∨ c = .lengthNak byte mark →
    s.resetting ≠ none → exec c s = .next s) ∧
  (∀ (s : State) (byte : Byte) (mark : Bool), s.resetting = none → s.link.early = true →
    exec (.hostByteReceived byte mark) s = .next { s with link := { s.link with early := false, gap := 0 } }) ∧
  (∀ (s : State) (cause : Cause),
    s.resetting = some { cause := cause, left := 0 } → s.pins.powerGood = true → s.pins.rst = false →
    ∃ t, exec .resetEnd s = .next t ∧ t.link.early = s.pins.rxdBusy)

/-- Every step keeps at most four requests and four replies waiting, and at most 16 acyclic entries with
pairwise distinct tags (R131, R159). -/
def Obligations.QueueBoundsKept : Prop :=
  ∀ s t : State, s.QueuesOk → step s = .next t → t.QueuesOk

/-- QUERY answers the snapshot of R163 in the layout of R169 and changes nothing; READ_ENTRY answers one
position of the staged or the active table with the frozen flag and changes nothing (R40). The zeros in the unassigned
bits of their flags bytes, and in the retry bit of an empty position, are the model's choice (log 28). The values of
the code sets these and the other replies carry are those of R166 and R167: reply and NAK codes, states, ops, phase
selectors, rates, start modes, frame reports, validation causes, indices and flags (outcomes, restart causes and record
kinds are in FetchTakesOldestRecords). -/
def Obligations.QueryAndReadEntryAnswer : Prop :=
  (∀ (s : State) (seq : Byte), s.ready (requestOf seq 0x01 []) = true →
    let timerPart := fun x : TimerId =>
      [(s.timer x).mode.code] ++ bytes2 (s.timer x).run.toNat ++ bytes4 (s.timer x).frame.toNat ++
        [BitVec.ofNat 8 (s.timer x).round] ++ bytes2 (s.timer x).tick ++
        [BitVec.ofNat 8
          ((if (s.timer x).pendingCommit then 1 else 0) + if (s.timer x).pendingPublish then 2 else 0),
          (s.buffers x).b0.mode.code, (s.buffers x).b1.mode.code, (s.buffers x).b2.mode.code]
    let lanePart := fun l : LaneId => [(s.lane l).mode.code, BitVec.ofNat 8 (s.lane l).claims.length]
    exec (.query seq []) s =
      .next (s.replied (requestOf seq 0x01 []) .ok
        (timerPart .a ++ timerPart .b ++ lanePart .l0 ++ lanePart .l1 ++ lanePart .l2 ++ lanePart .l3 ++
          [BitVec.ofNat 8 s.acyclic.length, BitVec.ofNat 8 s.notes.records.length, s.supervisor.mode.code] ++
          bytes4 s.supervisor.remaining ++ bytes4 s.time.toNat))) ∧
  (∀ (s : State) (seq : Byte) (t : TimerId) (table : Bool) (position : Nat), position < 64 →
    let rq := requestOf seq 0x0C [timerCode t, flagByte table, BitVec.ofNat 8 position]
    let content := (if table then (s.table t).active else (s.table t).staged).getD position none
    let frozen := if (s.table t).frozen then 4 else 0
    s.ready rq = true →
    (content = none →
      exec (.readEntry seq [timerCode t, flagByte table, BitVec.ofNat 8 position]) s =
        .next (s.replied rq .ok (BitVec.ofNat 8 (frozen + 1) :: List.replicate 17 0))) ∧
    (∀ e, content = some e →
      exec (.readEntry seq [timerCode t, flagByte table, BitVec.ofNat 8 position]) s =
        .next (s.replied rq .ok (BitVec.ofNat 8 (frozen + if e.retry then 2 else 0) :: e.bytes)))) ∧
  (∀ (code : ReplyCode) (value : Byte),
    (code, value) ∈
      ([(.ok, 0x00), (.accepted, 0x01), (.pendingAccepted, 0x02), (.busy, 0x10), (.badArg, 0x11), (.badState, 0x12),
        (.full, 0x13), (.none, 0x14), (.noNewer, 0x15), (.pending, 0x16), (.tagInUse, 0x17), (.notFound, 0x18),
        (.inFlight, 0x19), (.asleep, 0x1A), (.hostLost, 0x1B), (.tableConflict, 0x1C), (.invalid, 0x1D),
        (.kind, 0x1E)] : List (ReplyCode × Byte)) →
    code.code = value ∧
      ∀ (rq : Request) (fields : List Byte), (rq.reply code fields).payload = value :: 0x00 :: fields) ∧
  ([NakCode.check, .length, .queue].map NakCode.code = [1, 2, 3] ∧
    [TimerMode.stopped, .armed, .running, .draining, .waiting].map TimerMode.code = [0, 1, 2, 3, 4] ∧
    [LaneMode.disabled, .ready, .busy, .sleeping, .asleep, .waking, .lineFault].map LaneMode.code =
      [0, 1, 2, 3, 4, 5, 6] ∧
    [BufMode.free, .filling, .ready, .held].map BufMode.code = [0, 1, 2, 3] ∧
    [NodeMode.absent, .online, .silent].map NodeMode.code = [0, 1, 2] ∧
    [SupMode.off, .armed, .expired].map SupMode.code = [0, 1, 2] ∧
    [Op.read, .write, .exchange].map Op.code = [0, 1, 2] ∧
    [Phase.every, .even, .odd, .nth 5 3].map Phase.bytes = [[0, 0, 0], [1, 0, 0], [2, 0, 0], [3, 5, 3]] ∧
    [Rate.off, .k125, .k250, .k500, .k1000].map Rate.code = [0, 1, 2, 3, 4] ∧
    [StartMode.immediate, .triggerOnce, .triggerEach].map StartMode.code = [0, 1, 2] ∧
    [Report.all, .errors, .none].map Report.code = [0, 1, 2] ∧
    [FailCause.lane, .node, .op, .phase, .round, .tick, .tooLong, .region, .overlap].map FailCause.code =
      [1, 2, 3, 4, 5, 6, 7, 8, 9] ∧
    [TimerId.a, .b].map timerCode = [0, 1] ∧ [LaneId.l0, .l1, .l2, .l3].map laneCode = [0, 1, 2, 3] ∧
    [false, true].map flagByte = [0, 1])

/-! ### Scan timers -/

/-- CONFIGURE_TIMER: BAD_STATE unless STOPPED, whatever the fields; then BAD_ARG for a field out of range;
TABLE_CONFLICT when the active table fails under the proposed configuration; otherwise the whole configuration is
replaced and nothing else changes (R10, R41, R42, R168; an index other than 0 or 1 is in MalformedPayloadGetsBadArg).
START in STOPPED: run number one more, frame number and missed-trigger count 0, ARMED; in any other state BAD_STATE
and nothing changed (R11). -/
def Obligations.ConfigureTimerAndStart : Prop :=
  (∀ (s : State) (seq : Byte) (t : TimerId) (c : TimerConfig), c.Ok →
    let rq := requestOf seq 0x06 (c.payload t)
    s.ready rq = true →
    ((s.timer t).mode ≠ .stopped →
      exec (.configureTimer seq (c.payload t)) s = .next (s.replied rq .badState [])) ∧
    (∀ position cause, (s.timer t).mode = .stopped →
      (s.table t).active.validate c s.laneConfigs = some (position, cause) →
      exec (.configureTimer seq (c.payload t)) s =
        .next (s.replied rq .tableConflict [timerCode t, 1, BitVec.ofNat 8 position, cause.code])) ∧
    ((s.timer t).mode = .stopped → (s.table t).active.validate c s.laneConfigs = none →
      exec (.configureTimer seq (c.payload t)) s =
        .next (State.replied (s.onTimer t fun x => { x with config := c }) rq .ok []))) ∧
  (∀ (s : State) (seq : Byte) (t : TimerId) (fields : List Byte), fields.length = 13 →
    let p := timerCode t :: fields
    let rq := requestOf seq 0x06 p
    s.ready rq = true → timerFieldOutside p = true →
    ((s.timer t).mode ≠ .stopped → exec (.configureTimer seq p) s = .next (s.replied rq .badState [])) ∧
    ((s.timer t).mode = .stopped → exec (.configureTimer seq p) s = .next (s.replied rq .badArg []))) ∧
  (∀ (s : State) (seq : Byte) (t : TimerId),
    let rq := requestOf seq 0x07 [timerCode t]
    s.ready rq = true →
    ((s.timer t).mode = .stopped →
      exec (.start seq [timerCode t]) s =
        .next (State.replied
          (s.onTimer t fun x =>
            { x with mode := .armed, run := x.run + 1, frame := 0, missed := 0, firstDue := false }) rq .ok [])) ∧
    ((s.timer t).mode ≠ .stopped →
      exec (.start seq [timerCode t]) s = .next (s.replied rq .badState [])))

/-- STOP by mode and timer state. END: RUNNING becomes DRAINING; DRAINING and STOPPED are unchanged; ARMED and
WAITING become STOPPED with TIMER_STOPPED, WAITING after freeing its FILLING buffer and applying what is pending.
NOW: in RUNNING and DRAINING the FILLING buffer becomes FREE, the timer's waiting claims leave every list without an
outcome, the roster hearing the wire outcome a retry claim carries, its transactions in flight become orphans, what
is pending is applied, and TIMER_STOPPED is queued last; in the other states NOW has the effect of END. The reply is
OK; a mode outside the set is BAD_ARG (R12, R13, R19, R79, R110). The roster hears of the lanes in ascending order,
the model's choice (log 19); either row of STOP answers a bad mode (log 16). -/
def Obligations.StopByModeAndState : Prop :=
  ∀ (s : State) (seq : Byte) (t : TimerId),
    let rqe := requestOf seq 0x08 [timerCode t, 0]
    let rqn := requestOf seq 0x08 [timerCode t, 1]
    let atEnd := fun u : State => exec (.stopEnd seq [timerCode t, 0]) s = .next (u.replied rqe .ok [])
    let now := fun u : State => exec (.stopNow seq [timerCode t, 1]) s = .next (u.replied rqn .ok [])
    let disarmed := (s.onTimer t fun x => x.rest .stopped).notify (.timerStopped t (s.timer t).run (s.timer t).frame)
    (s.ready rqe = true →
      ((s.timer t).mode = .running → atEnd (s.onTimer t fun x => { x with mode := .draining })) ∧
      ((s.timer t).mode = .draining ∨ (s.timer t).mode = .stopped → atEnd s) ∧
      ((s.timer t).mode = .armed → atEnd disarmed) ∧
      ((s.timer t).mode = .waiting → atEnd ((s.onBuffers t Three.freeFilling).stopped t))) ∧
    (s.ready rqn = true →
      ((s.timer t).mode.inFrame = true →
        ∃ w : State, now (w.stopped t) ∧ w.results = (s.onBuffers t Three.freeFilling).results ∧
          (∀ l, w.lane l =
            { s.lane l with
              claims := (s.lane l).claims.filter fun c => !c.isOfTimer t
              inFlight := (s.lane l).inFlight.map fun f =>
                if f.claim.isOfTimer t then { f with orphan := true } else f }) ∧
          w.roster = (s.hearsAll none fun c => c.isOfTimer t).roster ∧
          w.notes = (s.hearsAll none fun c => c.isOfTimer t).notes ∧
          w.timers = s.timers ∧ w.tables = s.tables ∧ w.outputs = s.outputs ∧ w.acyclic = s.acyclic ∧
          w.time = s.time ∧ w.half = s.half ∧ w.resetting = s.resetting ∧ w.pins = s.pins ∧ w.supervisor = s.supervisor ∧
          w.link = s.link ∧ w.pending = s.pending) ∧
      ((s.timer t).mode = .stopped → now s) ∧
      ((s.timer t).mode = .armed → now disarmed) ∧
      ((s.timer t).mode = .waiting → now ((s.onBuffers t Three.freeFilling).stopped t))) ∧
    (∀ mode : Byte, 1 < mode.toNat →
      let rq := requestOf seq 0x08 [timerCode t, mode]
      s.ready rq = true →
      exec (.stopEnd seq [timerCode t, mode]) s = .next (s.replied rq .badArg []) ∧
      exec (.stopNow seq [timerCode t, mode]) s = .next (s.replied rq .badArg []))

/-- FIRST_FRAME_START, one tick after START in IMMEDIATE mode: the lowest FREE buffer becomes FILLING with a zero
image and every age 255, the frame opens (State.opened: what is pending applied, EMPTY and NOT_DUE marked, the timer
RUNNING at round 0, tick 0 of this tick, SYNC high exactly when W is above 0), and the claims of round 0, tick 0 are
posted; SYNC_END drives SYNC low again once W ticks have passed (R5, R6, R7, R17, R18, R20, R102, R108). -/
def Obligations.FirstFrameStartsAndSyncEnds : Prop :=
  (∀ (s : State) (t : TimerId) (b : BufId),
    s.resetting = none → (s.timer t).mode = .armed → (s.timer t).config.startMode = .immediate →
    (s.timer t).firstDue = true → (s.buffers t).find .filling = none → (s.buffers t).find .free = some b →
    exec (.firstFrameStart t) s =
      .next ((s.opened t b
        { mode := .filling, run := (s.timer t).run, frame := 0, dropped := false, image := []
          status := List.replicate 64 { outcome := .notRun, attempts := 0, age := 255 } }
        (s.timer t).frame).postAll t)) ∧
  (∀ (s : State) (t : TimerId),
    s.resetting = none → (s.timer t).mode.inFrame = true → (s.timer t).closeDue = false →
    (s.timer t).sync = true →
    (s.timer t).config.w ≤ (s.timer t).round * (s.timer t).config.tpr + (s.timer t).tick →
    exec (.syncEnd t) s = .next (s.onTimer t fun x => { x with sync := false }))

/-- FRAME_CLOSE. The frame's waiting claims leave every list with LATE, attempts 0 or as a retry claim 1; its
transactions in flight get OVERRUN, attempts 1 or 2, and become orphans; the roster hears of the claims withdrawn.
The FILLING buffer becomes READY, dropped exactly when a READY one stood before, which becomes FREE; FRAME_DONE is
queued by the report policy, with the counts of that buffer. A DRAINING timer stops. Otherwise the lowest FREE buffer
becomes FILLING for the next frame, with the image copied, NOT_RUN, attempts 0 and every age one more up to 255;
under TRIGGER_EACH the timer waits, and else the next frame opens (State.opened) at this tick and its claims of
round 0, tick 0 are posted. Nothing else changes (R5, R6, R14 to R17, R20, R75, R78, R105 to R108). The lanes are
taken in ascending order, the model's choice (log 19). -/
def Obligations.FrameCloseMovesBuffersAndState : Prop :=
  ∀ (s : State) (t : TimerId),
    s.resetting = none → (s.timer t).mode.inFrame = true → (s.timer t).closeDue = true → s.BuffersOk → s.IdentitiesOk →
    let x := s.timer t
    let ofFrame := fun c : Claim => c.isOfFrame t x.run x.frame
    let waits := fun k : CyclicClaim => ∃ l, Claim.cyclic k ∈ (s.lane l).claims ∧ ofFrame (.cyclic k) = true
    let flies := fun k : CyclicClaim => ∃ l g, (s.lane l).inFlight = some g ∧ g.claim = .cyclic k ∧ ofFrame g.claim = true
    let heard := s.hearsAll (some .late) ofFrame
    let runs := fun e : Status => decide (e.outcome ≠ .notDue ∧ e.outcome ≠ .empty)
    let fails := fun e : Status => decide (e.outcome ≠ .ok ∧ e.outcome ≠ .notDue ∧ e.outcome ≠ .empty)
    ∃ (f : BufId) (status : List Status) (v : State),
      let old := (s.buffers t).get f
      let dropped := ((s.buffers t).find .ready).isSome
      let other := fun b : BufId =>
        if ((s.buffers t).get b).mode = .ready then { (s.buffers t).get b with mode := .free }
        else (s.buffers t).get b
      (s.buffers t).find .filling = some f ∧ status.length = old.status.length ∧
      (∀ i : Nat, (∀ k, waits k ∨ flies k → k.position ≠ i) → status[i]? = old.status[i]?) ∧
      (∀ k, waits k → (∀ j, waits j → j.position = k.position → j = k) → (∀ j, flies j → j.position ≠ k.position) →
        status[k.position]? = old.status[k.position]?.map fun e =>
          { e with outcome := .late, attempts := if k.attempt = .first then 0 else 1 }) ∧
      (∀ k, flies k → (∀ j, flies j → j.position = k.position → j = k) →
        status[k.position]? = old.status[k.position]?.map fun e =>
          { e with outcome := .overrun, attempts := if k.attempt = .first then 1 else 2 }) ∧
      (v.buffers t).get f = { old with mode := .ready, dropped := dropped, status := status } ∧
      (∀ u, u ≠ t → v.buffers u = s.buffers u) ∧
      (∀ l, v.lane l =
        { s.lane l with
          claims := (s.lane l).claims.filter fun c => !ofFrame c
          inFlight := (s.lane l).inFlight.map fun g => if ofFrame g.claim then { g with orphan := true } else g }) ∧
      v.roster = heard.roster ∧
      v.notes =
        (if x.config.report = .all ∨ (x.config.report = .errors ∧ 0 < (status.filter fails).length) then
          heard.notes.hand s.time
            (.frameDone t x.run x.frame (status.filter runs).length (status.filter fails).length
              (status.findIdx? fails) dropped)
        else heard.notes) ∧
      v.timers = s.timers ∧ v.tables = s.tables ∧ v.outputs = s.outputs ∧ v.time = s.time ∧ v.half = s.half ∧
      v.resetting = none ∧
      v.pins = s.pins ∧ v.supervisor = s.supervisor ∧ v.acyclic = s.acyclic ∧ v.link = s.link ∧
      v.pending = s.pending ∧
      (x.mode = .draining →
        (∀ b, b ≠ f → (v.buffers t).get b = other b) ∧ exec (.frameClose t) s = .next (v.stopped t)) ∧
      (x.mode = .running →
        ∃ g, [BufId.b0, .b1, .b2].find? (fun b => b ≠ f ∧ (other b).mode = .free) = some g ∧
          (v.buffers t).get g =
            { mode := .filling, run := x.run, frame := x.frame + 1, dropped := false, image := old.image
              status := status.map fun e => { outcome := .notRun, attempts := 0, age := min (e.age + 1) 255 } } ∧
          (∀ b, b ≠ f → b ≠ g → (v.buffers t).get b = other b) ∧
          (x.config.startMode = .triggerEach →
            exec (.frameClose t) s =
              .next (v.onTimer t fun y =>
                { y with
                  mode := .waiting, round := 0, tick := 0, sync := false, closeDue := false, firstDue := false
                  posted := false })) ∧
          (x.config.startMode ≠ .triggerEach →
            exec (.frameClose t) s =
              .next ((v.opened t g ((v.buffers t).get g) (x.frame + 1)).postAll t)))

/-- POST_CLAIMS posts one claim, in ascending position order, for each entry that starts at the present tick and
is due, by its phase, in the present frame; a lane READY or BUSY takes a broadcast claim, or one to a node that is not
SILENT, into its list, at its place among the others by deadline, timer and position; a SILENT node's claim with a
countdown above 1 decrements it and is SUPPRESSED, at 1 it goes in as a probe with the countdown at the probe
interval; SLEEPING, ASLEEP and WAKING resolve it with ASLEEP, LINE_FAULT with LINE_FAULT, attempts 0 (R20, R21, R67,
R68, R93). How deadlines are compared around the wrap is the model's reading (log 10). -/
def Obligations.PostClaimsPostsDueEntries : Prop :=
  (∀ (s : State) (t : TimerId), s.resetting = none → (s.timer t).mode.inFrame = true →
    (s.timer t).closeDue = false → (s.timer t).posted = false → exec (.postClaims t) s = .next (s.postAll t)) ∧
  (∀ (s : State) (t : TimerId),
    s.postAll t =
      State.onTimer
        ((dueEntries (s.timer t) 0 (s.table t).active).foldl
          (fun u p => u.post p.2
            { timer := t, run := (s.timer t).run, frame := (s.timer t).frame, position := p.1
              deadline := (s.timer t).frameStart +
                BitVec.ofNat 32 (p.2.round * (s.timer t).config.tpr + p.2.startTick + p.2.slack)
              attempt := .first }) s)
        t fun x => { x with posted := true }) ∧
  (∀ (x : Timer) (table : Table),
    ((dueEntries x 0 table).map Prod.fst).Pairwise (· < ·) ∧
    ∀ (position : Nat) (e : ScanEntry),
      (position, e) ∈ dueEntries x 0 table ↔
        table[position]? = some (some e) ∧ e.round = x.round ∧ e.startTick = x.tick ∧
          match e.phase with
          | .every => True
          | .even => x.frame.toNat % 2 = 0
          | .odd => x.frame.toNat % 2 = 1
          | .nth d k => x.frame.toNat % d = k) ∧
  (∀ (now : Time) (c : CyclicClaim) (claims : List Claim), c.attempt = .first →
    claims.Pairwise (Claim.MayPrecede now) →
    (insertCyclic now c claims).Pairwise (Claim.MayPrecede now) ∧
      (insertCyclic now c claims).Perm (.cyclic c :: claims)) ∧
  (∀ (s : State) (e : ScanEntry) (c : CyclicClaim), c.attempt = .first →
    ((s.lane e.lane).mode = .ready ∨ (s.lane e.lane).mode = .busy →
      (e.node = 0 ∨ (s.node e.lane e.node).mode ≠ .silent) →
      (s.roster.get e.lane).length = 15 → e.node ≤ 15 →
      s.post e c = s.onLane e.lane fun x => { x with claims := insertCyclic s.time c x.claims }) ∧
    (∀ k, (s.lane e.lane).mode = .ready ∨ (s.lane e.lane).mode = .busy → e.node ≠ 0 →
      (s.node e.lane e.node).mode = .silent → (s.node e.lane e.node).countdown = some k → 1 < k →
      s.post e c =
        State.deliverWaiting
          (s.setNode e.lane e.node { s.node e.lane e.node with countdown := some (k - 1) })
          e.lane .suppressed (.cyclic c)) ∧
    ((s.lane e.lane).mode = .ready ∨ (s.lane e.lane).mode = .busy → e.node ≠ 0 →
      (s.node e.lane e.node).mode = .silent → (s.node e.lane e.node).countdown = some 1 →
      s.post e c =
        (s.setNode e.lane e.node
          { s.node e.lane e.node with countdown := some (s.lane e.lane).config.probeInterval }).onLane
          e.lane fun x => { x with claims := insertCyclic s.time c x.claims }) ∧
    ((s.lane e.lane).mode = .sleeping ∨ (s.lane e.lane).mode = .asleep ∨ (s.lane e.lane).mode = .waking →
      s.post e c = s.deliverWaiting e.lane .asleep (.cyclic c)) ∧
    ((s.lane e.lane).mode = .lineFault →
      s.post e c = s.deliverWaiting e.lane .lineFault (.cyclic c)))

/-- A TRIG edge by state and start mode: from ARMED under TRIGGER_ONCE and TRIGGER_EACH frame 0 opens on the lowest
FREE buffer, made FILLING with a zero image and every age 255; from WAITING the next frame opens on the FILLING buffer
prepared for it; State.opened says what the opening changes, and the claims of round 0, tick 0 are then posted
(State.postAll, which PostClaimsPostsDueEntries spells out). STOPPED, and every state under IMMEDIATE, and RUNNING and
DRAINING under TRIGGER_ONCE, ignore the edge (R7, R8, R17, R18, R20, R108). -/
def Obligations.TrigEdgeByState : Prop :=
  ∀ (s : State) (t : TimerId), s.resetting = none → s.BuffersOk →
    let x := s.timer t
    (x.mode = .stopped ∨ x.config.startMode = .immediate ∨
        (x.config.startMode = .triggerOnce ∧ x.mode ≠ .armed) →
      exec (.trigEdge t) s = .next s) ∧
    (x.mode = .armed → x.config.startMode ≠ .immediate →
      ∃ b, (s.buffers t).find .free = some b ∧
        exec (.trigEdge t) s =
          .next ((s.opened t b
            { mode := .filling, run := x.run, frame := 0, dropped := false, image := []
              status := List.replicate 64 { outcome := .notRun, attempts := 0, age := 255 } } x.frame).postAll t)) ∧
    (x.mode = .waiting → x.config.startMode = .triggerEach →
      ∃ b, (s.buffers t).find .filling = some b ∧
        exec (.trigEdge t) s = .next ((s.opened t b ((s.buffers t).get b) (x.frame + 1)).postAll t))

/-- A missed trigger changes the missed-trigger count alone, saturating at 65535, and queues TRIGGER_MISSED with
the timer, the run, the frame in progress and the count after the increment (R9). -/
def Obligations.MissedTriggerCounted : Prop :=
  ∀ (s : State) (t : TimerId), s.resetting = none → (s.timer t).mode.inFrame = true →
    (s.timer t).config.startMode = .triggerEach →
    let count := min ((s.timer t).missed + 1) 65535
    exec (.trigEdge t) s =
      .next ((s.onTimer t fun x => { x with missed := count }).notify
        (.triggerMissed t (s.timer t).run (s.timer t).frame count))

/-- Every step keeps a timer's configuration in range, its position within the frame, its missed-trigger count
at most 65535, and with no frame in progress the position at round 0, tick 0 and SYNC low (R1, R3, R5, R7). -/
def Obligations.TimerRangesKept : Prop :=
  ∀ s t : State, s.TimersOk → step s = .next t → t.TimersOk

/-! ### Scan tables -/

/-- STAGE_ENTRY: PENDING while the staged table is frozen; otherwise BAD_ARG for a field of the entry out of range
with the empty flag clear; the position takes the entry, or with the empty flag becomes empty whatever the entry block
holds, and nothing else changes (R23, R38, R168; a position or flags byte out of range is in
MalformedPayloadGetsBadArg). -/
def Obligations.StageEntryStoresEntry : Prop :=
  (∀ (s : State) (seq : Byte) (t : TimerId) (position : Nat) (e : ScanEntry), position < 64 → e.InRange →
    let rq := requestOf seq 0x0A (e.payload t position)
    s.ready rq = true →
    ((s.table t).frozen = true →
      exec (.stageEntry seq (e.payload t position)) s = .next (s.replied rq .pending [])) ∧
    ((s.table t).frozen = false →
      exec (.stageEntry seq (e.payload t position)) s =
        .next (State.replied (s.onTables t fun x => { x with staged := x.staged.set position (some e) })
          rq .ok []))) ∧
  (∀ (s : State) (seq flags : Byte) (t : TimerId) (position : Nat) (block : List Byte), position < 64 →
    block.length = 17 → flags.toNat ≤ 3 →
    let p := timerCode t :: BitVec.ofNat 8 position :: flags :: block
    let rq := requestOf seq 0x0A p
    s.ready rq = true →
    ((s.table t).frozen = true → exec (.stageEntry seq p) s = .next (s.replied rq .pending [])) ∧
    ((s.table t).frozen = false → flags = 1 ∨ flags = 3 →
      exec (.stageEntry seq p) s =
        .next (State.replied (s.onTables t fun x => { x with staged := x.staged.set position none })
          rq .ok [])) ∧
    ((s.table t).frozen = false → flags = 0 ∨ flags = 2 → entryFieldOutside block = true →
      exec (.stageEntry seq p) s = .next (s.replied rq .badArg [])))

/-- CLEAR_STAGED: PENDING and no change while the staged table is frozen; otherwise its 64 positions become empty
and the reply is OK; an index other than 0 or 1 is BAD_ARG; the active table is not affected (R39). -/
def Obligations.ClearStagedEmptiesTable : Prop :=
  (∀ (s : State) (seq : Byte) (t : TimerId),
    let rq := requestOf seq 0x0B [timerCode t]
    s.ready rq = true →
    ((s.table t).frozen = true → exec (.clearStaged seq [timerCode t]) s = .next (s.replied rq .pending [])) ∧
    ((s.table t).frozen = false →
      exec (.clearStaged seq [timerCode t]) s =
        .next (State.replied (s.onTables t fun x => { x with staged := List.replicate 64 none }) rq .ok []))) ∧
  (∀ (s : State) (seq index : Byte), 1 < index.toNat → s.ready (requestOf seq 0x0B [index]) = true →
    exec (.clearStaged seq [index]) s = .next (s.replied (requestOf seq 0x0B [index]) .badArg []))

/-- The entry block of every entry in range is read back as that entry: what STAGE_ENTRY reads is what READ_ENTRY
returns, field by field (R23, R38, R40, R168). -/
def Obligations.EntryBlockRoundTrip : Prop :=
  ∀ e : ScanEntry, e.InRange → parseEntry e.bytes e.retry = some e

/-- COMMIT: PENDING while a commit is pending; INVALID with the first failing position and its cause; applied at
once in STOPPED and ARMED, and in WAITING with every age of the FILLING buffer 255; made pending, the staged table
frozen, in RUNNING and DRAINING. WITHDRAW cancels a pending commit and unfreezes the staged table, or answers NONE
(R28, R34, R35, R37, R109). Validation walks the positions in ascending order and skips empty ones; the first position
that fails, with the first of its nine checks that fails, is the result: LANE, NODE, OP, PHASE, ROUND, TICK, TOO_LONG,
REGION and OVERLAP, each spelled out in the fields of the entry, of the timer and the lane configuration and of the
entries of lower positions, with the WCD of an entry (R24, R26, R29 to R33; the test of R27 is in
PhasesMeetExactlyWhenBothDue). -/
def Obligations.CommitAndWithdrawByState : Prop :=
  (∀ (s : State) (seq : Byte) (t : TimerId),
    let rq := requestOf seq 0x0D [timerCode t]
    let rqw := requestOf seq 0x0E [timerCode t]
    let answer := fun u : State => fun code : ReplyCode => fun fields : List Byte =>
      exec (.commit seq [timerCode t]) s = .next (u.replied rq code fields)
    let copied := s.onTables t fun x => { x with active := x.staged, frozen := false }
    (s.ready rq = true →
      ((s.timer t).pendingCommit = true → answer s .pending []) ∧
      (∀ position cause, (s.timer t).pendingCommit = false →
        (s.table t).staged.validate (s.timer t).config s.laneConfigs = some (position, cause) →
        answer s .invalid [BitVec.ofNat 8 position, cause.code]) ∧
      ((s.timer t).pendingCommit = false →
        (s.table t).staged.validate (s.timer t).config s.laneConfigs = none →
        ((s.timer t).mode = .stopped ∨ (s.timer t).mode = .armed → answer copied .ok []) ∧
        ((s.timer t).mode = .waiting →
          answer (copied.onBuffers t fun bs => bs.onFilling fun b =>
            { b with status := b.status.map fun st => { st with age := 255 } }) .ok []) ∧
        ((s.timer t).mode = .running ∨ (s.timer t).mode = .draining →
          answer ((s.onTables t fun x => { x with frozen := true }).onTimer t fun x =>
            { x with pendingCommit := true }) .pendingAccepted []))) ∧
    (s.ready rqw = true →
      ((s.timer t).pendingCommit = true →
        exec (.withdraw seq [timerCode t]) s =
          .next (State.replied ((s.onTimer t fun x => { x with pendingCommit := false }).onTables t fun x =>
            { x with frozen := false }) rqw .ok [])) ∧
      ((s.timer t).pendingCommit = false →
        exec (.withdraw seq [timerCode t]) s = .next (s.replied rqw .none [])))) ∧
  (∀ (e : ScanEntry) (c : TimerConfig) (lanes : Four LaneConfig) (lower : List ScanEntry),
    let wcd := fun x : ScanEntry =>
      let lane := lanes.get x.lane
      let byteTime := match lane.rate with | .off => 0 | .k125 => 80 | .k250 => 40 | .k500 => 20 | .k1000 => 10
      if x.node = 0 then (6 + x.n) * byteTime else (8 + x.n + x.m) * byteTime + lane.rt
    let fails := fun cause : FailCause =>
      match cause with
      | .lane => (lanes.get e.lane).rate = .off
      | .node => e.node = 0 ∧ e.op ≠ .write
      | .op =>
        match e.op with
        | .read => e.n ≠ 0 ∨ e.m = 0
        | .write => e.n = 0 ∨ e.m ≠ 0
        | .exchange => e.n = 0 ∨ e.m = 0
      | .phase => ∃ d k, e.phase = .nth d k ∧ d ≤ k
      | .round => c.rpf - c.q ≤ e.round
      | .tick => e.startTick < c.g ∨ c.s ≤ e.startTick
      | .tooLong => c.tpr < e.startTick + wcd e
      | .region =>
        512 < e.outOffset + e.n ∨ 1024 < e.resOffset + e.m ∨
          ∃ a ∈ lower, ∃ i, e.resOffset ≤ i ∧ i < e.resOffset + e.m ∧ a.resOffset ≤ i ∧ i < a.resOffset + a.m
      | .overlap =>
        ∃ a ∈ lower, a.lane = e.lane ∧ a.round = e.round ∧ a.phase.meets e.phase = true ∧
          ∃ i, a.startTick ≤ i ∧ i < a.startTick + wcd a ∧ e.startTick ≤ i ∧ i < e.startTick + wcd e
    let order : List FailCause := [.lane, .node, .op, .phase, .round, .tick, .tooLong, .region, .overlap]
    (∀ before cause after, order = before ++ cause :: after → fails cause → (∀ x ∈ before, ¬ fails x) →
      e.firstFailure c lanes lower = some cause) ∧
    ((∀ x ∈ order, ¬ fails x) → e.firstFailure c lanes lower = none)) ∧
  (∀ (table : Table) (c : TimerConfig) (lanes : Four LaneConfig),
    let lower := fun position : Nat => (table.take position).filterMap id
    let passes := fun position : Nat => ∀ e, table[position]? = some (some e) →
      e.firstFailure c lanes (lower position) = none
    (∀ position cause,
      table.validate c lanes = some (position, cause) ↔
        (∀ i, i < position → passes i) ∧
          ∃ e, table[position]? = some (some e) ∧ e.firstFailure c lanes (lower position) = some cause) ∧
    (table.validate c lanes = none ↔ ∀ i, passes i))

/-- Two phase selectors meet by the test of R27 exactly when some frame number makes both due (R21, R27). -/
def Obligations.PhasesMeetExactlyWhenBothDue : Prop :=
  ∀ p q : Phase,
    (∀ d k, p = .nth d k → 2 ≤ d ∧ d ≤ 16 ∧ k < d) → (∀ d k, q = .nth d k → 2 ≤ d ∧ d ≤ 16 ∧ k < d) →
    (p.meets q = true ↔ ∃ frame : Time, p.due frame = true ∧ q.due frame = true)

/-- Every step keeps each active table valid under the present configurations, and a staged table frozen exactly
while its commit is pending and then valid too (section 2.8, R22, R35, R41 to R43). -/
def Obligations.TablesStayValid : Prop :=
  ∀ s t : State, s.TablesOk → step s = .next t → t.TablesOk

/-! ### Output images and host supervision -/

/-- WRITE_OUTPUT and WRITE_FALLBACK write 1 to 200 bytes into the staged image, or into the fallback image which
is then armed; a length or a range outside the image is BAD_ARG. A byte of an image in its canonical form reads as
the byte written to its offset, and elsewhere as before (R119, R120, R168). PUBLISH: HOST_LOST in EXPIRED; the
staged image copied at once in STOPPED, ARMED and WAITING, a kept pending publish cleared; pending in RUNNING and
DRAINING, and OK with no effect where it already was (R121). -/
def Obligations.OutputWritesAndPublish : Prop :=
  (∀ (s : State) (seq : Byte) (t : TimerId) (offset : Nat) (data : List Byte), offset ≤ 65535 → data.length ≤ 246 →
    let p := writePayload t offset data
    let rqo := requestOf seq 0x0F p
    let rqf := requestOf seq 0x10 p
    (1 ≤ data.length → data.length ≤ 200 → offset + data.length ≤ 512 →
      (s.ready rqo = true →
        exec (.writeOutput seq p) s =
          .next (State.replied (s.onOutputs t fun o => { o with staged := o.staged.writeBytes offset data })
            rqo .ok [])) ∧
      (s.ready rqf = true →
        exec (.writeFallback seq p) s =
          .next (State.replied
            (s.onOutputs t fun o => { o with fallback := o.fallback.writeBytes offset data, armed := true })
            rqf .ok []))) ∧
    (data.length = 0 ∨ 200 < data.length ∨ 512 < offset + data.length ∨ 511 < offset →
      (s.ready rqo = true → exec (.writeOutput seq p) s = .next (s.replied rqo .badArg [])) ∧
      (s.ready rqf = true → exec (.writeFallback seq p) s = .next (s.replied rqf .badArg [])))) ∧
  (∀ (m : Memory) (offset : Nat) (data : List Byte) (a : Nat), m.wf = true →
    (offset ≤ a → a < offset + data.length → (m.writeBytes offset data).read a = data.getD (a - offset) 0) ∧
    (a < offset ∨ offset + data.length ≤ a → (m.writeBytes offset data).read a = m.read a)) ∧
  (∀ (s : State) (seq : Byte) (t : TimerId),
    let rq := requestOf seq 0x11 [timerCode t]
    let answer := fun u : State => fun code : ReplyCode => exec (.publish seq [timerCode t]) s = .next (u.replied rq code [])
    s.ready rq = true →
    (s.supervisor.mode = .expired → answer s .hostLost) ∧
    (s.supervisor.mode ≠ .expired →
      ((s.timer t).mode = .stopped ∨ (s.timer t).mode = .armed ∨ (s.timer t).mode = .waiting →
        answer ((s.onOutputs t fun o => { o with active := o.staged }).onTimer t fun x =>
          { x with pendingPublish := false }) .ok) ∧
      ((s.timer t).mode = .running ∨ (s.timer t).mode = .draining →
        ((s.timer t).pendingPublish = true → answer s .ok) ∧
        ((s.timer t).pendingPublish = false →
          answer (s.onTimer t fun x => { x with pendingPublish := true }) .pendingAccepted))))

/-- SET_SUPERVISION: a period of 1 to 9 or above 60000 is BAD_ARG; in EXPIRED any other is BAD_STATE; 0 turns
supervision OFF; 10 to 60000 arms it with the remaining time at the period (R126). -/
def Obligations.SetSupervisionByPeriod : Prop :=
  ∀ (s : State) (seq : Byte) (period : Nat), period ≤ 65535 →
    let rq := requestOf seq 0x12 (bytes2 period)
    let answer := fun u : State => fun code : ReplyCode =>
      exec (.setSupervision seq (bytes2 period)) s = .next (u.replied rq code [])
    s.ready rq = true →
    ((1 ≤ period ∧ period ≤ 9) ∨ 60000 < period → answer s .badArg) ∧
    (s.supervisor.mode = .expired → period = 0 ∨ (10 ≤ period ∧ period ≤ 60000) → answer s .badState) ∧
    (s.supervisor.mode ≠ .expired → period = 0 →
      answer { s with supervisor := { mode := .off, period := 0, remaining := 0 } } .ok) ∧
    (s.supervisor.mode ≠ .expired → 10 ≤ period → period ≤ 60000 →
      answer { s with supervisor := { mode := .armed, period := period, remaining := period * 1000 } } .ok)

/-- SUPERVISION_EXPIRY of an ARMED supervisor with no time remaining: EXPIRED, an armed fallback image copied into
the active image, pending publishes cleared without a copy, HOST_LOST queued, and nothing else changed. RESUME arms
an EXPIRED supervisor at its period, and is answered NONE otherwise (R128, R130). -/
def Obligations.ExpiryAndResume : Prop :=
  (∀ s : State, s.resetting = none → s.supervisor.mode = .armed → s.supervisor.remaining = 0 →
    exec .supervisionExpiry s =
      .next { s with
        supervisor := { mode := .expired, period := s.supervisor.period, remaining := 0 }
        outputs :=
          ⟨{ s.outputs.a with active := if s.outputs.a.armed then s.outputs.a.fallback else s.outputs.a.active },
            { s.outputs.b with active := if s.outputs.b.armed then s.outputs.b.fallback else s.outputs.b.active }⟩
        timers := ⟨{ s.timers.a with pendingPublish := false }, { s.timers.b with pendingPublish := false }⟩
        notes := s.notes.hand s.time .hostLost }) ∧
  (∀ (s : State) (seq : Byte),
    let rq := requestOf seq 0x13 []
    s.ready rq = true →
    (s.supervisor.mode = .expired →
      exec (.resume seq []) s =
        .next (State.replied { s with
          supervisor := { mode := .armed, period := s.supervisor.period, remaining := s.supervisor.period * 1000 } }
          rq .ok [])) ∧
    (s.supervisor.mode ≠ .expired → exec (.resume seq []) s = .next (s.replied rq .none [])))

/-- Every step keeps the supervisor's values in their ranges for its state, and leaves no publish pending while
supervision is EXPIRED (R125, R128). -/
def Obligations.SupervisionKept : Prop :=
  ∀ s t : State, s.SupervisionOk → step s = .next t → t.SupervisionOk

/-- Every step keeps every output and result image in its canonical form (a form of the model, log 24). -/
def Obligations.ImagesStayCanonical : Prop :=
  ∀ s t : State, s.ImagesOk → step s = .next t → t.ImagesOk

/-! ### Result frames -/

/-- HOLD by the timer's READY and HELD buffers: the READY one becomes HELD and a HELD one FREE, answered with the
identity, the dropped flag and the counts of the newly held frame; without a READY one NO_NEWER or NONE (R111,
R112, R15). READ_IMAGE and READ_STATUS answer a range of the HELD buffer, BAD_ARG outside the range and NONE with no
HELD buffer, and change nothing (R114, R115, R169). -/
def Obligations.HoldAndReads : Prop :=
  (∀ (s : State) (seq : Byte) (t : TimerId),
    let rq := requestOf seq 0x14 [timerCode t]
    let held := fun b : Buffer =>
      bytes2 b.run.toNat ++ bytes4 b.frame.toNat ++
        [flagByte b.dropped,
          BitVec.ofNat 8 (b.status.filter fun e => decide (e.outcome ≠ .notDue ∧ e.outcome ≠ .empty)).length,
          BitVec.ofNat 8
            (b.status.filter fun e =>
              decide (e.outcome ≠ .ok ∧ e.outcome ≠ .notDue ∧ e.outcome ≠ .empty)).length,
          match b.status.findIdx? fun e =>
              decide (e.outcome ≠ .ok ∧ e.outcome ≠ .notDue ∧ e.outcome ≠ .empty) with
            | some i => BitVec.ofNat 8 i
            | none => 0xFF]
    s.ready rq = true →
    (∀ r, (s.buffers t).find .ready = some r → (s.buffers t).find .held = none →
      exec (.hold seq [timerCode t]) s =
        .next (State.replied (s.onBuffer t r fun b => { b with mode := .held }) rq .ok
          (held ((s.buffers t).get r)))) ∧
    (∀ r h, (s.buffers t).find .ready = some r → (s.buffers t).find .held = some h →
      exec (.hold seq [timerCode t]) s =
        .next (State.replied
          ((s.onBuffer t h fun b => { b with mode := .free }).onBuffer t r fun b => { b with mode := .held })
          rq .ok (held ((s.buffers t).get r)))) ∧
    (∀ h, (s.buffers t).find .ready = none → (s.buffers t).find .held = some h →
      exec (.hold seq [timerCode t]) s =
        .next (s.replied rq .noNewer
          (bytes2 ((s.buffers t).get h).run.toNat ++ bytes4 ((s.buffers t).get h).frame.toNat))) ∧
    ((s.buffers t).find .ready = none → (s.buffers t).find .held = none →
      exec (.hold seq [timerCode t]) s = .next (s.replied rq .none []))) ∧
  (∀ (s : State) (seq : Byte) (t : TimerId) (offset len : Nat), offset ≤ 65535 → len ≤ 255 →
    let p := timerCode t :: (bytes2 offset ++ [BitVec.ofNat 8 len])
    let rq := requestOf seq 0x15 p
    s.ready rq = true →
    (len = 0 ∨ 200 < len ∨ 1023 < offset ∨ 1024 < offset + len →
      exec (.readImage seq p) s = .next (s.replied rq .badArg [])) ∧
    (1 ≤ len → len ≤ 200 → offset + len ≤ 1024 →
      ((s.buffers t).find .held = none → exec (.readImage seq p) s = .next (s.replied rq .none [])) ∧
      (∀ h, (s.buffers t).find .held = some h →
        exec (.readImage seq p) s =
          .next (s.replied rq .ok
            (bytes2 ((s.buffers t).get h).run.toNat ++ bytes4 ((s.buffers t).get h).frame.toNat ++
              BitVec.ofNat 8 len ::
                (List.range len).map fun i => ((s.buffers t).get h).image.read (offset + i)))))) ∧
  (∀ (s : State) (seq : Byte) (t : TimerId) (first count : Nat), first ≤ 255 → count ≤ 255 →
    let p := [timerCode t, BitVec.ofNat 8 first, BitVec.ofNat 8 count]
    let rq := requestOf seq 0x16 p
    s.ready rq = true →
    (63 < first ∨ count = 0 ∨ 64 < count ∨ 64 < first + count →
      exec (.readStatus seq p) s = .next (s.replied rq .badArg [])) ∧
    (1 ≤ count → first + count ≤ 64 →
      ((s.buffers t).find .held = none → exec (.readStatus seq p) s = .next (s.replied rq .none [])) ∧
      (∀ h, (s.buffers t).find .held = some h →
        exec (.readStatus seq p) s =
          .next (s.replied rq .ok
            (bytes2 ((s.buffers t).get h).run.toNat ++ bytes4 ((s.buffers t).get h).frame.toNat ++
              BitVec.ofNat 8 first :: BitVec.ofNat 8 count ::
                ((((s.buffers t).get h).status.drop first).take count).flatMap fun e =>
                  [e.outcome.code, BitVec.ofNat 8 e.attempts, BitVec.ofNat 8 e.age])))))

/-- RELEASE frees the HELD buffer and answers OK, or NONE with nothing changed when there is none; a timer index
other than 0 or 1 is BAD_ARG (R116). -/
def Obligations.ReleaseFreesHeldBuffer : Prop :=
  (∀ (s : State) (seq : Byte) (t : TimerId),
    let rq := requestOf seq 0x17 [timerCode t]
    s.ready rq = true →
    (∀ h, (s.buffers t).find .held = some h →
      exec (.release seq [timerCode t]) s =
        .next (State.replied (s.onBuffer t h fun b => { b with mode := .free }) rq .ok [])) ∧
    ((s.buffers t).find .held = none →
      exec (.release seq [timerCode t]) s = .next (s.replied rq .none []))) ∧
  (∀ (s : State) (seq index : Byte), 1 < index.toNat → s.ready (requestOf seq 0x17 [index]) = true →
    exec (.release seq [index]) s = .next (s.replied (requestOf seq 0x17 [index]) .badArg []))

/-- A HELD buffer keeps its identity, dropped flag, image and status list under every command but HOLD, RELEASE
and those that begin or end a reset (R99, R106, R117). -/
def Obligations.HeldBufferUntouched : Prop :=
  ∀ (c : Instr) (s u : State) (t : TimerId) (b : BufId),
    exec c s = .next u → ((s.buffers t).get b).mode = .held →
    (∀ seq p, c ≠ .hold seq p ∧ c ≠ .release seq p) → (∀ x, c ≠ .powerOn x ∧ c ≠ .rstPin x) →
    c ≠ .replySent → c ≠ .resetEnd →
    (u.buffers t).get b = (s.buffers t).get b

/-- A HOLD that meets a frame close of its timer: taken first it holds the older READY frame and the frame then
closed is READY, not dropped; taken last it holds the frame just closed, marked dropped, and the older READY frame
is lost; a buffer held before is no longer HELD in either order (R113). -/
def Obligations.HoldMeetsClose : Prop :=
  ∀ (s : State) (seq : Byte) (t : TimerId) (f r : BufId),
    s.ready (requestOf seq 0x14 [timerCode t]) = true → (s.timer t).mode.inFrame = true →
    (s.timer t).closeDue = true → s.BuffersOk →
    (s.buffers t).find .filling = some f → (s.buffers t).find .ready = some r →
    (∃ v u, exec (.hold seq [timerCode t]) s = .next v ∧ exec (.frameClose t) v = .next u ∧
      ((u.buffers t).get r).mode = .held ∧ ((u.buffers t).get r).frame = ((s.buffers t).get r).frame ∧
      ((u.buffers t).get f).mode = .ready ∧ ((u.buffers t).get f).dropped = false ∧
      ∀ h, (s.buffers t).find .held = some h → ((u.buffers t).get h).mode ≠ .held) ∧
    (∃ v u, exec (.frameClose t) s = .next v ∧ exec (.hold seq [timerCode t]) v = .next u ∧
      ((u.buffers t).get f).mode = .held ∧ ((u.buffers t).get f).dropped = true ∧
      ((u.buffers t).get f).frame = ((s.buffers t).get f).frame ∧
      ((u.buffers t).get r).mode ≠ .ready ∧ ((u.buffers t).get r).mode ≠ .held ∧
      ∀ h, (s.buffers t).find .held = some h → ((u.buffers t).get h).mode ≠ .held)

/-- Every step keeps at most one FILLING, one READY and one HELD buffer per timer, with a FILLING one exactly in
RUNNING, DRAINING and WAITING (R99); and keeps the FILLING buffer's identity at its timer's run and the number of the
frame in progress, or in WAITING of the next one, with frame number 0 in ARMED (R11, R18, R100, R107). In every status
element of every buffer age is 0 exactly when the outcome is OK or NODE_FAULT, and what that rests on stands too: each
position is delivered to once in a frame, and an orphan belongs to an earlier frame (R20, R101, R104; State.AgesOk);
for the step on which a run or frame number would wrap the statement says nothing, since an orphan that had waited for
the whole wrap would then be taken for a claim of the new frame (R100). -/
def Obligations.BuffersKept : Prop :=
  ∀ s t : State, s.BuffersOk → step s = .next t →
    t.BuffersOk ∧ (s.IdentitiesOk → t.IdentitiesOk) ∧
      (s.IdentitiesOk → s.ClaimsOk → s.AgesOk →
        (∀ i : TimerId, (s.timer i).run ≠ 0xFFFF ∧ (s.timer i).frame ≠ 0xFFFFFFFF) → t.AgesOk)

/-- The delivery of outcomes. A final outcome of a cyclic claim is written into the FILLING buffer of its run and
frame: outcome and attempts, and for OK and NODE_FAULT the m bytes at the result region and age 0; with no such
buffer it is discarded (R103, R104). A claim that ends while it waits has attempts 0, or 1 as a retry claim, goes to
its owner and then, for a unicast entry, to the roster, with the carried wire outcome of a retry claim (R75, R140). -/
def Obligations.OutcomesReachTheirOwners : Prop :=
  (∀ (s : State) (k : CyclicClaim) (o : Outcome) (attempts : Nat) (data : List Byte),
    let filling := fun b : BufId =>
      (s.buffers k.timer).find .filling = some b ∧ ((s.buffers k.timer).get b).run = k.run ∧
        ((s.buffers k.timer).get b).frame = k.frame
    ((∀ b, ¬ filling b) → s.deliverResult k o attempts data = s) ∧
    (∀ b, filling b → o ≠ .ok → o ≠ .nodeFault →
      s.deliverResult k o attempts data =
        s.onBuffer k.timer b fun x =>
          { x with status := x.status.modify k.position fun e => { e with outcome := o, attempts := attempts } }) ∧
    (∀ b e, filling b → o = .ok ∨ o = .nodeFault → s.entry k.timer k.position = some e → data.length = e.m →
      s.deliverResult k o attempts data =
        s.onBuffer k.timer b fun x =>
          { x with
            status := x.status.modify k.position fun _ => { outcome := o, attempts := attempts, age := 0 }
            image := x.image.writeBytes e.resOffset data })) ∧
  (∀ (s : State) (l : LaneId) (o : Outcome),
    (∀ (k : CyclicClaim) (e : ScanEntry), s.entry k.timer k.position = some e →
      (k.attempt = .first →
        s.deliverWaiting l o (.cyclic k) = (s.deliverResult k o 0 []).rosterOutcome l e.node o) ∧
      (∀ wire, k.attempt = .retry wire →
        s.deliverWaiting l o (.cyclic k) = (s.deliverResult k o 1 []).rosterOutcome l e.node wire)) ∧
    (∀ (tag : Half) (e : AcyclicEntry), s.acyclicEntry tag = some e → o ≠ .ok → o ≠ .nodeFault →
      let left := { s with acyclic := s.acyclic.filter fun x => x.tag != tag }
      s.deliverWaiting l o (.acyclic tag .first) =
        (left.notify (.transactDone tag o 0 [])).rosterOutcome l e.node o ∧
      ∀ wire, s.deliverWaiting l o (.acyclic tag (.retry wire)) =
        (left.notify (.transactDone tag o 1 [])).rosterOutcome l e.node wire))

/-! ### Acyclic transactions -/

/-- TRANSACT with fields a scan entry may carry: FULL, TAG_IN_USE, BAD_STATE or ASLEEP, in that order, or the entry
is stored WAITING at attempt 1, accepted now, its claim goes to the end of its lane's list, and the reply is
ACCEPTED (R24, R131, R132, R133). -/
def Obligations.TransactAcceptedOrRefused : Prop :=
  ∀ (s : State) (seq : Byte) (tag : Half) (l : LaneId) (node : Nat) (op : Op) (m timeout : Nat) (retry : Bool)
    (data : List Byte),
    node ≤ 15 → m ≤ 32 → data.length ≤ 32 → 1 ≤ timeout → timeout ≤ 65535 → (node = 0 → op = .write) →
    (op = .read → data = [] ∧ 1 ≤ m) → (op = .write → data ≠ [] ∧ m = 0) → (op = .exchange → data ≠ [] ∧ 1 ≤ m) →
    let p := transactPayload tag l node op m timeout retry data
    let rq := requestOf seq 0x18 p
    let answer := fun u : State => fun code : ReplyCode => exec (.transact seq p) s = .next (u.replied rq code [])
    let taken := ∃ e ∈ s.acyclic, e.tag = tag
    s.ready rq = true →
    (16 ≤ s.acyclic.length → answer s .full) ∧
    (s.acyclic.length < 16 → taken → answer s .tagInUse) ∧
    (s.acyclic.length < 16 → ¬ taken →
      ((s.lane l).mode = .disabled ∨ (s.lane l).mode = .lineFault → answer s .badState) ∧
      ((s.lane l).mode = .sleeping ∨ (s.lane l).mode = .asleep → answer s .asleep) ∧
      ((s.lane l).mode = .ready ∨ (s.lane l).mode = .busy ∨ (s.lane l).mode = .waking →
        answer
          (State.onLane { s with
              acyclic := s.acyclic ++
                [{ tag := tag, lane := l, node := node, op := op, request := data, m := m, timeout := timeout
                   retry := retry, acceptedAt := s.time, inFlight := false, attempt := .first, runOut := false }] }
            l fun x => { x with claims := x.claims ++ [.acyclic tag .first] })
          .accepted))

/-- CANCEL of a WAITING entry and the timeout of one: its claim leaves the lane's list, it completes with CANCELLED
or EXPIRED and attempts 0, or 1 when it waited as a retry, and the roster is told; an entry IN_FLIGHT refuses the
CANCEL and is only marked by the timeout; CANCEL of no entry is NOT_FOUND (R136, R138, R140). -/
def Obligations.WaitingEntriesCancelledOrTimedOut : Prop :=
  let gone := fun (s : State) (e : AcyclicEntry) (o : Outcome) =>
    let u := State.onLane { s with acyclic := s.acyclic.filter fun x => x.tag != e.tag } e.lane fun x =>
      { x with claims := x.claims.filter fun c => !c.hasTag e.tag }
    match e.attempt with
    | .first => (u.notify (.transactDone e.tag o 0 [])).rosterOutcome e.lane e.node o
    | .retry wire => (u.notify (.transactDone e.tag o 1 [])).rosterOutcome e.lane e.node wire
  (∀ (s : State) (seq : Byte) (tag : Half),
    let p := bytes2 tag.toNat
    let rq := requestOf seq 0x19 p
    s.ready rq = true →
    (s.acyclicEntry tag = none → exec (.cancel seq p) s = .next (s.replied rq .notFound [])) ∧
    (∀ e, s.acyclicEntry tag = some e → e.inFlight = true →
      exec (.cancel seq p) s = .next (s.replied rq .inFlight [])) ∧
    (∀ e, s.acyclicEntry tag = some e → e.inFlight = false →
      exec (.cancel seq p) s = .next ((gone s e .cancelled).replied rq .ok []))) ∧
  (∀ (s : State) (tag : Half) (e : AcyclicEntry), s.resetting = none → s.acyclicEntry tag = some e →
    e.timeout * 1000 ≤ (s.time - e.acceptedAt).toNat →
    (e.inFlight = false → exec (.acyclicTimeout tag) s = .next (gone s e .expired)) ∧
    (e.inFlight = true → e.runOut = false →
      exec (.acyclicTimeout tag) s =
        .next { s with acyclic := s.acyclic.map fun x => if x.tag = tag then { x with runOut := true } else x }))

/-! ### Node roster -/

/-- READ_NODE answers the record with the lane's limits and changes nothing; FORGET_NODE clears it in every lane
state; a lane above 3 or an address outside 1 to 15 is BAD_ARG to both (R95, R96, R169). The zeros in the unassigned
bits of the flags byte are the model's choice (log 28). -/
def Obligations.ReadAndForgetNode : Prop :=
  (∀ (s : State) (seq : Byte) (l : LaneId) (node : Nat), 1 ≤ node → node ≤ 15 →
    let p := [laneCode l, BitVec.ofNat 8 node]
    let r := s.node l node
    (s.ready (requestOf seq 0x1A p) = true →
      exec (.readNode seq p) s =
        .next (s.replied (requestOf seq 0x1A p) .ok
          ([r.mode.code, BitVec.ofNat 8 r.missCount,
              (match r.countdown with | some k => BitVec.ofNat 8 k | none => 0),
              (match r.lastOutcome with | some o => o.code | none => 0xFF),
              (match r.lastSeen with | some _ => 1 | none => 0)] ++
            (match r.lastSeen with | some time => bytes4 time.toNat | none => [0, 0, 0, 0]) ++
            [BitVec.ofNat 8 (s.lane l).config.missLimit, BitVec.ofNat 8 (s.lane l).config.probeInterval]))) ∧
    (s.ready (requestOf seq 0x1B p) = true →
      exec (.forgetNode seq p) s =
        .next (State.replied { s with
          roster := s.roster.set l ((s.roster.get l).set (node - 1)
            { mode := .absent, missCount := 0, countdown := none, lastOutcome := none, lastSeen := none }) }
          (requestOf seq 0x1B p) .ok []))) ∧
  (∀ (s : State) (seq lane node : Byte), 3 < lane.toNat ∨ node.toNat = 0 ∨ 15 < node.toNat →
    (s.ready (requestOf seq 0x1A [lane, node]) = true →
      exec (.readNode seq [lane, node]) s = .next (s.replied (requestOf seq 0x1A [lane, node]) .badArg [])) ∧
    (s.ready (requestOf seq 0x1B [lane, node]) = true →
      exec (.forgetNode seq [lane, node]) s = .next (s.replied (requestOf seq 0x1B [lane, node]) .badArg [])))

/-- An outcome that reaches the record of a node changes that record alone. OK and NODE_FAULT make it ONLINE with
miss count 0, no countdown and last seen now; NO_RESPONSE, CHECK and SHORT count against a record not SILENT and
at the miss limit make it SILENT with the countdown at the probe interval; a SILENT record, and every other outcome,
change only the last outcome. NODE_BACK and NODE_SILENT are queued exactly where a SILENT record comes ONLINE and
where a record becomes SILENT. Broadcast changes nothing (R88 to R92, R97). -/
def Obligations.OutcomesChangeNodeRecord : Prop :=
  ∀ (s : State) (l : LaneId) (o : Outcome),
    s.rosterOutcome l 0 o = s ∧
    ∀ node, 1 ≤ node → node ≤ 15 →
      let r := s.node l node
      let c := (s.lane l).config
      let set := fun r' : NodeRecord => { s with roster := s.roster.set l ((s.roster.get l).set (node - 1) r') }
      let good := o = .ok ∨ o = .nodeFault
      let miss := o = .noResponse ∨ o = .check ∨ o = .short
      (good →
        let u := set { mode := .online, missCount := 0, countdown := none, lastOutcome := some o
                       lastSeen := some s.time }
        (r.mode = .silent → s.rosterOutcome l node o = u.notify (.nodeBack l node)) ∧
        (r.mode ≠ .silent → s.rosterOutcome l node o = u)) ∧
      (miss → r.mode ≠ .silent →
        (r.missCount + 1 < c.missLimit →
          s.rosterOutcome l node o = set { r with missCount := r.missCount + 1, lastOutcome := some o }) ∧
        (c.missLimit ≤ r.missCount + 1 →
          s.rosterOutcome l node o =
            (set { r with mode := .silent, missCount := 0, countdown := some c.probeInterval
                          lastOutcome := some o }).notify (.nodeSilent l node))) ∧
      ((miss ∧ r.mode = .silent) ∨ (¬ good ∧ ¬ miss) →
        s.rosterOutcome l node o = set { r with lastOutcome := some o })

/-- Every step keeps every lane configuration in range and every node record as R87 says: a miss count below the
miss limit, or SILENT with a countdown from 1 to the probe interval (R62, R87). -/
def Obligations.RosterKept : Prop :=
  ∀ s t : State, s.RosterOk → step s = .next t → t.RosterOk

/-! ### Lanes -/

/-- CONFIGURE_LANE with every field in range: BUSY for a lane BUSY, SLEEPING or WAKING or with an acyclic entry;
TABLE_CONFLICT for the first table that fails, timer A before B and active before staged; otherwise the
configuration is replaced, the measures start from 0, the lane is DISABLED with rate OFF and comes READY from
DISABLED, and the lane's miss counts and countdowns start afresh (R43, R63, R64, R94). The receiver
observes the line on where the rate stays (R47); what it keeps where the rate changes is the model's choice (log 31). -/
def Obligations.ConfigureLaneByState : Prop :=
  ∀ (s : State) (seq : Byte) (l : LaneId) (c : LaneConfig), c.Ok →
    let p := c.payload l
    let rq := requestOf seq 0x03 p
    let answer := fun u : State => fun code : ReplyCode => fun fields : List Byte =>
      exec (.configureLane seq p) s = .next (u.replied rq code fields)
    let inUse := (s.lane l).mode = .busy ∨ (s.lane l).mode = .sleeping ∨ (s.lane l).mode = .waking ∨
      ∃ e ∈ s.acyclic, e.lane = l
    let fails := fun (t : TimerId) (table : Table) => table.validate (s.timer t).config (s.laneConfigs.set l c)
    let conflict := fun t : TimerId =>
      match fails t (s.table t).active with
      | some (position, cause) => some [timerCode t, 1, BitVec.ofNat 8 position, cause.code]
      | none =>
        if (s.timer t).pendingCommit then
          match fails t (s.table t).staged with
          | some (position, cause) => some [timerCode t, 0, BitVec.ofNat 8 position, cause.code]
          | none => none
        else none
    s.ready rq = true →
    (inUse → answer s .busy []) ∧
    (¬ inUse →
      (∀ fields, conflict .a = some fields → answer s .tableConflict fields) ∧
      (∀ fields, conflict .a = none → conflict .b = some fields → answer s .tableConflict fields) ∧
      (conflict .a = none → conflict .b = none →
        answer
          { s with
            lanes := s.lanes.set l
              { s.lane l with
                config := c
                rx :=
                  if (s.lane l).config.rate = c.rate then (s.lane l).rx
                  else if (s.lane l).config.rate = .off ∨ c.rate = .off then
                    { last := .dominant, reception := none, done := none }
                  else { (s.lane l).rx with reception := none }
                quiet := 0, dominant := 0
                mode :=
                  if c.rate = .off then .disabled
                  else if (s.lane l).mode = .disabled then .ready else (s.lane l).mode }
            roster := s.roster.set l ((s.roster.get l).map fun r =>
              { r with
                missCount := 0
                countdown := if r.mode = .silent then some c.probeInterval else r.countdown }) }
          .ok []))

/-- SLEEP_LANE and WAKE_LANE by the lane's state. SLEEP_LANE: READY enters SLEEPING and resolves its claims with
ASLEEP, BUSY sets sleep-pending, SLEEPING and ASLEEP answer OK, WAKING BUSY, DISABLED and LINE_FAULT BAD_STATE.
WAKE_LANE: ASLEEP starts a pulse of 200 µs, which is 400 half ticks, SLEEPING and BUSY with sleep pending set wake-pending, otherwise OK
unchanged but for DISABLED and LINE_FAULT, BAD_STATE (R81, R82, R83, R84). -/
def Obligations.SleepAndWakeByState : Prop :=
  ∀ (s : State) (seq : Byte) (l : LaneId),
    let x := s.lane l
    let rqs := requestOf seq 0x04 [laneCode l]
    let rqw := requestOf seq 0x05 [laneCode l]
    let slept := fun u : State => fun code : ReplyCode =>
      exec (.sleepLane seq [laneCode l]) s = .next (u.replied rqs code [])
    let woken := fun u : State => fun code : ReplyCode =>
      exec (.wakeLane seq [laneCode l]) s = .next (u.replied rqw code [])
    (s.ready rqs = true →
      (x.mode = .ready →
        slept (x.claims.foldl (fun u c => u.deliverWaiting l .asleep c)
          (s.onLane l fun y =>
            { y with mode := .sleeping, sleepPending := false, sleep := some .waiting, claims := [] })) .ok) ∧
      (x.mode = .busy → slept (s.onLane l fun y => { y with sleepPending := true }) .ok) ∧
      (x.mode = .sleeping ∨ x.mode = .asleep → slept s .ok) ∧
      (x.mode = .waking → slept s .busy) ∧
      (x.mode = .disabled ∨ x.mode = .lineFault → slept s .badState)) ∧
    (s.ready rqw = true →
      (x.mode = .asleep →
        woken (s.onLane l fun y => { y with mode := .waking, sleep := none, wake := some (.pulse 400) }) .ok) ∧
      (x.mode = .sleeping ∨ (x.mode = .busy ∧ x.sleepPending = true) →
        woken (s.onLane l fun y => { y with wakePending := true }) .ok) ∧
      ((x.mode = .busy ∧ x.sleepPending = false) ∨ x.mode = .ready ∨ x.mode = .waking → woken s .ok) ∧
      (x.mode = .disabled ∨ x.mode = .lineFault → woken s .badState))

/-- GRANT, at a tick, on a READY lane whose line has been quiet for two byte times takes the claim at the head: a cyclic claim
at once, its request bytes copied from its timer's active image; an acyclic claim when every timer with a frame in
progress and an entry on the lane is in quiet time with at least the WCD left to its next open window, the entry then
IN_FLIGHT; with the budget not met nothing changes, and no grant is taken at the middle of a tick. Quiet time is the ticks from S on and the quiet rounds; the time
left reaches to the nearest start of an open window, and is unbounded when a DRAINING timer has none left (R2, R26,
R46, R70, R71, R73, R124, R135). That the tick of a close that is due is not quiet time (log 7), and that a guard
tick's next open window is that of its own round (log 26), are the model's readings. -/
def Obligations.GrantTakesFrontClaim : Prop :=
  (∀ (s : State) (l : LaneId) (c : Claim) (rest : List Claim),
    s.resetting = none → s.half = false → (s.lane l).mode = .ready →
    2 * (2 * (s.lane l).config.rate.byteTime) ≤ (s.lane l).quiet → (s.lane l).claims = c :: rest →
    (∀ k e, c = .cyclic k → s.entry k.timer k.position = some e →
      exec (.grant l) s =
        .next (s.onLane l fun x =>
          { x with
            mode := .busy, claims := rest
            inFlight := some
              { claim := c, node := e.node, op := e.op, m := e.m
                request := (List.range e.n).map fun i => (s.output k.timer).active.read (e.outOffset + i)
                orphan := false, elapsed := 0, received := [], lastEnd := 0 } })) ∧
    (∀ tag a e, c = .acyclic tag a → s.acyclicEntry tag = some e →
      let byteTime := (s.lane l).config.rate.byteTime
      let wcd :=
        if e.node = 0 then (6 + e.request.length) * byteTime
        else (8 + e.request.length + e.m) * byteTime + (s.lane l).config.rt
      let budget := ∀ t : TimerId, (s.timer t).mode.inFrame = true →
        (∃ y, some y ∈ (s.table t).active ∧ y.lane = l) →
        (s.timer t).inQuietTime = true ∧ ∀ left, (s.timer t).untilOpen = some left → wcd ≤ left
      (budget →
        exec (.grant l) s =
          .next (State.onAcyclic (s.onLane l fun x =>
            { x with
              mode := .busy, claims := rest
              inFlight := some
                { claim := c, node := e.node, op := e.op, m := e.m, request := e.request
                  orphan := false, elapsed := 0, received := [], lastEnd := 0 } })
            tag fun y => { y with inFlight := true })) ∧
      (¬ budget → exec (.grant l) s = .next s))) ∧
  (∀ (s : State) (l : LaneId), s.half = true → exec (.grant l) s = .next s) ∧
  (∀ x : Timer,
    x.inQuietTime = true ↔
      x.closeDue = false ∧ (x.config.rpf - x.config.q ≤ x.round ∨ x.config.s ≤ x.tick)) ∧
  (∀ x : Timer, x.Ok →
    (∀ left, x.untilOpen = some left →
      0 < left ∧ x.OpensIn left ∧ ∀ ahead, 0 < ahead → x.OpensIn ahead → left ≤ ahead) ∧
    (x.untilOpen = none → x.mode = .draining ∧ ∀ ahead, 0 < ahead → ¬ x.OpensIn ahead))

/-- CLAIM_EXPIRY removes a waiting cyclic claim whose deadline has passed and delivers LATE; a claim whose deadline
is the present tick or later stays. A deadline up to 2³¹ ticks back has passed, one up to 2³¹ − 1 ticks ahead has
not, which is the model's reading of counting forward (R67, R72; log 10). -/
def Obligations.ClaimExpiryRemovesLateClaim : Prop :=
  (∀ (s : State) (l : LaneId) (k : CyclicClaim), s.resetting = none →
    (s.lane l).claims.find? (fun c => c.isAt k.timer k.position) = some (.cyclic k) →
    (deadlinePassed s.time k.deadline = true →
      exec (.claimExpiry l k.timer k.position) s =
        .next (State.deliverWaiting
          (s.onLane l fun x => { x with claims := x.claims.erase (.cyclic k) }) l .late (.cyclic k))) ∧
    (deadlinePassed s.time k.deadline = false → exec (.claimExpiry l k.timer k.position) s = .next s)) ∧
  (∀ (now : Time) (ticks : Nat),
    (ticks < 2147483648 → deadlinePassed now (now + BitVec.ofNat 32 ticks) = false) ∧
    (1 ≤ ticks → ticks ≤ 2147483648 → deadlinePassed now (now - BitVec.ofNat 32 ticks) = true))

/-- What the receiver of the line has heard decides: a command character whose echo, the character received from its
start edge, is absent, differs or has a framing mark ends the transaction with ECHO,
and a matching one changes nothing (R51);
a broadcast sent ends OK (R56); RT run out with no edge or character on the line ends it with NO_RESPONSE (R52); the
character limit run out with SHORT (R53); a response character before the last is taken in; the last is judged (R54).
A start edge lies one byte time before the end of its character (R45, R47). All is counted in half ticks, in each of
which the line has one level (the model's choice, log 9). A command that names another character
than the one the receiver has completed changes nothing, the model's choice (log 2). -/
def Obligations.WireDecidesOutcome : Prop :=
  ∀ (s : State) (l : LaneId) (f : InFlight), s.resetting = none → (s.lane l).inFlight = some f →
    let r := (s.lane l).config.rate
    let byteTime := 2 * r.byteTime
    let rt := 2 * (s.lane l).config.rt
    let sent := (4 + f.request.length) * byteTime
    let done := (s.lane l).rx.done
    (∀ (i : Nat) (b : Byte), r ≠ .off → f.frame[i]? = some b → f.elapsed = (i + 1) * byteTime →
      (done ≠ some (b, false) → exec (.echoMismatch l done) s = .next (s.endTransaction l f .echo [])) ∧
      (done = some (b, false) → (s.lane l).sleep = none → exec (.echoMismatch l done) s = .next s)) ∧
    (f.node = 0 → sent ≤ f.elapsed →
      (f.elapsed = sent → ∀ b, f.frame.getLast? = some b → done = some (b, false)) →
      exec (.broadcastComplete l) s = .next (s.endTransaction l f .ok [])) ∧
    (f.node ≠ 0 → f.received = [] → s.lineFree l = true → done = none → sent + rt ≤ f.elapsed →
      exec (.responseTimeout l) s = .next (s.endTransaction l f .noResponse [])) ∧
    (f.node ≠ 0 → f.received ≠ [] → s.lineFree l = true → done = none → f.lastEnd + 3 * byteTime ≤ f.elapsed →
      exec (.characterLimitExpiry l) s = .next (s.endTransaction l f .short [])) ∧
    (∀ (byte : Byte) (mark : Bool), done = some (byte, mark) → f.node ≠ 0 → sent + byteTime ≤ f.elapsed →
      (f.received = [] → f.elapsed ≤ sent + rt + byteTime) →
      (f.received ≠ [] → f.lastEnd + byteTime ≤ f.elapsed ∧ f.elapsed ≤ f.lastEnd + 4 * byteTime) →
      (f.received.length + 1 < 2 + f.m →
        exec (.responseCharacterReceived l byte mark) s =
          .next (s.onLane l fun x =>
            { x with
              rx := { x.rx with done := none }
              inFlight := some { f with received := f.received ++ [(byte, mark)], lastEnd := f.elapsed } })) ∧
      (f.received.length + 1 = 2 + f.m →
        exec (.responseComplete l byte mark) s =
          .next (s.endTransaction l f (f.judge byte mark).1 (f.judge byte mark).2))) ∧
    (∀ c : Option (Byte × Bool), c ≠ done → exec (.echoMismatch l c) s = .next s) ∧
    (∀ (byte : Byte) (mark : Bool), done ≠ some (byte, mark) →
      exec (.responseCharacterReceived l byte mark) s = .next s ∧ exec (.responseComplete l byte mark) s = .next s)

/-- Levels on a lane line. Bit, byte, gap and character-limit times of a rate. A character is a dominant start bit,
eight data bits, least significant first and 0 dominant, and a recessive stop bit; a frame drives its characters back
to back, a wake pulse drives dominant, all else is recessive; the line is dominant when any party drives it. A change
to dominant that is still there half a bit time later begins a character: its data bits and stop bit are the levels
half a bit time into their bit times, a dominant stop bit is its framing mark, and it is complete after ten bit times,
so a character sent is received as it was sent. A shorter pulse is a glitch, at every rate, and a dominant level that
does not change begins nothing. The line is free when no edge awaits its sample and no character is in reception (R45,
R46, R47, R52, R53). The line has one level for each half tick, the model's choice: half a bit time is 8, 4, 2 or 1 of
them, at the four rates; and so is that the sample of the first edge alone decides, whatever changes come before it
(log 9). -/
def Obligations.LineCarriesCharacters : Prop :=
  ((Rate.k125.bitTime, Rate.k250.bitTime, Rate.k500.bitTime, Rate.k1000.bitTime) = (8, 4, 2, 1) ∧
    ∀ r : Rate, r.byteTime = 10 * r.bitTime ∧ r.gap = 20 * r.bitTime ∧ r.charLimit = 30 * r.bitTime) ∧
  (∀ b : Byte, characterLevel b 0 = .dominant ∧ characterLevel b 9 = .recessive ∧
    ∀ i, i < 8 → (characterLevel b (i + 1) = .recessive ↔ b.getLsbD i = true)) ∧
  (∀ (x : Receiver) (r : Rate), r ≠ .off →
    let bit := 2 * r.bitTime
    (∀ levels : List Level, x.last = .recessive → x.reception = none → levels.length = 10 * bit →
      levels[0]? = some .dominant → levels[bit / 2]? = some .dominant →
      ∃ b m, x.run bit levels = { last := levels.getLastD .recessive, reception := none, done := some (b, m) } ∧
        (∀ i, i < 8 → (b.getLsbD i = true ↔ levels[bit * (i + 1) + bit / 2]? = some .recessive)) ∧
        (m = true ↔ levels[bit * 9 + bit / 2]? = some .dominant)) ∧
    (∀ b : Byte, x.last = .recessive → x.reception = none →
      x.run bit ((List.range (10 * bit)).map fun i => characterLevel b (i / bit)) =
        { last := .recessive, reception := none, done := some (b, false) }) ∧
    (∀ pulse : Nat, x.last = .recessive → x.reception = none → 1 ≤ pulse → pulse ≤ bit / 2 →
      x.run bit (List.replicate pulse .dominant ++ List.replicate (bit / 2 + 1 - pulse) .recessive) =
        { last := .recessive, reception := none, done := none }) ∧
    (∀ levels : List Level, x.last = .recessive → x.reception = none → levels.length = bit / 2 + 1 →
      levels[0]? = some .dominant → levels[bit / 2]? = some .recessive →
      x.run bit levels = { last := .recessive, reception := none, done := none }) ∧
    (∀ n : Nat, x.last = .dominant → x.reception = none →
      x.run bit (List.replicate (n + 1) .dominant) = { last := .dominant, reception := none, done := none }) ∧
    (∀ n : Nat, x.reception = none →
      x.run bit (List.replicate (n + 1) .recessive) = { last := .recessive, reception := none, done := none })) ∧
  (∀ (x : Lane) (input : Level),
    let bit := 2 * x.config.rate.bitTime
    let bt := 10 * bit
    (x.level input = .dominant ↔ x.drive = .dominant ∨ input = .dominant) ∧
    (∀ f i j b, x.mode = .busy → x.inFlight = some f → f.frame[i]? = some b → j < bt → f.elapsed = i * bt + j →
      x.drive = characterLevel b (j / bit)) ∧
    (∀ i j b, x.mode = .sleeping → x.sleep = some (.command (i * bt + j) false) →
      [(0x30 : Byte), 0x00, 0x00, 0xE1][i]? = some b → j < bt → x.drive = characterLevel b (j / bit)) ∧
    (∀ left, x.mode = .waking → x.wake = some (.pulse left) → x.drive = .dominant) ∧
    ((∀ f, x.mode = .busy → x.inFlight = some f → (4 + f.request.length) * bt ≤ f.elapsed) →
      (∀ elapsed cut, x.mode = .sleeping → x.sleep = some (.command elapsed cut) → cut = true ∨ 4 * bt ≤ elapsed) →
      (∀ left, x.mode = .waking → x.wake ≠ some (.pulse left)) → x.drive = .recessive)) ∧
  (∀ (s : State) (l : LaneId), (s.lane l).config.rate ≠ .off →
    let x := s.lane l
    let input := s.pins.lines.get l
    let bit := 2 * x.config.rate.bitTime
    (s.lineFree l = true ↔
      (x.rx.reception = none ∧ ¬ (x.rx.last = .recessive ∧ x.level input = .dominant)) ∨
        ∃ c, x.rx.reception = some c ∧ c.since = bit / 2 ∧ x.level input = .recessive) ∧
    (x.inCharacter input = true ↔
      x.sending ≠ none ∨
        ∃ c, x.rx.reception = some c ∧ bit / 2 ≤ c.since ∧ ¬ (c.since = bit / 2 ∧ x.level input = .recessive)))

/-- The judgement of a response of status, m data bytes and check: CHECK for a framing mark, a check that is not the
CRC-8 of the command without its check byte followed by status and data, or another address; NODE_FAULT or OK with
the data otherwise. The CRC-8 over a whole command is 0 (R49, R50, R54, R171). -/
def Obligations.ResponseJudged : Prop :=
  ∀ (f : InFlight) (status check : Byte) (data : List Byte) (marks : List (Byte × Bool)) (last : Bool),
    marks.map Prod.fst = status :: data → f.received = marks →
    let head := BitVec.ofNat 8 (f.node % 16 + 16 * f.op.code.toNat) :: BitVec.ofNat 8 f.request.length ::
      BitVec.ofNat 8 f.m :: f.request
    let marked := last = true ∨ ∃ c ∈ marks, c.2 = true
    let good := crc8 0 (head ++ status :: data) = check ∧ status.toNat % 16 = f.node
    f.frame = head ++ [crc8 0 head] ∧ crc8 0 f.frame = 0 ∧
    (marked → f.judge check last = (.check, [])) ∧
    (¬ marked → ¬ good → f.judge check last = (.check, [])) ∧
    (¬ marked → good → status.getLsbD 4 = true → f.judge check last = (.nodeFault, data)) ∧
    (¬ marked → good → status.getLsbD 4 = false → f.judge check last = (.ok, data))

/-- The end of a transaction with no sleep pending leaves the lane READY with nothing in flight. A first attempt
that failed on the wire, of an entry with retry, for a cyclic claim no orphan and within its deadline, waits again at
the head of the list, or of its acyclic part, with its wire outcome; every other outcome is final, with attempts 1 or
2, for the owner and then the roster. With sleep pending there is no retry, and the lane enters SLEEPING before the
outcome is delivered (R74 to R77, R80, R137). An acyclic entry whose timeout has run out waits again here too, and its
EXPIRED is a step of its own, as the model reads R137 (log 12); a deadline has passed as in log 10. -/
def Obligations.TransactionEnds : Prop :=
  ∀ (s : State) (l : LaneId) (f : InFlight) (o : Outcome) (data : List Byte),
    let failed := o = .noResponse ∨ o = .check ∨ o = .short ∨ o = .echo
    let free := s.onLane l fun x => { x with mode := .ready, inFlight := none }
    let base := if (s.lane l).sleepPending then free.enterSleeping l else free
    (∀ k, f.claim = .cyclic k →
      let again := failed ∧ (s.lane l).sleepPending = false ∧ k.attempt = .first ∧ f.orphan = false ∧
        deadlinePassed s.time k.deadline = false ∧ ∃ e, s.entry k.timer k.position = some e ∧ e.retry = true
      (again →
        s.endTransaction l f o data =
          free.onLane l fun x => { x with claims := .cyclic { k with attempt := .retry o } :: x.claims }) ∧
      (¬ again →
        s.endTransaction l f o data =
          (base.deliverResult k o (if k.attempt = .first then 1 else 2) data).rosterOutcome l f.node o)) ∧
    (∀ tag a, f.claim = .acyclic tag a →
      let again := failed ∧ (s.lane l).sleepPending = false ∧ a = .first ∧
        ∃ e, s.acyclicEntry tag = some e ∧ e.retry = true
      (again →
        s.endTransaction l f o data =
          State.onAcyclic
            (free.onLane l fun x =>
              { x with
                claims := x.claims.takeWhile Claim.isCyclic ++
                  .acyclic tag (.retry o) :: x.claims.dropWhile Claim.isCyclic })
            tag fun e => { e with inFlight := false, attempt := .retry o }) ∧
      (¬ again →
        s.endTransaction l f o data =
          (State.notify { base with acyclic := base.acyclic.filter fun e => e.tag != tag }
            (.transactDone tag o (if a = .first then 1 else 2)
              (if o = .ok ∨ o = .nodeFault then data else []))).rosterOutcome l f.node o))

/-- The sleep and wake sequence: the SLEEP command starts on a quiet line, its mismatched echo cuts it short, and
once it is over, no sooner than 6 byte times after its start, and the line quiet, the lane is ASLEEP with LANE_ASLEEP,
or with wake-pending WAKING with a pulse; after 200 µs the pulse gives way to 2 ms of settling; then the lane is READY
with LANE_AWAKE; 100 µs of dominant line wake an ASLEEP lane with NODE_WAKE (R58, R59, R60, R82, R84); a command cut
short also ends no sooner, as the model reads R58 (log 11). 10 ms of dominant line take a lane that is READY, or
SLEEPING outside its SLEEP command, to LINE_FAULT: LANE_FAULT, then LINE_FAULT for every waiting claim in list order;
1 ms of quiet line takes it back to READY with LANE_CLEAR (R85, R86). All is counted in half ticks (log 9). -/
def Obligations.SleepWakeAndLineFault : Prop :=
  ∀ (s : State) (l : LaneId), s.resetting = none →
    let x := s.lane l
    let bt := 2 * x.config.rate.byteTime
    (x.mode = .sleeping → x.sleep = some .waiting → 2 * bt ≤ x.quiet →
      exec (.sleepCommandStart l) s = .next (s.onLane l fun y => { y with sleep := some (.command 0 false) })) ∧
    (∀ i b, x.config.rate ≠ .off → x.inFlight = none → x.sleep = some (.command ((i + 1) * bt) false) →
      [(0x30 : Byte), 0x00, 0x00, 0xE1][i]? = some b →
      (x.rx.done ≠ some (b, false) →
        exec (.echoMismatch l x.rx.done) s =
          .next (s.onLane l fun y => { y with sleep := some (.command ((i + 1) * bt) true) })) ∧
      (x.rx.done = some (b, false) → exec (.echoMismatch l x.rx.done) s = .next s)) ∧
    (∀ elapsed cut, x.mode = .sleeping → x.sleep = some (.command elapsed cut) → 6 * bt ≤ elapsed → 2 * bt ≤ x.quiet →
      (x.wakePending = false →
        exec (.sleepCommandEnd l) s =
          .next ((s.onLane l fun y => { y with mode := .asleep, sleep := none }).notify (.laneAsleep l))) ∧
      (x.wakePending = true →
        exec (.sleepCommandEnd l) s =
          .next (s.onLane l fun y =>
            { y with mode := .waking, sleep := none, wake := some (.pulse 400), wakePending := false }))) ∧
    (x.wake = some (.pulse 0) →
      exec (.wakePulseEnd l) s = .next (s.onLane l fun y => { y with wake := some (.settle 4000) })) ∧
    (x.wake = some (.settle 0) →
      exec (.settleEnd l) s =
        .next ((s.onLane l fun y => { y with mode := .ready, wake := none }).notify (.laneAwake l))) ∧
    (x.mode = .asleep → 200 ≤ x.dominant →
      exec (.nodeWake l) s =
        .next ((s.onLane l fun y => { y with mode := .waking, sleep := none, wake := some (.settle 4000) }).notify
          (.nodeWake l))) ∧
    (20000 ≤ x.dominant →
      x.mode = .ready ∨ (x.mode = .sleeping ∧ ∀ elapsed cut, x.sleep = some (.command elapsed cut) →
        cut = true ∨ 4 * bt ≤ elapsed) →
      exec (.lineFault l) s =
        .next (x.claims.foldl (fun u c => u.deliverWaiting l .lineFault c)
          ((s.onLane l fun y =>
            { y with mode := .lineFault, sleep := none, wakePending := false, claims := [] }).notify
              (.laneFault l)))) ∧
    (x.mode = .lineFault → 2000 ≤ x.quiet →
      exec (.lineFaultRecovery l) s =
        .next ((s.onLane l fun y => { y with mode := .ready }).notify (.laneClear l)))

/-- Every step keeps every lane as R66 says: a transaction in flight exactly in BUSY, no claim in DISABLED, SLEEPING,
ASLEEP and LINE_FAULT, only acyclic ones in WAKING, the progress items and pending flags in their states only, DISABLED
exactly at rate OFF (R46, R65, R66); the premise is the invariant of ClaimsPlacedKept. -/
def Obligations.LanesKept : Prop :=
  ∀ s t : State, s.LanesOk → s.ClaimsPlaced → step s = .next t → t.LanesOk

/-- Every step keeps every waiting cyclic claim, and every cyclic transaction that is no orphan, within the frame its
timer has in progress, so that a timer STOPPED, ARMED or WAITING has none (R4); and keeps in every list cyclic claims
before acyclic ones, with a retry claim first in its part (R67; the order of deadline, timer and position among the
other cyclic claims is in PostClaimsPostsDueEntries). -/
def Obligations.ClaimListsKept : Prop :=
  ∀ s t : State, step s = .next t → (s.ClaimsOk → t.ClaimsOk) ∧ (s.ListsOk → t.ListsOk)

/-- Every step keeps every waiting cyclic claim, and every cyclic transaction that is no orphan, with an entry of its
timer's active table that names its lane; every waiting acyclic claim with its WAITING entry, every acyclic transaction
with its IN_FLIGHT entry, each on the entry's lane; and no tag waiting twice (R20, R44, R67, R131, R134). -/
def Obligations.ClaimsPlacedKept : Prop :=
  ∀ s t : State, s.ClaimsOk → s.ClaimsPlaced → step s = .next t → t.ClaimsPlaced

/-- What a grant took is fixed: while a lane is BUSY no command changes the claim, node, op, lengths or request
bytes of the transaction in flight (R73, R124). -/
def Obligations.TransactionBytesFixed : Prop :=
  ∀ (c : Instr) (s u : State) (l : LaneId) (f g : InFlight),
    exec c s = .next u → (s.lane l).mode = .busy → (s.lane l).inFlight = some f → (u.lane l).inFlight = some g →
    g.claim = f.claim ∧ g.node = f.node ∧ g.op = f.op ∧ g.m = f.m ∧ g.request = f.request

/-! ### Notifications -/

/-- FETCH of at most 1 to 4 records removes that many from the head, as far as the list holds them, and its reply
carries the count left and the records, head first; another maximum is BAD_ARG and removes nothing (R148). Each of
the fifteen kinds of record has the code and the fields that R170 lists, in the codes of R167. -/
def Obligations.FetchTakesOldestRecords : Prop :=
  (∀ (s : State) (seq k : Byte),
    let rq := requestOf seq 0x1C [k]
    let taken := min k.toNat s.notes.records.length
    s.ready rq = true →
    (k.toNat = 0 ∨ 4 < k.toNat → exec (.fetch seq [k]) s = .next (s.replied rq .badArg [])) ∧
    (1 ≤ k.toNat → k.toNat ≤ 4 →
      exec (.fetch seq [k]) s =
        .next (State.replied { s with notes := { s.notes with records := s.notes.records.drop taken } } rq .ok
          (BitVec.ofNat 8 (s.notes.records.length - taken) :: BitVec.ofNat 8 taken ::
            (s.notes.records.take taken).flatMap fun n =>
              BitVec.ofNat 8 (7 + n.body.fields.length) :: n.body.kind ::
                (bytes2 n.number.toNat ++ bytes4 n.time.toNat ++ n.body.fields))))) ∧
  (NoteBody.LaidOut (.restarted .power) 0x01 [0x00] ∧ NoteBody.LaidOut (.restarted .pin) 0x01 [0x01] ∧
    NoteBody.LaidOut (.restarted .request) 0x01 [0x02]) ∧
  (∀ t (timer : Byte), (t, timer) ∈ ([(.a, 0), (.b, 1)] : List (TimerId × Byte)) →
    ∀ (run : Half) (frame : Time) (executed failed missed : Nat),
      let named := timer :: (bytes2 run.toNat ++ bytes4 frame.toNat)
      let counts := [BitVec.ofNat 8 executed, BitVec.ofNat 8 failed]
      (∀ position, NoteBody.LaidOut (.frameDone t run frame executed failed (some position) false) 0x02
        (named ++ counts ++ [BitVec.ofNat 8 position, 0x00])) ∧
      (∀ position, NoteBody.LaidOut (.frameDone t run frame executed failed (some position) true) 0x02
        (named ++ counts ++ [BitVec.ofNat 8 position, 0x01])) ∧
      NoteBody.LaidOut (.frameDone t run frame executed failed none false) 0x02 (named ++ counts ++ [0xFF, 0x00]) ∧
      NoteBody.LaidOut (.frameDone t run frame executed failed none true) 0x02 (named ++ counts ++ [0xFF, 0x01]) ∧
      NoteBody.LaidOut (.commitDone t run frame) 0x03 named ∧
      NoteBody.LaidOut (.timerStopped t run frame) 0x04 named ∧
      NoteBody.LaidOut (.triggerMissed t run frame missed) 0x05 (named ++ bytes2 missed)) ∧
  (∀ outcome (code : Byte),
    (outcome, code) ∈
      ([(.ok, 0), (.nodeFault, 1), (.noResponse, 2), (.check, 3), (.short, 4), (.echo, 5), (.late, 6), (.overrun, 7),
        (.suppressed, 8), (.asleep, 9), (.lineFault, 10), (.expired, 11), (.cancelled, 12), (.notRun, 13),
        (.notDue, 14), (.empty, 15)] : List (Outcome × Byte)) →
    ∀ (tag : Half) (attempts : Nat) (data : List Byte),
      NoteBody.LaidOut (.transactDone tag outcome attempts data) 0x06
        (bytes2 tag.toNat ++ code :: BitVec.ofNat 8 attempts :: BitVec.ofNat 8 data.length :: data)) ∧
  (∀ l (lane : Byte), (l, lane) ∈ ([(.l0, 0), (.l1, 1), (.l2, 2), (.l3, 3)] : List (LaneId × Byte)) →
    (∀ node, NoteBody.LaidOut (.nodeSilent l node) 0x07 [lane, BitVec.ofNat 8 node] ∧
      NoteBody.LaidOut (.nodeBack l node) 0x08 [lane, BitVec.ofNat 8 node]) ∧
    NoteBody.LaidOut (.nodeWake l) 0x09 [lane] ∧ NoteBody.LaidOut (.laneAsleep l) 0x0A [lane] ∧
    NoteBody.LaidOut (.laneAwake l) 0x0B [lane] ∧ NoteBody.LaidOut (.laneFault l) 0x0C [lane] ∧
    NoteBody.LaidOut (.laneClear l) 0x0D [lane]) ∧
  NoteBody.LaidOut .hostLost 0x0E [] ∧ ∀ lost, NoteBody.LaidOut (.overflow lost) 0x0F (bytes2 lost)

/-- A record handed to the queue: appended with the next number while fewer than 31 are held; replaced by an OVERFLOW
record of lost count 1 at exactly 31; counted into the OVERFLOW record, saturating at 65535, once there is one, its
number and time unchanged (R146, R147). Every step keeps at most 32 records, an OVERFLOW record only as the last, at
most 31 without one, and numbers that run on along the list up to the counter (R144, R146). -/
def Obligations.NotesStoredInOrder : Prop :=
  (∀ (q : NoteQueue) (now : Time) (body : NoteBody),
    ((∀ n ∈ q.records, n.isOverflow = false) →
      (q.records.length < 31 →
        q.hand now body =
          { records := q.records ++ [{ number := q.counter, time := now, body := body }]
            counter := q.counter + 1 }) ∧
      (q.records.length = 31 →
        q.hand now body =
          { records := q.records ++ [{ number := q.counter, time := now, body := .overflow 1 }]
            counter := q.counter + 1 })) ∧
    (∀ (front : List Note) (number : Half) (time : Time) (lost : Nat), (∀ n ∈ front, n.isOverflow = false) →
      q.records = front ++ [{ number := number, time := time, body := .overflow lost }] →
      q.hand now body =
        { q with
          records := front ++ [{ number := number, time := time, body := .overflow (min (lost + 1) 65535) }] })) ∧
  (∀ s t : State, s.notes.Ok → step s = .next t → t.notes.Ok)
end

