-- ==== Sys2Proof/Laws/State.lean ====
section
/-!
SUPPORT. One lemma for each field and update of State, so that no proof unfolds a record update; reading
back what an update of one timer's, lane's or buffer's item wrote.
-/

namespace Sys2Proof.Machine

/-! ### Items of families -/

@[simp] theorem Two.get_set_same {α : Type} (x : Two α) (t : TimerId) (v : α) : (x.set t v).get t = v := by
  cases t <;> rfl

theorem Two.get_set {α : Type} (x : Two α) (t u : TimerId) (v : α) :
    (x.set t v).get u = if u = t then v else x.get u := by
  cases t <;> cases u <;> rfl

@[simp] theorem Two.set_get {α : Type} (x : Two α) (t : TimerId) : x.set t (x.get t) = x := by
  cases t <;> rfl

@[simp] theorem Two.set_set {α : Type} (x : Two α) (t : TimerId) (v w : α) :
    (x.set t v).set t w = x.set t w := by
  cases t <;> rfl

@[simp] theorem Four.get_set_same {α : Type} (x : Four α) (l : LaneId) (v : α) : (x.set l v).get l = v := by
  cases l <;> rfl

theorem Four.get_set {α : Type} (x : Four α) (l m : LaneId) (v : α) :
    (x.set l v).get m = if m = l then v else x.get m := by
  cases l <;> cases m <;> rfl

@[simp] theorem Four.set_get {α : Type} (x : Four α) (l : LaneId) : x.set l (x.get l) = x := by
  cases l <;> rfl

@[simp] theorem Four.set_set {α : Type} (x : Four α) (l : LaneId) (v w : α) :
    (x.set l v).set l w = x.set l w := by
  cases l <;> rfl

@[simp] theorem Four.get_map {α β : Type} (x : Four α) (f : α → β) (l : LaneId) :
    (x.map f).get l = f (x.get l) := by
  cases l <;> rfl

@[simp] theorem Three.get_set_same {α : Type} (x : Three α) (b : BufId) (v : α) : (x.set b v).get b = v := by
  cases b <;> rfl

theorem Three.get_set {α : Type} (x : Three α) (b c : BufId) (v : α) :
    (x.set b v).get c = if c = b then v else x.get c := by
  cases b <;> cases c <;> rfl

/-! ### State.onTimer -/

@[simp] theorem State.onTimer_time (s : State) (t : TimerId) (f : Timer → Timer) :
    (s.onTimer t f).time = s.time := rfl

@[simp] theorem State.onTimer_half (s : State) (t : TimerId) (f : Timer → Timer) :
    (s.onTimer t f).half = s.half := rfl

@[simp] theorem State.onTimer_resetting (s : State) (t : TimerId) (f : Timer → Timer) :
    (s.onTimer t f).resetting = s.resetting := rfl

@[simp] theorem State.onTimer_pins (s : State) (t : TimerId) (f : Timer → Timer) :
    (s.onTimer t f).pins = s.pins := rfl

@[simp] theorem State.onTimer_tables (s : State) (t : TimerId) (f : Timer → Timer) :
    (s.onTimer t f).tables = s.tables := rfl

@[simp] theorem State.onTimer_lanes (s : State) (t : TimerId) (f : Timer → Timer) :
    (s.onTimer t f).lanes = s.lanes := rfl

@[simp] theorem State.onTimer_roster (s : State) (t : TimerId) (f : Timer → Timer) :
    (s.onTimer t f).roster = s.roster := rfl

@[simp] theorem State.onTimer_results (s : State) (t : TimerId) (f : Timer → Timer) :
    (s.onTimer t f).results = s.results := rfl

@[simp] theorem State.onTimer_outputs (s : State) (t : TimerId) (f : Timer → Timer) :
    (s.onTimer t f).outputs = s.outputs := rfl

@[simp] theorem State.onTimer_supervisor (s : State) (t : TimerId) (f : Timer → Timer) :
    (s.onTimer t f).supervisor = s.supervisor := rfl

@[simp] theorem State.onTimer_acyclic (s : State) (t : TimerId) (f : Timer → Timer) :
    (s.onTimer t f).acyclic = s.acyclic := rfl

@[simp] theorem State.onTimer_notes (s : State) (t : TimerId) (f : Timer → Timer) :
    (s.onTimer t f).notes = s.notes := rfl

@[simp] theorem State.onTimer_link (s : State) (t : TimerId) (f : Timer → Timer) :
    (s.onTimer t f).link = s.link := rfl

@[simp] theorem State.onTimer_pending (s : State) (t : TimerId) (f : Timer → Timer) :
    (s.onTimer t f).pending = s.pending := rfl

/-! ### State.onTables -/

@[simp] theorem State.onTables_time (s : State) (t : TimerId) (f : Tables → Tables) :
    (s.onTables t f).time = s.time := rfl

@[simp] theorem State.onTables_half (s : State) (t : TimerId) (f : Tables → Tables) :
    (s.onTables t f).half = s.half := rfl

@[simp] theorem State.onTables_resetting (s : State) (t : TimerId) (f : Tables → Tables) :
    (s.onTables t f).resetting = s.resetting := rfl

@[simp] theorem State.onTables_pins (s : State) (t : TimerId) (f : Tables → Tables) :
    (s.onTables t f).pins = s.pins := rfl

@[simp] theorem State.onTables_timers (s : State) (t : TimerId) (f : Tables → Tables) :
    (s.onTables t f).timers = s.timers := rfl

@[simp] theorem State.onTables_lanes (s : State) (t : TimerId) (f : Tables → Tables) :
    (s.onTables t f).lanes = s.lanes := rfl

@[simp] theorem State.onTables_roster (s : State) (t : TimerId) (f : Tables → Tables) :
    (s.onTables t f).roster = s.roster := rfl

@[simp] theorem State.onTables_results (s : State) (t : TimerId) (f : Tables → Tables) :
    (s.onTables t f).results = s.results := rfl

@[simp] theorem State.onTables_outputs (s : State) (t : TimerId) (f : Tables → Tables) :
    (s.onTables t f).outputs = s.outputs := rfl

@[simp] theorem State.onTables_supervisor (s : State) (t : TimerId) (f : Tables → Tables) :
    (s.onTables t f).supervisor = s.supervisor := rfl

@[simp] theorem State.onTables_acyclic (s : State) (t : TimerId) (f : Tables → Tables) :
    (s.onTables t f).acyclic = s.acyclic := rfl

@[simp] theorem State.onTables_notes (s : State) (t : TimerId) (f : Tables → Tables) :
    (s.onTables t f).notes = s.notes := rfl

@[simp] theorem State.onTables_link (s : State) (t : TimerId) (f : Tables → Tables) :
    (s.onTables t f).link = s.link := rfl

@[simp] theorem State.onTables_pending (s : State) (t : TimerId) (f : Tables → Tables) :
    (s.onTables t f).pending = s.pending := rfl

/-! ### State.onOutputs -/

@[simp] theorem State.onOutputs_time (s : State) (t : TimerId) (f : Outputs → Outputs) :
    (s.onOutputs t f).time = s.time := rfl

@[simp] theorem State.onOutputs_half (s : State) (t : TimerId) (f : Outputs → Outputs) :
    (s.onOutputs t f).half = s.half := rfl

@[simp] theorem State.onOutputs_resetting (s : State) (t : TimerId) (f : Outputs → Outputs) :
    (s.onOutputs t f).resetting = s.resetting := rfl

@[simp] theorem State.onOutputs_pins (s : State) (t : TimerId) (f : Outputs → Outputs) :
    (s.onOutputs t f).pins = s.pins := rfl

@[simp] theorem State.onOutputs_timers (s : State) (t : TimerId) (f : Outputs → Outputs) :
    (s.onOutputs t f).timers = s.timers := rfl

@[simp] theorem State.onOutputs_tables (s : State) (t : TimerId) (f : Outputs → Outputs) :
    (s.onOutputs t f).tables = s.tables := rfl

@[simp] theorem State.onOutputs_lanes (s : State) (t : TimerId) (f : Outputs → Outputs) :
    (s.onOutputs t f).lanes = s.lanes := rfl

@[simp] theorem State.onOutputs_roster (s : State) (t : TimerId) (f : Outputs → Outputs) :
    (s.onOutputs t f).roster = s.roster := rfl

@[simp] theorem State.onOutputs_results (s : State) (t : TimerId) (f : Outputs → Outputs) :
    (s.onOutputs t f).results = s.results := rfl

@[simp] theorem State.onOutputs_supervisor (s : State) (t : TimerId) (f : Outputs → Outputs) :
    (s.onOutputs t f).supervisor = s.supervisor := rfl

@[simp] theorem State.onOutputs_acyclic (s : State) (t : TimerId) (f : Outputs → Outputs) :
    (s.onOutputs t f).acyclic = s.acyclic := rfl

@[simp] theorem State.onOutputs_notes (s : State) (t : TimerId) (f : Outputs → Outputs) :
    (s.onOutputs t f).notes = s.notes := rfl

@[simp] theorem State.onOutputs_link (s : State) (t : TimerId) (f : Outputs → Outputs) :
    (s.onOutputs t f).link = s.link := rfl

@[simp] theorem State.onOutputs_pending (s : State) (t : TimerId) (f : Outputs → Outputs) :
    (s.onOutputs t f).pending = s.pending := rfl

/-! ### State.onBuffers -/

@[simp] theorem State.onBuffers_time (s : State) (t : TimerId) (f : Three Buffer → Three Buffer) :
    (s.onBuffers t f).time = s.time := rfl

@[simp] theorem State.onBuffers_half (s : State) (t : TimerId) (f : Three Buffer → Three Buffer) :
    (s.onBuffers t f).half = s.half := rfl

@[simp] theorem State.onBuffers_resetting (s : State) (t : TimerId) (f : Three Buffer → Three Buffer) :
    (s.onBuffers t f).resetting = s.resetting := rfl

@[simp] theorem State.onBuffers_pins (s : State) (t : TimerId) (f : Three Buffer → Three Buffer) :
    (s.onBuffers t f).pins = s.pins := rfl

@[simp] theorem State.onBuffers_timers (s : State) (t : TimerId) (f : Three Buffer → Three Buffer) :
    (s.onBuffers t f).timers = s.timers := rfl

@[simp] theorem State.onBuffers_tables (s : State) (t : TimerId) (f : Three Buffer → Three Buffer) :
    (s.onBuffers t f).tables = s.tables := rfl

@[simp] theorem State.onBuffers_lanes (s : State) (t : TimerId) (f : Three Buffer → Three Buffer) :
    (s.onBuffers t f).lanes = s.lanes := rfl

@[simp] theorem State.onBuffers_roster (s : State) (t : TimerId) (f : Three Buffer → Three Buffer) :
    (s.onBuffers t f).roster = s.roster := rfl

@[simp] theorem State.onBuffers_outputs (s : State) (t : TimerId) (f : Three Buffer → Three Buffer) :
    (s.onBuffers t f).outputs = s.outputs := rfl

@[simp] theorem State.onBuffers_supervisor (s : State) (t : TimerId) (f : Three Buffer → Three Buffer) :
    (s.onBuffers t f).supervisor = s.supervisor := rfl

@[simp] theorem State.onBuffers_acyclic (s : State) (t : TimerId) (f : Three Buffer → Three Buffer) :
    (s.onBuffers t f).acyclic = s.acyclic := rfl

@[simp] theorem State.onBuffers_notes (s : State) (t : TimerId) (f : Three Buffer → Three Buffer) :
    (s.onBuffers t f).notes = s.notes := rfl

@[simp] theorem State.onBuffers_link (s : State) (t : TimerId) (f : Three Buffer → Three Buffer) :
    (s.onBuffers t f).link = s.link := rfl

@[simp] theorem State.onBuffers_pending (s : State) (t : TimerId) (f : Three Buffer → Three Buffer) :
    (s.onBuffers t f).pending = s.pending := rfl

/-! ### State.onBuffer -/

@[simp] theorem State.onBuffer_time (s : State) (t : TimerId) (b : BufId) (f : Buffer → Buffer) :
    (s.onBuffer t b f).time = s.time := rfl

@[simp] theorem State.onBuffer_half (s : State) (t : TimerId) (b : BufId) (f : Buffer → Buffer) :
    (s.onBuffer t b f).half = s.half := rfl

@[simp] theorem State.onBuffer_resetting (s : State) (t : TimerId) (b : BufId) (f : Buffer → Buffer) :
    (s.onBuffer t b f).resetting = s.resetting := rfl

@[simp] theorem State.onBuffer_pins (s : State) (t : TimerId) (b : BufId) (f : Buffer → Buffer) :
    (s.onBuffer t b f).pins = s.pins := rfl

@[simp] theorem State.onBuffer_timers (s : State) (t : TimerId) (b : BufId) (f : Buffer → Buffer) :
    (s.onBuffer t b f).timers = s.timers := rfl

@[simp] theorem State.onBuffer_tables (s : State) (t : TimerId) (b : BufId) (f : Buffer → Buffer) :
    (s.onBuffer t b f).tables = s.tables := rfl

@[simp] theorem State.onBuffer_lanes (s : State) (t : TimerId) (b : BufId) (f : Buffer → Buffer) :
    (s.onBuffer t b f).lanes = s.lanes := rfl

@[simp] theorem State.onBuffer_roster (s : State) (t : TimerId) (b : BufId) (f : Buffer → Buffer) :
    (s.onBuffer t b f).roster = s.roster := rfl

@[simp] theorem State.onBuffer_outputs (s : State) (t : TimerId) (b : BufId) (f : Buffer → Buffer) :
    (s.onBuffer t b f).outputs = s.outputs := rfl

@[simp] theorem State.onBuffer_supervisor (s : State) (t : TimerId) (b : BufId) (f : Buffer → Buffer) :
    (s.onBuffer t b f).supervisor = s.supervisor := rfl

@[simp] theorem State.onBuffer_acyclic (s : State) (t : TimerId) (b : BufId) (f : Buffer → Buffer) :
    (s.onBuffer t b f).acyclic = s.acyclic := rfl

@[simp] theorem State.onBuffer_notes (s : State) (t : TimerId) (b : BufId) (f : Buffer → Buffer) :
    (s.onBuffer t b f).notes = s.notes := rfl

@[simp] theorem State.onBuffer_link (s : State) (t : TimerId) (b : BufId) (f : Buffer → Buffer) :
    (s.onBuffer t b f).link = s.link := rfl

@[simp] theorem State.onBuffer_pending (s : State) (t : TimerId) (b : BufId) (f : Buffer → Buffer) :
    (s.onBuffer t b f).pending = s.pending := rfl

/-! ### State.onLane -/

@[simp] theorem State.onLane_time (s : State) (l : LaneId) (f : Lane → Lane) :
    (s.onLane l f).time = s.time := rfl

@[simp] theorem State.onLane_half (s : State) (l : LaneId) (f : Lane → Lane) :
    (s.onLane l f).half = s.half := rfl

@[simp] theorem State.onLane_resetting (s : State) (l : LaneId) (f : Lane → Lane) :
    (s.onLane l f).resetting = s.resetting := rfl

@[simp] theorem State.onLane_pins (s : State) (l : LaneId) (f : Lane → Lane) :
    (s.onLane l f).pins = s.pins := rfl

@[simp] theorem State.onLane_timers (s : State) (l : LaneId) (f : Lane → Lane) :
    (s.onLane l f).timers = s.timers := rfl

@[simp] theorem State.onLane_tables (s : State) (l : LaneId) (f : Lane → Lane) :
    (s.onLane l f).tables = s.tables := rfl

@[simp] theorem State.onLane_roster (s : State) (l : LaneId) (f : Lane → Lane) :
    (s.onLane l f).roster = s.roster := rfl

@[simp] theorem State.onLane_results (s : State) (l : LaneId) (f : Lane → Lane) :
    (s.onLane l f).results = s.results := rfl

@[simp] theorem State.onLane_outputs (s : State) (l : LaneId) (f : Lane → Lane) :
    (s.onLane l f).outputs = s.outputs := rfl

@[simp] theorem State.onLane_supervisor (s : State) (l : LaneId) (f : Lane → Lane) :
    (s.onLane l f).supervisor = s.supervisor := rfl

@[simp] theorem State.onLane_acyclic (s : State) (l : LaneId) (f : Lane → Lane) :
    (s.onLane l f).acyclic = s.acyclic := rfl

@[simp] theorem State.onLane_notes (s : State) (l : LaneId) (f : Lane → Lane) :
    (s.onLane l f).notes = s.notes := rfl

@[simp] theorem State.onLane_link (s : State) (l : LaneId) (f : Lane → Lane) :
    (s.onLane l f).link = s.link := rfl

@[simp] theorem State.onLane_pending (s : State) (l : LaneId) (f : Lane → Lane) :
    (s.onLane l f).pending = s.pending := rfl

/-! ### State.setNode -/

@[simp] theorem State.setNode_time (s : State) (l : LaneId) (node : Nat) (r : NodeRecord) :
    (s.setNode l node r).time = s.time := rfl

@[simp] theorem State.setNode_half (s : State) (l : LaneId) (node : Nat) (r : NodeRecord) :
    (s.setNode l node r).half = s.half := rfl

@[simp] theorem State.setNode_resetting (s : State) (l : LaneId) (node : Nat) (r : NodeRecord) :
    (s.setNode l node r).resetting = s.resetting := rfl

@[simp] theorem State.setNode_pins (s : State) (l : LaneId) (node : Nat) (r : NodeRecord) :
    (s.setNode l node r).pins = s.pins := rfl

@[simp] theorem State.setNode_timers (s : State) (l : LaneId) (node : Nat) (r : NodeRecord) :
    (s.setNode l node r).timers = s.timers := rfl

@[simp] theorem State.setNode_tables (s : State) (l : LaneId) (node : Nat) (r : NodeRecord) :
    (s.setNode l node r).tables = s.tables := rfl

@[simp] theorem State.setNode_lanes (s : State) (l : LaneId) (node : Nat) (r : NodeRecord) :
    (s.setNode l node r).lanes = s.lanes := rfl

@[simp] theorem State.setNode_results (s : State) (l : LaneId) (node : Nat) (r : NodeRecord) :
    (s.setNode l node r).results = s.results := rfl

@[simp] theorem State.setNode_outputs (s : State) (l : LaneId) (node : Nat) (r : NodeRecord) :
    (s.setNode l node r).outputs = s.outputs := rfl

@[simp] theorem State.setNode_supervisor (s : State) (l : LaneId) (node : Nat) (r : NodeRecord) :
    (s.setNode l node r).supervisor = s.supervisor := rfl

@[simp] theorem State.setNode_acyclic (s : State) (l : LaneId) (node : Nat) (r : NodeRecord) :
    (s.setNode l node r).acyclic = s.acyclic := rfl

@[simp] theorem State.setNode_notes (s : State) (l : LaneId) (node : Nat) (r : NodeRecord) :
    (s.setNode l node r).notes = s.notes := rfl

@[simp] theorem State.setNode_link (s : State) (l : LaneId) (node : Nat) (r : NodeRecord) :
    (s.setNode l node r).link = s.link := rfl

@[simp] theorem State.setNode_pending (s : State) (l : LaneId) (node : Nat) (r : NodeRecord) :
    (s.setNode l node r).pending = s.pending := rfl

/-! ### State.onAcyclic -/

@[simp] theorem State.onAcyclic_time (s : State) (tag : Half) (f : AcyclicEntry → AcyclicEntry) :
    (s.onAcyclic tag f).time = s.time := rfl

@[simp] theorem State.onAcyclic_half (s : State) (tag : Half) (f : AcyclicEntry → AcyclicEntry) :
    (s.onAcyclic tag f).half = s.half := rfl

@[simp] theorem State.onAcyclic_resetting (s : State) (tag : Half) (f : AcyclicEntry → AcyclicEntry) :
    (s.onAcyclic tag f).resetting = s.resetting := rfl

@[simp] theorem State.onAcyclic_pins (s : State) (tag : Half) (f : AcyclicEntry → AcyclicEntry) :
    (s.onAcyclic tag f).pins = s.pins := rfl

@[simp] theorem State.onAcyclic_timers (s : State) (tag : Half) (f : AcyclicEntry → AcyclicEntry) :
    (s.onAcyclic tag f).timers = s.timers := rfl

@[simp] theorem State.onAcyclic_tables (s : State) (tag : Half) (f : AcyclicEntry → AcyclicEntry) :
    (s.onAcyclic tag f).tables = s.tables := rfl

@[simp] theorem State.onAcyclic_lanes (s : State) (tag : Half) (f : AcyclicEntry → AcyclicEntry) :
    (s.onAcyclic tag f).lanes = s.lanes := rfl

@[simp] theorem State.onAcyclic_roster (s : State) (tag : Half) (f : AcyclicEntry → AcyclicEntry) :
    (s.onAcyclic tag f).roster = s.roster := rfl

@[simp] theorem State.onAcyclic_results (s : State) (tag : Half) (f : AcyclicEntry → AcyclicEntry) :
    (s.onAcyclic tag f).results = s.results := rfl

@[simp] theorem State.onAcyclic_outputs (s : State) (tag : Half) (f : AcyclicEntry → AcyclicEntry) :
    (s.onAcyclic tag f).outputs = s.outputs := rfl

@[simp] theorem State.onAcyclic_supervisor (s : State) (tag : Half) (f : AcyclicEntry → AcyclicEntry) :
    (s.onAcyclic tag f).supervisor = s.supervisor := rfl

@[simp] theorem State.onAcyclic_notes (s : State) (tag : Half) (f : AcyclicEntry → AcyclicEntry) :
    (s.onAcyclic tag f).notes = s.notes := rfl

@[simp] theorem State.onAcyclic_link (s : State) (tag : Half) (f : AcyclicEntry → AcyclicEntry) :
    (s.onAcyclic tag f).link = s.link := rfl

@[simp] theorem State.onAcyclic_pending (s : State) (tag : Half) (f : AcyclicEntry → AcyclicEntry) :
    (s.onAcyclic tag f).pending = s.pending := rfl

/-! ### State.notify -/

@[simp] theorem State.notify_time (s : State) (body : NoteBody) :
    (s.notify body).time = s.time := rfl

@[simp] theorem State.notify_half (s : State) (body : NoteBody) :
    (s.notify body).half = s.half := rfl

@[simp] theorem State.notify_resetting (s : State) (body : NoteBody) :
    (s.notify body).resetting = s.resetting := rfl

@[simp] theorem State.notify_pins (s : State) (body : NoteBody) :
    (s.notify body).pins = s.pins := rfl

@[simp] theorem State.notify_timers (s : State) (body : NoteBody) :
    (s.notify body).timers = s.timers := rfl

@[simp] theorem State.notify_tables (s : State) (body : NoteBody) :
    (s.notify body).tables = s.tables := rfl

@[simp] theorem State.notify_lanes (s : State) (body : NoteBody) :
    (s.notify body).lanes = s.lanes := rfl

@[simp] theorem State.notify_roster (s : State) (body : NoteBody) :
    (s.notify body).roster = s.roster := rfl

@[simp] theorem State.notify_results (s : State) (body : NoteBody) :
    (s.notify body).results = s.results := rfl

@[simp] theorem State.notify_outputs (s : State) (body : NoteBody) :
    (s.notify body).outputs = s.outputs := rfl

@[simp] theorem State.notify_supervisor (s : State) (body : NoteBody) :
    (s.notify body).supervisor = s.supervisor := rfl

@[simp] theorem State.notify_acyclic (s : State) (body : NoteBody) :
    (s.notify body).acyclic = s.acyclic := rfl

@[simp] theorem State.notify_link (s : State) (body : NoteBody) :
    (s.notify body).link = s.link := rfl

@[simp] theorem State.notify_pending (s : State) (body : NoteBody) :
    (s.notify body).pending = s.pending := rfl

/-! ### State.pushReply -/

@[simp] theorem State.pushReply_time (s : State) (r : Reply) :
    (s.pushReply r).time = s.time := rfl

@[simp] theorem State.pushReply_half (s : State) (r : Reply) :
    (s.pushReply r).half = s.half := rfl

@[simp] theorem State.pushReply_resetting (s : State) (r : Reply) :
    (s.pushReply r).resetting = s.resetting := rfl

@[simp] theorem State.pushReply_pins (s : State) (r : Reply) :
    (s.pushReply r).pins = s.pins := rfl

@[simp] theorem State.pushReply_timers (s : State) (r : Reply) :
    (s.pushReply r).timers = s.timers := rfl

@[simp] theorem State.pushReply_tables (s : State) (r : Reply) :
    (s.pushReply r).tables = s.tables := rfl

@[simp] theorem State.pushReply_lanes (s : State) (r : Reply) :
    (s.pushReply r).lanes = s.lanes := rfl

@[simp] theorem State.pushReply_roster (s : State) (r : Reply) :
    (s.pushReply r).roster = s.roster := rfl

@[simp] theorem State.pushReply_results (s : State) (r : Reply) :
    (s.pushReply r).results = s.results := rfl

@[simp] theorem State.pushReply_outputs (s : State) (r : Reply) :
    (s.pushReply r).outputs = s.outputs := rfl

@[simp] theorem State.pushReply_supervisor (s : State) (r : Reply) :
    (s.pushReply r).supervisor = s.supervisor := rfl

@[simp] theorem State.pushReply_acyclic (s : State) (r : Reply) :
    (s.pushReply r).acyclic = s.acyclic := rfl

@[simp] theorem State.pushReply_notes (s : State) (r : Reply) :
    (s.pushReply r).notes = s.notes := rfl

@[simp] theorem State.pushReply_pending (s : State) (r : Reply) :
    (s.pushReply r).pending = s.pending := rfl

/-! ### State.answer -/

@[simp] theorem State.answer_time (s : State) (rq : Request) (a : Answer) :
    (s.answer rq a).time = s.time := rfl

@[simp] theorem State.answer_half (s : State) (rq : Request) (a : Answer) :
    (s.answer rq a).half = s.half := rfl

@[simp] theorem State.answer_resetting (s : State) (rq : Request) (a : Answer) :
    (s.answer rq a).resetting = s.resetting := rfl

@[simp] theorem State.answer_pins (s : State) (rq : Request) (a : Answer) :
    (s.answer rq a).pins = s.pins := rfl

@[simp] theorem State.answer_timers (s : State) (rq : Request) (a : Answer) :
    (s.answer rq a).timers = s.timers := rfl

@[simp] theorem State.answer_tables (s : State) (rq : Request) (a : Answer) :
    (s.answer rq a).tables = s.tables := rfl

@[simp] theorem State.answer_lanes (s : State) (rq : Request) (a : Answer) :
    (s.answer rq a).lanes = s.lanes := rfl

@[simp] theorem State.answer_roster (s : State) (rq : Request) (a : Answer) :
    (s.answer rq a).roster = s.roster := rfl

@[simp] theorem State.answer_results (s : State) (rq : Request) (a : Answer) :
    (s.answer rq a).results = s.results := rfl

@[simp] theorem State.answer_outputs (s : State) (rq : Request) (a : Answer) :
    (s.answer rq a).outputs = s.outputs := rfl

@[simp] theorem State.answer_supervisor (s : State) (rq : Request) (a : Answer) :
    (s.answer rq a).supervisor = s.supervisor := rfl

@[simp] theorem State.answer_acyclic (s : State) (rq : Request) (a : Answer) :
    (s.answer rq a).acyclic = s.acyclic := rfl

@[simp] theorem State.answer_notes (s : State) (rq : Request) (a : Answer) :
    (s.answer rq a).notes = s.notes := rfl

@[simp] theorem State.answer_pending (s : State) (rq : Request) (a : Answer) :
    (s.answer rq a).pending = s.pending := rfl

/-! ### Items an update leaves alone -/

@[simp] theorem State.onTimer_table_eq (s : State) (t : TimerId) (f : Timer → Timer) (u : TimerId) :
    (s.onTimer t f).table u = s.table u := rfl

@[simp] theorem State.onTimer_output_eq (s : State) (t : TimerId) (f : Timer → Timer) (u : TimerId) :
    (s.onTimer t f).output u = s.output u := rfl

@[simp] theorem State.onTimer_buffers_eq (s : State) (t : TimerId) (f : Timer → Timer) (u : TimerId) :
    (s.onTimer t f).buffers u = s.buffers u := rfl

@[simp] theorem State.onTimer_lane_eq (s : State) (t : TimerId) (f : Timer → Timer) (m : LaneId) :
    (s.onTimer t f).lane m = s.lane m := rfl

@[simp] theorem State.onTimer_node_eq (s : State) (t : TimerId) (f : Timer → Timer) (m : LaneId) (j : Nat) :
    (s.onTimer t f).node m j = s.node m j := rfl

@[simp] theorem State.onTimer_acyclicEntry_eq (s : State) (t : TimerId) (f : Timer → Timer) (g : Half) :
    (s.onTimer t f).acyclicEntry g = s.acyclicEntry g := rfl

@[simp] theorem State.onTimer_entry_eq (s : State) (t : TimerId) (f : Timer → Timer) (u : TimerId) (j : Nat) :
    (s.onTimer t f).entry u j = s.entry u j := rfl

@[simp] theorem State.onTables_timer_eq (s : State) (t : TimerId) (f : Tables → Tables) (u : TimerId) :
    (s.onTables t f).timer u = s.timer u := rfl

@[simp] theorem State.onTables_output_eq (s : State) (t : TimerId) (f : Tables → Tables) (u : TimerId) :
    (s.onTables t f).output u = s.output u := rfl

@[simp] theorem State.onTables_buffers_eq (s : State) (t : TimerId) (f : Tables → Tables) (u : TimerId) :
    (s.onTables t f).buffers u = s.buffers u := rfl

@[simp] theorem State.onTables_lane_eq (s : State) (t : TimerId) (f : Tables → Tables) (m : LaneId) :
    (s.onTables t f).lane m = s.lane m := rfl

@[simp] theorem State.onTables_node_eq (s : State) (t : TimerId) (f : Tables → Tables) (m : LaneId) (j : Nat) :
    (s.onTables t f).node m j = s.node m j := rfl

@[simp] theorem State.onTables_acyclicEntry_eq (s : State) (t : TimerId) (f : Tables → Tables) (g : Half) :
    (s.onTables t f).acyclicEntry g = s.acyclicEntry g := rfl

@[simp] theorem State.onOutputs_timer_eq (s : State) (t : TimerId) (f : Outputs → Outputs) (u : TimerId) :
    (s.onOutputs t f).timer u = s.timer u := rfl

@[simp] theorem State.onOutputs_table_eq (s : State) (t : TimerId) (f : Outputs → Outputs) (u : TimerId) :
    (s.onOutputs t f).table u = s.table u := rfl

@[simp] theorem State.onOutputs_buffers_eq (s : State) (t : TimerId) (f : Outputs → Outputs) (u : TimerId) :
    (s.onOutputs t f).buffers u = s.buffers u := rfl

@[simp] theorem State.onOutputs_lane_eq (s : State) (t : TimerId) (f : Outputs → Outputs) (m : LaneId) :
    (s.onOutputs t f).lane m = s.lane m := rfl

@[simp] theorem State.onOutputs_node_eq (s : State) (t : TimerId) (f : Outputs → Outputs) (m : LaneId) (j : Nat) :
    (s.onOutputs t f).node m j = s.node m j := rfl

@[simp] theorem State.onOutputs_acyclicEntry_eq (s : State) (t : TimerId) (f : Outputs → Outputs) (g : Half) :
    (s.onOutputs t f).acyclicEntry g = s.acyclicEntry g := rfl

@[simp] theorem State.onOutputs_entry_eq (s : State) (t : TimerId) (f : Outputs → Outputs) (u : TimerId) (j : Nat) :
    (s.onOutputs t f).entry u j = s.entry u j := rfl

@[simp] theorem State.onBuffers_timer_eq (s : State) (t : TimerId) (f : Three Buffer → Three Buffer) (u : TimerId) :
    (s.onBuffers t f).timer u = s.timer u := rfl

@[simp] theorem State.onBuffers_table_eq (s : State) (t : TimerId) (f : Three Buffer → Three Buffer) (u : TimerId) :
    (s.onBuffers t f).table u = s.table u := rfl

@[simp] theorem State.onBuffers_output_eq (s : State) (t : TimerId) (f : Three Buffer → Three Buffer) (u : TimerId) :
    (s.onBuffers t f).output u = s.output u := rfl

@[simp] theorem State.onBuffers_lane_eq (s : State) (t : TimerId) (f : Three Buffer → Three Buffer) (m : LaneId) :
    (s.onBuffers t f).lane m = s.lane m := rfl

@[simp] theorem State.onBuffers_node_eq (s : State) (t : TimerId) (f : Three Buffer → Three Buffer) (m : LaneId) (j : Nat) :
    (s.onBuffers t f).node m j = s.node m j := rfl

@[simp] theorem State.onBuffers_acyclicEntry_eq (s : State) (t : TimerId) (f : Three Buffer → Three Buffer) (g : Half) :
    (s.onBuffers t f).acyclicEntry g = s.acyclicEntry g := rfl

@[simp] theorem State.onBuffers_entry_eq (s : State) (t : TimerId) (f : Three Buffer → Three Buffer) (u : TimerId) (j : Nat) :
    (s.onBuffers t f).entry u j = s.entry u j := rfl

@[simp] theorem State.onBuffer_timer_eq (s : State) (t : TimerId) (b : BufId) (f : Buffer → Buffer) (u : TimerId) :
    (s.onBuffer t b f).timer u = s.timer u := rfl

@[simp] theorem State.onBuffer_table_eq (s : State) (t : TimerId) (b : BufId) (f : Buffer → Buffer) (u : TimerId) :
    (s.onBuffer t b f).table u = s.table u := rfl

@[simp] theorem State.onBuffer_output_eq (s : State) (t : TimerId) (b : BufId) (f : Buffer → Buffer) (u : TimerId) :
    (s.onBuffer t b f).output u = s.output u := rfl

@[simp] theorem State.onBuffer_lane_eq (s : State) (t : TimerId) (b : BufId) (f : Buffer → Buffer) (m : LaneId) :
    (s.onBuffer t b f).lane m = s.lane m := rfl

@[simp] theorem State.onBuffer_node_eq (s : State) (t : TimerId) (b : BufId) (f : Buffer → Buffer) (m : LaneId) (j : Nat) :
    (s.onBuffer t b f).node m j = s.node m j := rfl

@[simp] theorem State.onBuffer_acyclicEntry_eq (s : State) (t : TimerId) (b : BufId) (f : Buffer → Buffer) (g : Half) :
    (s.onBuffer t b f).acyclicEntry g = s.acyclicEntry g := rfl

@[simp] theorem State.onBuffer_entry_eq (s : State) (t : TimerId) (b : BufId) (f : Buffer → Buffer) (u : TimerId) (j : Nat) :
    (s.onBuffer t b f).entry u j = s.entry u j := rfl

@[simp] theorem State.onLane_timer_eq (s : State) (l : LaneId) (f : Lane → Lane) (u : TimerId) :
    (s.onLane l f).timer u = s.timer u := rfl

@[simp] theorem State.onLane_table_eq (s : State) (l : LaneId) (f : Lane → Lane) (u : TimerId) :
    (s.onLane l f).table u = s.table u := rfl

@[simp] theorem State.onLane_output_eq (s : State) (l : LaneId) (f : Lane → Lane) (u : TimerId) :
    (s.onLane l f).output u = s.output u := rfl

@[simp] theorem State.onLane_buffers_eq (s : State) (l : LaneId) (f : Lane → Lane) (u : TimerId) :
    (s.onLane l f).buffers u = s.buffers u := rfl

@[simp] theorem State.onLane_node_eq (s : State) (l : LaneId) (f : Lane → Lane) (m : LaneId) (j : Nat) :
    (s.onLane l f).node m j = s.node m j := rfl

@[simp] theorem State.onLane_acyclicEntry_eq (s : State) (l : LaneId) (f : Lane → Lane) (g : Half) :
    (s.onLane l f).acyclicEntry g = s.acyclicEntry g := rfl

@[simp] theorem State.onLane_entry_eq (s : State) (l : LaneId) (f : Lane → Lane) (u : TimerId) (j : Nat) :
    (s.onLane l f).entry u j = s.entry u j := rfl

@[simp] theorem State.setNode_timer_eq (s : State) (l : LaneId) (node : Nat) (r : NodeRecord) (u : TimerId) :
    (s.setNode l node r).timer u = s.timer u := rfl

@[simp] theorem State.setNode_table_eq (s : State) (l : LaneId) (node : Nat) (r : NodeRecord) (u : TimerId) :
    (s.setNode l node r).table u = s.table u := rfl

@[simp] theorem State.setNode_output_eq (s : State) (l : LaneId) (node : Nat) (r : NodeRecord) (u : TimerId) :
    (s.setNode l node r).output u = s.output u := rfl

@[simp] theorem State.setNode_buffers_eq (s : State) (l : LaneId) (node : Nat) (r : NodeRecord) (u : TimerId) :
    (s.setNode l node r).buffers u = s.buffers u := rfl

@[simp] theorem State.setNode_lane_eq (s : State) (l : LaneId) (node : Nat) (r : NodeRecord) (m : LaneId) :
    (s.setNode l node r).lane m = s.lane m := rfl

@[simp] theorem State.setNode_acyclicEntry_eq (s : State) (l : LaneId) (node : Nat) (r : NodeRecord) (g : Half) :
    (s.setNode l node r).acyclicEntry g = s.acyclicEntry g := rfl

@[simp] theorem State.setNode_entry_eq (s : State) (l : LaneId) (node : Nat) (r : NodeRecord) (u : TimerId) (j : Nat) :
    (s.setNode l node r).entry u j = s.entry u j := rfl

@[simp] theorem State.onAcyclic_timer_eq (s : State) (tag : Half) (f : AcyclicEntry → AcyclicEntry) (u : TimerId) :
    (s.onAcyclic tag f).timer u = s.timer u := rfl

@[simp] theorem State.onAcyclic_table_eq (s : State) (tag : Half) (f : AcyclicEntry → AcyclicEntry) (u : TimerId) :
    (s.onAcyclic tag f).table u = s.table u := rfl

@[simp] theorem State.onAcyclic_output_eq (s : State) (tag : Half) (f : AcyclicEntry → AcyclicEntry) (u : TimerId) :
    (s.onAcyclic tag f).output u = s.output u := rfl

@[simp] theorem State.onAcyclic_buffers_eq (s : State) (tag : Half) (f : AcyclicEntry → AcyclicEntry) (u : TimerId) :
    (s.onAcyclic tag f).buffers u = s.buffers u := rfl

@[simp] theorem State.onAcyclic_lane_eq (s : State) (tag : Half) (f : AcyclicEntry → AcyclicEntry) (m : LaneId) :
    (s.onAcyclic tag f).lane m = s.lane m := rfl

@[simp] theorem State.onAcyclic_node_eq (s : State) (tag : Half) (f : AcyclicEntry → AcyclicEntry) (m : LaneId) (j : Nat) :
    (s.onAcyclic tag f).node m j = s.node m j := rfl

@[simp] theorem State.onAcyclic_entry_eq (s : State) (tag : Half) (f : AcyclicEntry → AcyclicEntry) (u : TimerId) (j : Nat) :
    (s.onAcyclic tag f).entry u j = s.entry u j := rfl

@[simp] theorem State.notify_timer_eq (s : State) (body : NoteBody) (u : TimerId) :
    (s.notify body).timer u = s.timer u := rfl

@[simp] theorem State.notify_table_eq (s : State) (body : NoteBody) (u : TimerId) :
    (s.notify body).table u = s.table u := rfl

@[simp] theorem State.notify_output_eq (s : State) (body : NoteBody) (u : TimerId) :
    (s.notify body).output u = s.output u := rfl

@[simp] theorem State.notify_buffers_eq (s : State) (body : NoteBody) (u : TimerId) :
    (s.notify body).buffers u = s.buffers u := rfl

@[simp] theorem State.notify_lane_eq (s : State) (body : NoteBody) (m : LaneId) :
    (s.notify body).lane m = s.lane m := rfl

@[simp] theorem State.notify_node_eq (s : State) (body : NoteBody) (m : LaneId) (j : Nat) :
    (s.notify body).node m j = s.node m j := rfl

@[simp] theorem State.notify_acyclicEntry_eq (s : State) (body : NoteBody) (g : Half) :
    (s.notify body).acyclicEntry g = s.acyclicEntry g := rfl

@[simp] theorem State.notify_entry_eq (s : State) (body : NoteBody) (u : TimerId) (j : Nat) :
    (s.notify body).entry u j = s.entry u j := rfl

@[simp] theorem State.pushReply_timer_eq (s : State) (r : Reply) (u : TimerId) :
    (s.pushReply r).timer u = s.timer u := rfl

@[simp] theorem State.pushReply_table_eq (s : State) (r : Reply) (u : TimerId) :
    (s.pushReply r).table u = s.table u := rfl

@[simp] theorem State.pushReply_output_eq (s : State) (r : Reply) (u : TimerId) :
    (s.pushReply r).output u = s.output u := rfl

@[simp] theorem State.pushReply_buffers_eq (s : State) (r : Reply) (u : TimerId) :
    (s.pushReply r).buffers u = s.buffers u := rfl

@[simp] theorem State.pushReply_lane_eq (s : State) (r : Reply) (m : LaneId) :
    (s.pushReply r).lane m = s.lane m := rfl

@[simp] theorem State.pushReply_node_eq (s : State) (r : Reply) (m : LaneId) (j : Nat) :
    (s.pushReply r).node m j = s.node m j := rfl

@[simp] theorem State.pushReply_acyclicEntry_eq (s : State) (r : Reply) (g : Half) :
    (s.pushReply r).acyclicEntry g = s.acyclicEntry g := rfl

@[simp] theorem State.pushReply_entry_eq (s : State) (r : Reply) (u : TimerId) (j : Nat) :
    (s.pushReply r).entry u j = s.entry u j := rfl

@[simp] theorem State.answer_timer_eq (s : State) (rq : Request) (a : Answer) (u : TimerId) :
    (s.answer rq a).timer u = s.timer u := rfl

@[simp] theorem State.answer_table_eq (s : State) (rq : Request) (a : Answer) (u : TimerId) :
    (s.answer rq a).table u = s.table u := rfl

@[simp] theorem State.answer_output_eq (s : State) (rq : Request) (a : Answer) (u : TimerId) :
    (s.answer rq a).output u = s.output u := rfl

@[simp] theorem State.answer_buffers_eq (s : State) (rq : Request) (a : Answer) (u : TimerId) :
    (s.answer rq a).buffers u = s.buffers u := rfl

@[simp] theorem State.answer_lane_eq (s : State) (rq : Request) (a : Answer) (m : LaneId) :
    (s.answer rq a).lane m = s.lane m := rfl

@[simp] theorem State.answer_node_eq (s : State) (rq : Request) (a : Answer) (m : LaneId) (j : Nat) :
    (s.answer rq a).node m j = s.node m j := rfl

@[simp] theorem State.answer_acyclicEntry_eq (s : State) (rq : Request) (a : Answer) (g : Half) :
    (s.answer rq a).acyclicEntry g = s.acyclicEntry g := rfl

@[simp] theorem State.answer_entry_eq (s : State) (rq : Request) (a : Answer) (u : TimerId) (j : Nat) :
    (s.answer rq a).entry u j = s.entry u j := rfl

/-! ### Reading back -/

@[simp] theorem State.onTimer_timer_same (s : State) (t : TimerId) (f : Timer → Timer) :
    (s.onTimer t f).timer t = f (s.timer t) := Two.get_set_same _ _ _

theorem State.onTimer_timer (s : State) (t u : TimerId) (f : Timer → Timer) :
    (s.onTimer t f).timer u = if u = t then f (s.timer u) else s.timer u := by
  simp only [State.onTimer, State.timer, Two.get_set]; split <;> simp_all

@[simp] theorem State.onTables_table_same (s : State) (t : TimerId) (f : Tables → Tables) :
    (s.onTables t f).table t = f (s.table t) := Two.get_set_same _ _ _

theorem State.onTables_table (s : State) (t u : TimerId) (f : Tables → Tables) :
    (s.onTables t f).table u = if u = t then f (s.table u) else s.table u := by
  simp only [State.onTables, State.table, Two.get_set]; split <;> simp_all

@[simp] theorem State.onOutputs_output_same (s : State) (t : TimerId) (f : Outputs → Outputs) :
    (s.onOutputs t f).output t = f (s.output t) := Two.get_set_same _ _ _

theorem State.onOutputs_output (s : State) (t u : TimerId) (f : Outputs → Outputs) :
    (s.onOutputs t f).output u = if u = t then f (s.output u) else s.output u := by
  simp only [State.onOutputs, State.output, Two.get_set]; split <;> simp_all

@[simp] theorem State.onBuffers_buffers_same (s : State) (t : TimerId) (f : Three Buffer → Three Buffer) :
    (s.onBuffers t f).buffers t = f (s.buffers t) := Two.get_set_same _ _ _

theorem State.onBuffers_buffers (s : State) (t u : TimerId) (f : Three Buffer → Three Buffer) :
    (s.onBuffers t f).buffers u = if u = t then f (s.buffers u) else s.buffers u := by
  simp only [State.onBuffers, State.buffers, Two.get_set]; split <;> simp_all

@[simp] theorem State.onLane_lane_same (s : State) (l : LaneId) (f : Lane → Lane) :
    (s.onLane l f).lane l = f (s.lane l) := Four.get_set_same _ _ _

theorem State.onLane_lane (s : State) (l m : LaneId) (f : Lane → Lane) :
    (s.onLane l f).lane m = if m = l then f (s.lane m) else s.lane m := by
  simp only [State.onLane, State.lane, Four.get_set]; split <;> simp_all

@[simp] theorem State.notify_notes (s : State) (body : NoteBody) :
    (s.notify body).notes = s.notes.hand s.time body := rfl

@[simp] theorem State.pushReply_replies (s : State) (r : Reply) :
    (s.pushReply r).link.replies = s.link.replies ++ [r] := rfl

@[simp] theorem State.pushReply_requests (s : State) (r : Reply) :
    (s.pushReply r).link.requests = s.link.requests := rfl

/-! ### Half a tick -/

@[simp] theorem Lane.halfTick_config (x : Lane) (v : Level) :
    (x.halfTick v).config = x.config := by
  unfold Lane.halfTick; split <;> rfl

@[simp] theorem Lane.halfTick_mode (x : Lane) (v : Level) :
    (x.halfTick v).mode = x.mode := by
  unfold Lane.halfTick; split <;> rfl

@[simp] theorem Lane.halfTick_claims (x : Lane) (v : Level) :
    (x.halfTick v).claims = x.claims := by
  unfold Lane.halfTick; split <;> rfl

@[simp] theorem Lane.halfTick_sleepPending (x : Lane) (v : Level) :
    (x.halfTick v).sleepPending = x.sleepPending := by
  unfold Lane.halfTick; split <;> rfl

@[simp] theorem Lane.halfTick_wakePending (x : Lane) (v : Level) :
    (x.halfTick v).wakePending = x.wakePending := by
  unfold Lane.halfTick; split <;> rfl

@[simp] theorem Lane.halfTick_inFlight (x : Lane) (v : Level) :
    (x.halfTick v).inFlight = x.inFlight.map fun f => { f with elapsed := f.elapsed + 1 } := by
  unfold Lane.halfTick; split <;> rfl

@[simp] theorem Lane.halfTick_sleep (x : Lane) (v : Level) :
    (x.halfTick v).sleep = x.sleep.map SleepProgress.halfTick := by
  unfold Lane.halfTick; split <;> rfl

@[simp] theorem Lane.halfTick_wake (x : Lane) (v : Level) :
    (x.halfTick v).wake = x.wake.map WakeProgress.halfTick := by
  unfold Lane.halfTick; split <;> rfl

@[simp] theorem Receiver.hear_last (x : Receiver) (bit : Nat) (v : Level) : (x.hear bit v).last = v := by
  unfold Receiver.hear; split <;> first | rfl | (split <;> rfl)

@[simp] theorem State.halfTick_lane (s : State) (l : LaneId) :
    s.halfTick.lane l = (s.lane l).halfTick (s.pins.lines.get l) := by
  cases l <;> rfl

@[simp] theorem State.nextTick_timer (s : State) (t : TimerId) : s.nextTick.timer t = (s.timer t).advance := by
  cases t <;> rfl

@[simp] theorem State.halfTick_time (s : State) : s.halfTick.time = s.time := rfl

@[simp] theorem State.halfTick_resetting (s : State) : s.halfTick.resetting = s.resetting := rfl

@[simp] theorem State.halfTick_pins (s : State) : s.halfTick.pins = s.pins := rfl

@[simp] theorem State.halfTick_timers (s : State) : s.halfTick.timers = s.timers := rfl

@[simp] theorem State.halfTick_tables (s : State) : s.halfTick.tables = s.tables := rfl

@[simp] theorem State.halfTick_roster (s : State) : s.halfTick.roster = s.roster := rfl

@[simp] theorem State.halfTick_results (s : State) : s.halfTick.results = s.results := rfl

@[simp] theorem State.halfTick_outputs (s : State) : s.halfTick.outputs = s.outputs := rfl

@[simp] theorem State.halfTick_supervisor (s : State) : s.halfTick.supervisor = s.supervisor := rfl

@[simp] theorem State.halfTick_acyclic (s : State) : s.halfTick.acyclic = s.acyclic := rfl

@[simp] theorem State.halfTick_notes (s : State) : s.halfTick.notes = s.notes := rfl

@[simp] theorem State.halfTick_pending (s : State) : s.halfTick.pending = s.pending := rfl

@[simp] theorem State.halfTick_half (s : State) : s.halfTick.half = !s.half := rfl

@[simp] theorem State.halfTick_link (s : State) : s.halfTick.link = s.link.halfTick s.pins.rxdBusy := rfl

@[simp] theorem State.nextTick_half (s : State) : s.nextTick.half = s.half := rfl

@[simp] theorem State.nextTick_resetting (s : State) : s.nextTick.resetting = s.resetting := rfl

@[simp] theorem State.nextTick_pins (s : State) : s.nextTick.pins = s.pins := rfl

@[simp] theorem State.nextTick_tables (s : State) : s.nextTick.tables = s.tables := rfl

@[simp] theorem State.nextTick_lanes (s : State) : s.nextTick.lanes = s.lanes := rfl

@[simp] theorem State.nextTick_roster (s : State) : s.nextTick.roster = s.roster := rfl

@[simp] theorem State.nextTick_results (s : State) : s.nextTick.results = s.results := rfl

@[simp] theorem State.nextTick_outputs (s : State) : s.nextTick.outputs = s.outputs := rfl

@[simp] theorem State.nextTick_acyclic (s : State) : s.nextTick.acyclic = s.acyclic := rfl

@[simp] theorem State.nextTick_notes (s : State) : s.nextTick.notes = s.notes := rfl

@[simp] theorem State.nextTick_link (s : State) : s.nextTick.link = s.link := rfl

@[simp] theorem State.nextTick_pending (s : State) : s.nextTick.pending = s.pending := rfl

@[simp] theorem State.nextTick_time (s : State) : s.nextTick.time = s.time + 1 := rfl

@[simp] theorem State.nextTick_supervisor (s : State) : s.nextTick.supervisor = s.supervisor.tick := rfl

end Sys2Proof.Machine
end

