-- ==== Sys2Proof/Laws/Frames.lean ====
section
/-!
SUPPORT. What the operations of the lane controllers leave alone, one lemma for each operation:
the delivery of outcomes, posting, the end of a transaction, withdrawal.
-/

namespace Sys2Proof.Machine

/-- What State.notifyIf leaves alone. -/
@[simp] theorem State.notifyIf_frame (s : State) (b : Option NoteBody) :
    (s.notifyIf b).time = s.time ∧ (s.notifyIf b).half = s.half ∧
    (s.notifyIf b).resetting = s.resetting ∧ (s.notifyIf b).pins = s.pins ∧
    (s.notifyIf b).timers = s.timers ∧ (s.notifyIf b).tables = s.tables ∧
    (s.notifyIf b).outputs = s.outputs ∧ (s.notifyIf b).supervisor = s.supervisor ∧
    (s.notifyIf b).link = s.link ∧ (s.notifyIf b).pending = s.pending ∧ (s.notifyIf b).lanes = s.lanes ∧
    (s.notifyIf b).roster = s.roster ∧ (s.notifyIf b).results = s.results ∧
    (s.notifyIf b).acyclic = s.acyclic := by
  cases b <;> simp [State.notifyIf]

/-- What State.rosterOutcome leaves alone. -/
@[simp] theorem State.rosterOutcome_frame (s : State) (l : LaneId) (node : Nat) (o : Outcome) :
    (s.rosterOutcome l node o).time = s.time ∧ (s.rosterOutcome l node o).half = s.half ∧
    (s.rosterOutcome l node o).resetting = s.resetting ∧
    (s.rosterOutcome l node o).pins = s.pins ∧ (s.rosterOutcome l node o).timers = s.timers ∧
    (s.rosterOutcome l node o).tables = s.tables ∧ (s.rosterOutcome l node o).outputs = s.outputs ∧
    (s.rosterOutcome l node o).supervisor = s.supervisor ∧ (s.rosterOutcome l node o).link = s.link ∧
    (s.rosterOutcome l node o).pending = s.pending ∧ (s.rosterOutcome l node o).lanes = s.lanes ∧
    (s.rosterOutcome l node o).results = s.results ∧ (s.rosterOutcome l node o).acyclic = s.acyclic := by
  unfold State.rosterOutcome; split <;> simp

/-- What State.deliverResult leaves alone. -/
@[simp] theorem State.deliverResult_frame (s : State) (c : CyclicClaim) (o : Outcome) (n : Nat) (d : List Byte) :
    (s.deliverResult c o n d).time = s.time ∧ (s.deliverResult c o n d).half = s.half ∧
    (s.deliverResult c o n d).resetting = s.resetting ∧
    (s.deliverResult c o n d).pins = s.pins ∧ (s.deliverResult c o n d).timers = s.timers ∧
    (s.deliverResult c o n d).tables = s.tables ∧ (s.deliverResult c o n d).outputs = s.outputs ∧
    (s.deliverResult c o n d).supervisor = s.supervisor ∧ (s.deliverResult c o n d).link = s.link ∧
    (s.deliverResult c o n d).pending = s.pending ∧ (s.deliverResult c o n d).lanes = s.lanes ∧
    (s.deliverResult c o n d).roster = s.roster ∧ (s.deliverResult c o n d).acyclic = s.acyclic ∧
    (s.deliverResult c o n d).notes = s.notes := by
  unfold State.deliverResult; split <;> simp

/-- What State.recordOverrun leaves alone. -/
@[simp] theorem State.recordOverrun_frame (s : State) (c : CyclicClaim) :
    (s.recordOverrun c).time = s.time ∧ (s.recordOverrun c).half = s.half ∧
    (s.recordOverrun c).resetting = s.resetting ∧
    (s.recordOverrun c).pins = s.pins ∧ (s.recordOverrun c).timers = s.timers ∧
    (s.recordOverrun c).tables = s.tables ∧ (s.recordOverrun c).outputs = s.outputs ∧
    (s.recordOverrun c).supervisor = s.supervisor ∧ (s.recordOverrun c).link = s.link ∧
    (s.recordOverrun c).pending = s.pending ∧ (s.recordOverrun c).lanes = s.lanes ∧
    (s.recordOverrun c).roster = s.roster ∧ (s.recordOverrun c).acyclic = s.acyclic ∧
    (s.recordOverrun c).notes = s.notes := by
  unfold State.recordOverrun; split <;> simp

/-- What State.completeAcyclic leaves alone. -/
@[simp] theorem State.completeAcyclic_frame (s : State) (g : Half) (o : Outcome) (n : Nat) (d : List Byte) :
    (s.completeAcyclic g o n d).time = s.time ∧ (s.completeAcyclic g o n d).half = s.half ∧
    (s.completeAcyclic g o n d).resetting = s.resetting ∧
    (s.completeAcyclic g o n d).pins = s.pins ∧ (s.completeAcyclic g o n d).timers = s.timers ∧
    (s.completeAcyclic g o n d).tables = s.tables ∧ (s.completeAcyclic g o n d).outputs = s.outputs ∧
    (s.completeAcyclic g o n d).supervisor = s.supervisor ∧ (s.completeAcyclic g o n d).link = s.link ∧
    (s.completeAcyclic g o n d).pending = s.pending ∧ (s.completeAcyclic g o n d).lanes = s.lanes ∧
    (s.completeAcyclic g o n d).roster = s.roster ∧ (s.completeAcyclic g o n d).results = s.results := by
  simp [State.completeAcyclic]

/-- What State.deliverWaiting leaves alone. -/
@[simp] theorem State.deliverWaiting_frame (s : State) (l : LaneId) (o : Outcome) (c : Claim) :
    (s.deliverWaiting l o c).time = s.time ∧ (s.deliverWaiting l o c).half = s.half ∧
    (s.deliverWaiting l o c).resetting = s.resetting ∧
    (s.deliverWaiting l o c).pins = s.pins ∧ (s.deliverWaiting l o c).timers = s.timers ∧
    (s.deliverWaiting l o c).tables = s.tables ∧ (s.deliverWaiting l o c).outputs = s.outputs ∧
    (s.deliverWaiting l o c).supervisor = s.supervisor ∧ (s.deliverWaiting l o c).link = s.link ∧
    (s.deliverWaiting l o c).pending = s.pending ∧ (s.deliverWaiting l o c).lanes = s.lanes := by
  unfold State.deliverWaiting; split <;> split <;> simp

/-- What State.deliverAll leaves alone. -/
@[simp] theorem State.deliverAll_frame (s : State) (l : LaneId) (o : Outcome) (cs : List Claim) :
    (s.deliverAll l o cs).time = s.time ∧ (s.deliverAll l o cs).half = s.half ∧
    (s.deliverAll l o cs).resetting = s.resetting ∧
    (s.deliverAll l o cs).pins = s.pins ∧ (s.deliverAll l o cs).timers = s.timers ∧
    (s.deliverAll l o cs).tables = s.tables ∧ (s.deliverAll l o cs).outputs = s.outputs ∧
    (s.deliverAll l o cs).supervisor = s.supervisor ∧ (s.deliverAll l o cs).link = s.link ∧
    (s.deliverAll l o cs).pending = s.pending ∧ (s.deliverAll l o cs).lanes = s.lanes := by
  unfold State.deliverAll; induction cs generalizing s <;> simp_all

/-- What State.deliverFinal leaves alone. -/
@[simp] theorem State.deliverFinal_frame (s : State) (l : LaneId) (f : InFlight) (o : Outcome) (d : List Byte) :
    (s.deliverFinal l f o d).time = s.time ∧ (s.deliverFinal l f o d).half = s.half ∧
    (s.deliverFinal l f o d).resetting = s.resetting ∧
    (s.deliverFinal l f o d).pins = s.pins ∧ (s.deliverFinal l f o d).timers = s.timers ∧
    (s.deliverFinal l f o d).tables = s.tables ∧ (s.deliverFinal l f o d).outputs = s.outputs ∧
    (s.deliverFinal l f o d).supervisor = s.supervisor ∧ (s.deliverFinal l f o d).link = s.link ∧
    (s.deliverFinal l f o d).pending = s.pending ∧ (s.deliverFinal l f o d).lanes = s.lanes := by
  unfold State.deliverFinal; split <;> simp

/-- What State.resolveAll leaves alone. -/
@[simp] theorem State.resolveAll_frame (s : State) (l : LaneId) (o : Outcome) :
    (s.resolveAll l o).time = s.time ∧ (s.resolveAll l o).half = s.half ∧
    (s.resolveAll l o).resetting = s.resetting ∧
    (s.resolveAll l o).pins = s.pins ∧ (s.resolveAll l o).timers = s.timers ∧
    (s.resolveAll l o).tables = s.tables ∧ (s.resolveAll l o).outputs = s.outputs ∧
    (s.resolveAll l o).supervisor = s.supervisor ∧ (s.resolveAll l o).link = s.link ∧
    (s.resolveAll l o).pending = s.pending := by
  unfold State.resolveAll; simp

/-- What State.enlist leaves alone. -/
@[simp] theorem State.enlist_frame (s : State) (l : LaneId) (c : CyclicClaim) :
    (s.enlist l c).time = s.time ∧ (s.enlist l c).half = s.half ∧
    (s.enlist l c).resetting = s.resetting ∧ (s.enlist l c).pins = s.pins ∧
    (s.enlist l c).timers = s.timers ∧ (s.enlist l c).tables = s.tables ∧
    (s.enlist l c).outputs = s.outputs ∧ (s.enlist l c).supervisor = s.supervisor ∧
    (s.enlist l c).link = s.link ∧ (s.enlist l c).pending = s.pending ∧ (s.enlist l c).roster = s.roster ∧
    (s.enlist l c).results = s.results ∧ (s.enlist l c).acyclic = s.acyclic ∧
    (s.enlist l c).notes = s.notes := by
  simp [State.enlist]

/-- What State.postToLane leaves alone. -/
@[simp] theorem State.postToLane_frame (s : State) (l : LaneId) (node : Nat) (c : CyclicClaim) :
    (s.postToLane l node c).time = s.time ∧ (s.postToLane l node c).half = s.half ∧
    (s.postToLane l node c).resetting = s.resetting ∧
    (s.postToLane l node c).pins = s.pins ∧ (s.postToLane l node c).timers = s.timers ∧
    (s.postToLane l node c).tables = s.tables ∧ (s.postToLane l node c).outputs = s.outputs ∧
    (s.postToLane l node c).supervisor = s.supervisor ∧ (s.postToLane l node c).link = s.link ∧
    (s.postToLane l node c).pending = s.pending := by
  unfold State.postToLane; split
  · simp
  · dsimp only; split <;> simp

/-- What State.post leaves alone. -/
@[simp] theorem State.post_frame (s : State) (e : ScanEntry) (c : CyclicClaim) :
    (s.post e c).time = s.time ∧ (s.post e c).half = s.half ∧
    (s.post e c).resetting = s.resetting ∧ (s.post e c).pins = s.pins ∧
    (s.post e c).timers = s.timers ∧ (s.post e c).tables = s.tables ∧ (s.post e c).outputs = s.outputs ∧
    (s.post e c).supervisor = s.supervisor ∧ (s.post e c).link = s.link ∧
    (s.post e c).pending = s.pending := by
  unfold State.post; split <;> simp

/-- What State.markGranted leaves alone. -/
@[simp] theorem State.markGranted_frame (s : State) (c : Claim) :
    (s.markGranted c).time = s.time ∧ (s.markGranted c).half = s.half ∧
    (s.markGranted c).resetting = s.resetting ∧
    (s.markGranted c).pins = s.pins ∧ (s.markGranted c).timers = s.timers ∧
    (s.markGranted c).tables = s.tables ∧ (s.markGranted c).outputs = s.outputs ∧
    (s.markGranted c).supervisor = s.supervisor ∧ (s.markGranted c).link = s.link ∧
    (s.markGranted c).pending = s.pending ∧ (s.markGranted c).lanes = s.lanes ∧
    (s.markGranted c).roster = s.roster ∧ (s.markGranted c).results = s.results ∧
    (s.markGranted c).notes = s.notes := by
  cases c <;> simp [State.markGranted]

/-- What State.enterSleeping leaves alone. -/
@[simp] theorem State.enterSleeping_frame (s : State) (l : LaneId) :
    (s.enterSleeping l).time = s.time ∧ (s.enterSleeping l).half = s.half ∧
    (s.enterSleeping l).resetting = s.resetting ∧
    (s.enterSleeping l).pins = s.pins ∧ (s.enterSleeping l).timers = s.timers ∧
    (s.enterSleeping l).tables = s.tables ∧ (s.enterSleeping l).outputs = s.outputs ∧
    (s.enterSleeping l).supervisor = s.supervisor ∧ (s.enterSleeping l).link = s.link ∧
    (s.enterSleeping l).pending = s.pending := by
  unfold State.enterSleeping; simp

/-- What State.clearFlight leaves alone. -/
@[simp] theorem State.clearFlight_frame (s : State) (l : LaneId) :
    (s.clearFlight l).time = s.time ∧ (s.clearFlight l).half = s.half ∧
    (s.clearFlight l).resetting = s.resetting ∧
    (s.clearFlight l).pins = s.pins ∧ (s.clearFlight l).timers = s.timers ∧
    (s.clearFlight l).tables = s.tables ∧ (s.clearFlight l).outputs = s.outputs ∧
    (s.clearFlight l).supervisor = s.supervisor ∧ (s.clearFlight l).link = s.link ∧
    (s.clearFlight l).pending = s.pending := by
  unfold State.clearFlight; split <;> simp

/-- What State.placeRetry leaves alone. -/
@[simp] theorem State.placeRetry_frame (s : State) (l : LaneId) (o : Outcome) (c : Claim) :
    (s.placeRetry l o c).time = s.time ∧ (s.placeRetry l o c).half = s.half ∧
    (s.placeRetry l o c).resetting = s.resetting ∧
    (s.placeRetry l o c).pins = s.pins ∧ (s.placeRetry l o c).timers = s.timers ∧
    (s.placeRetry l o c).tables = s.tables ∧ (s.placeRetry l o c).outputs = s.outputs ∧
    (s.placeRetry l o c).supervisor = s.supervisor ∧ (s.placeRetry l o c).link = s.link ∧
    (s.placeRetry l o c).pending = s.pending ∧ (s.placeRetry l o c).roster = s.roster ∧
    (s.placeRetry l o c).results = s.results ∧ (s.placeRetry l o c).notes = s.notes := by
  cases c <;> simp [State.placeRetry]

/-- What State.endTransaction leaves alone. -/
@[simp] theorem State.endTransaction_frame (s : State) (l : LaneId) (f : InFlight) (o : Outcome) (d : List Byte) :
    (s.endTransaction l f o d).time = s.time ∧ (s.endTransaction l f o d).half = s.half ∧
    (s.endTransaction l f o d).resetting = s.resetting ∧
    (s.endTransaction l f o d).pins = s.pins ∧ (s.endTransaction l f o d).timers = s.timers ∧
    (s.endTransaction l f o d).tables = s.tables ∧ (s.endTransaction l f o d).outputs = s.outputs ∧
    (s.endTransaction l f o d).supervisor = s.supervisor ∧ (s.endTransaction l f o d).link = s.link ∧
    (s.endTransaction l f o d).pending = s.pending := by
  unfold State.endTransaction; split <;> simp

/-- What State.dropAcyclic leaves alone. -/
@[simp] theorem State.dropAcyclic_frame (s : State) (e : AcyclicEntry) (o : Outcome) :
    (s.dropAcyclic e o).time = s.time ∧ (s.dropAcyclic e o).half = s.half ∧
    (s.dropAcyclic e o).resetting = s.resetting ∧
    (s.dropAcyclic e o).pins = s.pins ∧ (s.dropAcyclic e o).timers = s.timers ∧
    (s.dropAcyclic e o).tables = s.tables ∧ (s.dropAcyclic e o).outputs = s.outputs ∧
    (s.dropAcyclic e o).supervisor = s.supervisor ∧ (s.dropAcyclic e o).link = s.link ∧
    (s.dropAcyclic e o).pending = s.pending ∧ (s.dropAcyclic e o).results = s.results := by
  unfold State.dropAcyclic; simp

/-- What State.timeOut leaves alone. -/
@[simp] theorem State.timeOut_frame (s : State) (e : AcyclicEntry) :
    (s.timeOut e).time = s.time ∧ (s.timeOut e).half = s.half ∧
    (s.timeOut e).resetting = s.resetting ∧ (s.timeOut e).pins = s.pins ∧
    (s.timeOut e).timers = s.timers ∧ (s.timeOut e).tables = s.tables ∧ (s.timeOut e).outputs = s.outputs ∧
    (s.timeOut e).supervisor = s.supervisor ∧ (s.timeOut e).link = s.link ∧
    (s.timeOut e).pending = s.pending ∧ (s.timeOut e).results = s.results := by
  unfold State.timeOut; split <;> simp

/-- What State.withdrawLate leaves alone. -/
@[simp] theorem State.withdrawLate_frame (s : State) (t : TimerId) (r : Half) (n : Time) (l : LaneId) :
    (s.withdrawLate t r n l).time = s.time ∧ (s.withdrawLate t r n l).half = s.half ∧
    (s.withdrawLate t r n l).resetting = s.resetting ∧
    (s.withdrawLate t r n l).pins = s.pins ∧ (s.withdrawLate t r n l).timers = s.timers ∧
    (s.withdrawLate t r n l).tables = s.tables ∧ (s.withdrawLate t r n l).outputs = s.outputs ∧
    (s.withdrawLate t r n l).supervisor = s.supervisor ∧ (s.withdrawLate t r n l).link = s.link ∧
    (s.withdrawLate t r n l).pending = s.pending := by
  unfold State.withdrawLate; simp

/-- What State.overrun leaves alone. -/
@[simp] theorem State.overrun_frame (s : State) (t : TimerId) (r : Half) (n : Time) (l : LaneId) :
    (s.overrun t r n l).time = s.time ∧ (s.overrun t r n l).half = s.half ∧
    (s.overrun t r n l).resetting = s.resetting ∧
    (s.overrun t r n l).pins = s.pins ∧ (s.overrun t r n l).timers = s.timers ∧
    (s.overrun t r n l).tables = s.tables ∧ (s.overrun t r n l).outputs = s.outputs ∧
    (s.overrun t r n l).supervisor = s.supervisor ∧ (s.overrun t r n l).link = s.link ∧
    (s.overrun t r n l).pending = s.pending ∧ (s.overrun t r n l).roster = s.roster ∧
    (s.overrun t r n l).acyclic = s.acyclic ∧ (s.overrun t r n l).notes = s.notes := by
  unfold State.overrun; split <;> (try split) <;> (try split) <;> simp

/-- What State.withdrawnToRoster leaves alone. -/
@[simp] theorem State.withdrawnToRoster_frame (s : State) (l : LaneId) (c : Claim) :
    (s.withdrawnToRoster l c).time = s.time ∧ (s.withdrawnToRoster l c).half = s.half ∧
    (s.withdrawnToRoster l c).resetting = s.resetting ∧
    (s.withdrawnToRoster l c).pins = s.pins ∧ (s.withdrawnToRoster l c).timers = s.timers ∧
    (s.withdrawnToRoster l c).tables = s.tables ∧ (s.withdrawnToRoster l c).outputs = s.outputs ∧
    (s.withdrawnToRoster l c).supervisor = s.supervisor ∧ (s.withdrawnToRoster l c).link = s.link ∧
    (s.withdrawnToRoster l c).pending = s.pending ∧ (s.withdrawnToRoster l c).lanes = s.lanes ∧
    (s.withdrawnToRoster l c).results = s.results ∧ (s.withdrawnToRoster l c).acyclic = s.acyclic := by
  unfold State.withdrawnToRoster; split <;> (try split) <;> simp

end Sys2Proof.Machine
end

