-- ==== Sys2Proof/Laws/Ops.lean ====
section
/-!
SUPPORT. What the shared operations do, each said once: images, the storing of notifications, the finding
of a result buffer, the taking of a request, the receiver of a lane, and the line of the host link.
-/

namespace Sys2Proof.Machine

/-! ### Images -/

theorem Memory.wfFrom_mono {m : Memory} {lo hi : Nat} (h : lo ≤ hi) (hw : m.wfFrom hi = true) :
    m.wfFrom lo = true := by
  cases m with
  | nil => rfl
  | cons c rest =>
    simp only [Memory.wfFrom, Bool.and_eq_true, decide_eq_true_eq] at hw ⊢
    exact ⟨⟨by omega, hw.1.2⟩, hw.2⟩

/-- Below the least offset an image in canonical form lists nothing. -/
theorem Memory.read_below {m : Memory} {lo a : Nat} (hw : m.wfFrom lo = true) (h : a < lo) :
    m.read a = Memory.background := by
  induction m generalizing lo with
  | nil => rfl
  | cons c rest ih =>
    simp only [Memory.wfFrom, Bool.and_eq_true, decide_eq_true_eq] at hw
    simp only [Memory.read]
    rw [if_neg (by omega)]
    exact ih hw.2 (by omega)

theorem Memory.write_wfFrom {m : Memory} {lo a : Nat} (v : Byte) (hw : m.wfFrom lo = true) (h : lo ≤ a) :
    (m.write a v).wfFrom lo = true := by
  induction m generalizing lo with
  | nil =>
    simp only [Memory.write]
    split
    · rfl
    · simp_all [Memory.wfFrom]
  | cons c rest ih =>
    obtain ⟨k, w⟩ := c
    simp only [Memory.wfFrom, Bool.and_eq_true, decide_eq_true_eq] at hw
    simp only [Memory.write]
    split
    · split
      · simp only [Memory.wfFrom, Bool.and_eq_true, decide_eq_true_eq]
        exact hw
      · simp only [Memory.wfFrom, Bool.and_eq_true, decide_eq_true_eq]
        exact ⟨⟨h, ‹_›⟩, ⟨⟨by omega, hw.1.2⟩, hw.2⟩⟩
    · split
      · split
        · exact Memory.wfFrom_mono (by omega) hw.2
        · simp only [Memory.wfFrom, Bool.and_eq_true, decide_eq_true_eq]
          exact ⟨⟨h, ‹_›⟩, by subst_vars; exact hw.2⟩
      · simp only [Memory.wfFrom, Bool.and_eq_true, decide_eq_true_eq]
        exact ⟨hw.1, ih hw.2 (by omega)⟩

/-- A write keeps the canonical form. -/
theorem Memory.write_wf {m : Memory} (a : Nat) (v : Byte) (hw : m.wf = true) : (m.write a v).wf = true :=
  Memory.write_wfFrom v hw (Nat.zero_le _)

/-- A write of several bytes keeps the canonical form. -/
theorem Memory.writeBytes_wf {m : Memory} (a : Nat) (bytes : List Byte) (hw : m.wf = true) :
    (m.writeBytes a bytes).wf = true := by
  induction bytes generalizing m a with
  | nil => exact hw
  | cons v vs ih => exact ih (a + 1) (Memory.write_wf a v hw)

theorem Memory.read_write_from {m : Memory} {lo : Nat} (a b : Nat) (v : Byte) (hw : m.wfFrom lo = true) :
    (m.write a v).read b = if b = a then v else m.read b := by
  induction m generalizing lo with
  | nil =>
    simp only [Memory.write]
    split
    · next hv => simp [Memory.read, hv]
    · simp [Memory.read, eq_comm (a := a)]
  | cons c rest ih =>
    obtain ⟨k, w⟩ := c
    simp only [Memory.wfFrom, Bool.and_eq_true, decide_eq_true_eq] at hw
    have hbelow : ∀ i, i < k + 1 → Memory.read rest i = Memory.background :=
      fun i hi => Memory.read_below hw.2 hi
    by_cases hb : b = a
    · subst hb
      simp only [Memory.write, if_true]
      split
      · split
        · next hv => simp [Memory.read, show k ≠ b by omega, hbelow b (by omega), hv]
        · simp [Memory.read]
      · split
        · split
          · next hv => simp [hbelow b (by omega), hv]
          · simp [Memory.read]
        · simp only [Memory.read, show k ≠ b by omega, if_false]
          rw [ih hw.2, if_pos rfl]
    · have hba : a ≠ b := fun h => hb h.symm
      simp only [Memory.write, hb, if_false]
      split
      · split
        · rfl
        · simp [Memory.read, hba]
      · split
        · next hk =>
          subst hk
          split <;> simp [Memory.read, hba]
        · simp only [Memory.read]
          rw [ih hw.2, if_neg hb]

/-- A read after a write: the byte written at its offset, the byte that was there elsewhere. -/
theorem Memory.read_write {m : Memory} (a b : Nat) (v : Byte) (hw : m.wf = true) :
    (m.write a v).read b = if b = a then v else m.read b :=
  Memory.read_write_from a b v hw

/-- A read after a write of several bytes: the written byte within their range, else the byte there. -/
theorem Memory.read_writeBytes {m : Memory} (a b : Nat) (bytes : List Byte) (hw : m.wf = true) :
    (m.writeBytes a bytes).read b =
      if a ≤ b ∧ b < a + bytes.length then bytes.getD (b - a) 0 else m.read b := by
  induction bytes generalizing m a with
  | nil => simp [Memory.writeBytes, show ¬ (a ≤ b ∧ b < a) by omega]
  | cons v vs ih =>
    simp only [Memory.writeBytes, ih (a + 1) (Memory.write_wf a v hw), Memory.read_write a b v hw,
      List.length_cons]
    by_cases hb : b = a
    · subst hb; simp
    · by_cases hr : a + 1 ≤ b ∧ b < a + 1 + vs.length
      · rw [if_pos hr, if_pos (by omega), show b - a = (b - (a + 1)) + 1 by omega]; simp
      · rw [if_neg hr, if_neg hb, if_neg (by omega)]

/-- The images of State.reset are in canonical form. -/
theorem State.reset_imagesOk : State.reset.ImagesOk := by
  intro t; cases t <;> refine ⟨rfl, rfl, rfl, fun b => ?_⟩ <;> cases b <;> rfl

/-! ### Storing a notification -/

/-- Everything the storing of a record can do (R146). -/
theorem NoteQueue.hand_cases (q : NoteQueue) (now : Time) (body : NoteBody) :
    ((∃ n ∈ q.records, n.isOverflow = true) ∧
        q.hand now body = { q with records := q.records.map Note.bump }) ∨
      ((∀ n ∈ q.records, n.isOverflow = false) ∧
        q.hand now body =
          { records := q.records ++
              [{ number := q.counter, time := now
                 body := if q.records.length < 31 then body else .overflow 1 }]
            counter := q.counter + 1 }) := by
  unfold NoteQueue.hand
  split
  · next h => exact .inl ⟨by simpa using h, rfl⟩
  · next h => exact .inr ⟨by simpa using h, rfl⟩

@[simp] theorem Note.bump_number (n : Note) : n.bump.number = n.number := by
  unfold Note.bump; split <;> rfl

@[simp] theorem Note.bump_time (n : Note) : n.bump.time = n.time := by
  unfold Note.bump; split <;> rfl

@[simp] theorem Note.bump_isOverflow (n : Note) : n.bump.isOverflow = n.isOverflow := by
  unfold Note.bump Note.isOverflow; cases h : n.body <;> simp_all

/-! ### Finding a result buffer -/

/-- A buffer that is found is in the state sought. -/
theorem Three.find_some {bs : Three Buffer} {m : BufMode} {b : BufId} (h : bs.find m = some b) :
    (bs.get b).mode = m := by
  unfold Three.find at h
  split at h
  · next h0 => cases h; exact h0
  · split at h
    · next h1 => cases h; exact h1
    · split at h
      · next h2 => cases h; exact h2
      · cases h

/-- No buffer is found exactly when none is in the state sought. -/
theorem Three.find_none {bs : Three Buffer} {m : BufMode} :
    bs.find m = none ↔ ∀ b, (bs.get b).mode ≠ m := by
  unfold Three.find
  constructor
  · intro h b
    split at h <;> try cases h
    split at h <;> try cases h
    split at h <;> try cases h
    cases b <;> assumption
  · intro h
    have h0 : bs.b0.mode ≠ m := h .b0
    have h1 : bs.b1.mode ≠ m := h .b1
    have h2 : bs.b2.mode ≠ m := h .b2
    rw [if_neg h0, if_neg h1, if_neg h2]

/-! ### Taking a request -/

/-- A ready request is taken as a new one: it leaves the request queue and is executed. -/
theorem State.take_ready {s : State} {rq : Request} (run : State → State) (h : s.ready rq = true) :
    s.take rq run = run { s with link := { s.link with requests := s.link.requests.tail } } := by
  simp only [State.ready, Bool.and_eq_true, decide_eq_true_eq] at h
  obtain ⟨⟨⟨⟨h1, h2⟩, h3⟩, h4⟩, h5⟩ := h
  have ha : s.accept rq = some { s with link := { s.link with requests := s.link.requests.tail } } := by
    unfold State.accept
    rw [if_pos (by simp only [Config.linkLimit, h1, h2, h3, decide_true, Bool.and_true])]
    cases hr : s.link.requests with
    | nil => simp [hr] at h4
    | cons r rest => simp [hr] at h4; simp [h4]
  have hd : Link.isDuplicate { s.link with requests := s.link.requests.tail } rq = s.link.isDuplicate rq := rfl
  unfold State.take
  rw [ha]
  simp only [hd]
  split
  · rw [if_neg (by simpa using h5)]
  · rfl

/-- A ready request is answered by its owner. -/
theorem State.serve_ready {s : State} {seq kind : Byte} {payload : List Byte}
    (owner : State → State × Answer) (h : s.ready (requestOf seq kind payload) = true) :
    s.serve seq kind payload owner =
      (owner { s with link := { s.link with requests := s.link.requests.tail } }).1.answer
        (requestOf seq kind payload)
        (owner { s with link := { s.link with requests := s.link.requests.tail } }).2 := by
  unfold State.serve
  rw [State.take_ready _ h]

/-- Everything a taken request can do: nothing, a replay, or its execution after it left the queue. -/
theorem State.take_cases (s : State) (rq : Request) (run : State → State) :
    s.take rq run = s ∨
      ∃ s1, s.accept rq = some s1 ∧
        ((∃ k, s1.link.lastTaken = some k ∧ s.take rq run = s1.pushReply k.reply.replayed) ∨
          s.take rq run = run s1) := by
  unfold State.take
  split
  · exact .inl rfl
  · next s1 h =>
    refine .inr ⟨s1, h, ?_⟩
    split
    · next k hk =>
      split
      · exact .inl ⟨k, hk, rfl⟩
      · exact .inr rfl
    · exact .inr rfl

/-- Everything the admission of a request can answer: only the request queue may differ. -/
theorem State.accept_some {s s1 : State} {rq : Request} (h : s.accept rq = some s1) :
    s.resetting = none ∧ s.link.takingStopped = false ∧ s.link.replies.length < 4 ∧
      ∃ rest, s1 = { s with link := { s.link with requests := rest } } ∧ rest.length ≤ s.link.requests.length := by
  unfold State.accept at h
  split at h
  · next hc =>
    simp only [Bool.and_eq_true, decide_eq_true_eq, Option.isNone_iff_eq_none, Bool.not_eq_true'] at hc
    refine ⟨hc.1.1, hc.1.2, hc.2, ?_⟩
    split at h
    · next hr => cases h; exact ⟨s.link.requests, rfl, Nat.le_refl _⟩
    · next r rest hr =>
      split at h
      · cases h; exact ⟨rest, rfl, by simp [hr]⟩
      · cases h
  · cases h

/-! ### The wire -/

theorem State.flight_eq_some {s : State} {l : LaneId} {f : InFlight} :
    s.flight l = some f ↔ s.resetting = none ∧ (s.lane l).inFlight = some f := by
  unfold State.flight
  cases s.resetting <;> simp

theorem State.arriving_eq_some {s : State} {l : LaneId} {f : InFlight} {c : Byte × Bool} :
    s.arriving l = some (f, c) ↔
      s.flight l = some f ∧ (s.lane l).rx.done = some c ∧ f.expects (s.lane l).config = true := by
  unfold State.arriving
  split
  · next g d hg hd =>
    rw [hg, hd]
    split
    · next he => simp only [Option.some.injEq, Prod.mk.injEq]; constructor <;> (rintro ⟨rfl, h⟩; simp_all)
    · next he => simp only [Option.some.injEq]; constructor
                 · intro h; cases h
                 · rintro ⟨rfl, -, h⟩; exact absurd h he
  · next hn => constructor
               · intro h; cases h
               · rintro ⟨h1, h2, -⟩; exact absurd h2 (hn f c h1)

/-- A receiver observes on through a CONFIGURE_LANE that leaves its rate (R47, R64). -/
@[simp] theorem Receiver.configured_same (x : Receiver) (r : Rate) : x.configured r r = x := by
  simp [Receiver.configured]

/-- No CONFIGURE_LANE begins a reception. -/
theorem Receiver.configured_reception {x : Receiver} {old new : Rate} {c : Reception}
    (h : (x.configured old new).reception = some c) : old = new ∧ x.reception = some c := by
  unfold Receiver.configured at h
  split at h
  · exact ⟨‹_›, h⟩
  · split at h <;> simp [Receiver.reset] at h

/-- With no reception left, half a tick only keeps the level. -/
theorem Receiver.hear_none {x : Receiver} {bit : Nat} {level : Level} (h : x.see bit level = none) :
    x.hear bit level = { last := level, reception := none, done := none } := by
  unfold Receiver.hear; rw [h]

/-- A reception goes on by half a tick, or its character is complete after ten bit times (R47). -/
theorem Receiver.hear_some {x : Receiver} {bit : Nat} {level : Level} {c : Reception}
    (h : x.see bit level = some c) :
    (c.since + 1 < 10 * bit →
      x.hear bit level =
        { last := level, reception := some { c with since := c.since + 1 }, done := none }) ∧
    (10 * bit ≤ c.since + 1 →
      x.hear bit level = { last := level, reception := none, done := some (c.data, c.mark) }) := by
  unfold Receiver.hear; rw [h]
  exact ⟨fun hc => by simp [hc], fun hc => by simp [Nat.not_lt.mpr hc]⟩

/-- Everything time can do in one step: count a reset down or wait for its cause to end, pass to the middle of a tick,
or end the tick (R165; log 9). -/
theorem State.pass_cases (s : State) :
    (∃ r, s.resetting = some r ∧
      (s.pass = { s with resetting := some { r with left := r.left - 1 } } ∨ s.pass = s)) ∨
    (s.resetting = none ∧ s.half = false ∧ s.pass = s.halfTick) ∨
    (s.resetting = none ∧ s.half = true ∧ s.pass = s.halfTick.nextTick) := by
  unfold State.pass
  split
  · next r hr =>
    refine .inl ⟨r, hr, ?_⟩
    split
    · exact .inl rfl
    · exact .inr rfl
  · next hr =>
    refine .inr ?_
    split
    · next h => exact .inr ⟨hr, h, rfl⟩
    · next h => exact .inl ⟨hr, by simpa using h, rfl⟩

/-! ### The line of the host link -/

/-- Bit i of what data bits spell is set exactly when data bit i is at the stop-bit level (R153). -/
theorem linkData_testBit (bits : List LinkLevel) (i : Nat) :
    (linkData bits).testBit i = true ↔ bits[i]? = some .stop := by
  induction bits generalizing i with
  | nil => simp [linkData]
  | cons d rest ih =>
    cases i with
    | zero => cases d <;> simp [linkData, Nat.testBit_zero]
    | succ n =>
      have hdiv : linkData (d :: rest) / 2 = linkData rest := by
        simp only [linkData]
        split <;> omega
      rw [Nat.testBit_succ, hdiv, ih, List.getElem?_cons_succ]

/-- A reply takes 7 + payload length bytes on TXD (R154). -/
@[simp] theorem Reply.frame_length (r : Reply) : r.frame.length = 7 + r.payload.length := by
  simp [Reply.frame, bytes2]
  omega

/-- Everything TXD can show: a bit of the oldest reply, or the stop-bit level with no reply and in a reset. -/
theorem State.txd_cases (s : State) :
    (∃ r rest, s.resetting = none ∧ s.link.replies = r :: rest ∧
        s.txd = r.level (s.link.sending / Config.bitTime)) ∨
      ((s.resetting ≠ none ∨ s.link.replies = []) ∧ s.txd = .stop) := by
  unfold State.txd
  split
  · next r rest hr hq => exact .inl ⟨r, rest, hr, hq, rfl⟩
  · next h =>
    refine .inr ⟨?_, rfl⟩
    cases hq : s.link.replies with
    | nil => exact .inr rfl
    | cons r rest => exact .inl fun hr => h r rest hr hq

/-- TXD is idle at the stop-bit level wherever it sends no reply (R153). -/
theorem State.txd_idle {s : State} (h : s.txdSending = false) : s.txd = .stop := by
  obtain ⟨r, rest, hr, hq, -⟩ | ⟨-, ht⟩ := s.txd_cases
  · simp [State.txdSending, hr, hq] at h
  · exact ht

end Sys2Proof.Machine
end

