-- ==== Sys2Proof/WellFormed.lean ====
section
/-!
DEFINITION. Which commands are well formed: payloads as long as a host frame carries them (R154), STOP by
the row of its mode (R12, R13; a mode outside the set goes with STOP_END, log 16), a kind outside the 27
for UNKNOWN_KIND (R160), a position of a scan table for CLAIM_EXPIRY (R22). exec is defined on every
command; a sender need not send an ill-formed one.
-/

namespace Sys2Proof

/-- A payload a host frame can carry (R154). -/
def payloadFitsFrame (payload : List Byte) : Bool := decide (payload.length ≤ Config.maxPayload)

/-- A STOP payload carries mode NOW (R167). -/
def stopsNow (payload : List Byte) : Bool := payload.length == 2 && Machine.byteAt payload 1 == 1

/-- A well-formed command. -/
def Instr.wf : Instr → Bool
  | .query _ p => payloadFitsFrame p
  | .reset _ p => payloadFitsFrame p
  | .configureLane _ p => payloadFitsFrame p
  | .sleepLane _ p => payloadFitsFrame p
  | .wakeLane _ p => payloadFitsFrame p
  | .configureTimer _ p => payloadFitsFrame p
  | .start _ p => payloadFitsFrame p
  | .stopEnd _ p => payloadFitsFrame p && !stopsNow p
  | .stopNow _ p => payloadFitsFrame p && stopsNow p
  | .stageEntry _ p => payloadFitsFrame p
  | .clearStaged _ p => payloadFitsFrame p
  | .readEntry _ p => payloadFitsFrame p
  | .commit _ p => payloadFitsFrame p
  | .withdraw _ p => payloadFitsFrame p
  | .writeOutput _ p => payloadFitsFrame p
  | .writeFallback _ p => payloadFitsFrame p
  | .publish _ p => payloadFitsFrame p
  | .setSupervision _ p => payloadFitsFrame p
  | .resume _ p => payloadFitsFrame p
  | .hold _ p => payloadFitsFrame p
  | .readImage _ p => payloadFitsFrame p
  | .readStatus _ p => payloadFitsFrame p
  | .release _ p => payloadFitsFrame p
  | .transact _ p => payloadFitsFrame p
  | .cancel _ p => payloadFitsFrame p
  | .readNode _ p => payloadFitsFrame p
  | .forgetNode _ p => payloadFitsFrame p
  | .fetch _ p => payloadFitsFrame p
  | .duplicateReplay _ _ p => payloadFitsFrame p
  | .unknownKind _ kind p => payloadFitsFrame p && !Machine.isRequestKind kind
  | .frameReceived _ _ => true
  | .lengthNak _ _ => true
  | .partialFrameDiscard => true
  | .skipEnd => true
  | .replySent => true
  | .powerOn _ => true
  | .rstPin _ => true
  | .resetEnd => true
  | .firstFrameStart _ => true
  | .frameClose _ => true
  | .postClaims _ => true
  | .syncEnd _ => true
  | .trigEdge _ => true
  | .grant _ => true
  | .claimExpiry _ _ position => decide (position < Config.positions)
  | .echoMismatch _ _ => true
  | .responseTimeout _ => true
  | .characterLimitExpiry _ => true
  | .responseComplete _ _ _ => true
  | .broadcastComplete _ => true
  | .sleepCommandStart _ => true
  | .sleepCommandEnd _ => true
  | .wakePulseEnd _ => true
  | .settleEnd _ => true
  | .nodeWake _ => true
  | .lineFault _ => true
  | .lineFaultRecovery _ => true
  | .acyclicTimeout _ => true
  | .supervisionExpiry => true
  | .responseCharacterReceived _ _ _ => true
  | .hostByteReceived _ _ => true

/-- The sequence, kind and payload of the request a request row stands for (R167); other commands, and a
duplicate, stand for none. -/
def Instr.request : Instr → Option (Byte × Byte × List Byte)
  | .query seq p => some (seq, 0x01, p)
  | .reset seq p => some (seq, 0x02, p)
  | .configureLane seq p => some (seq, 0x03, p)
  | .sleepLane seq p => some (seq, 0x04, p)
  | .wakeLane seq p => some (seq, 0x05, p)
  | .configureTimer seq p => some (seq, 0x06, p)
  | .start seq p => some (seq, 0x07, p)
  | .stopEnd seq p => some (seq, 0x08, p)
  | .stopNow seq p => some (seq, 0x08, p)
  | .stageEntry seq p => some (seq, 0x0A, p)
  | .clearStaged seq p => some (seq, 0x0B, p)
  | .readEntry seq p => some (seq, 0x0C, p)
  | .commit seq p => some (seq, 0x0D, p)
  | .withdraw seq p => some (seq, 0x0E, p)
  | .writeOutput seq p => some (seq, 0x0F, p)
  | .writeFallback seq p => some (seq, 0x10, p)
  | .publish seq p => some (seq, 0x11, p)
  | .setSupervision seq p => some (seq, 0x12, p)
  | .resume seq p => some (seq, 0x13, p)
  | .hold seq p => some (seq, 0x14, p)
  | .readImage seq p => some (seq, 0x15, p)
  | .readStatus seq p => some (seq, 0x16, p)
  | .release seq p => some (seq, 0x17, p)
  | .transact seq p => some (seq, 0x18, p)
  | .cancel seq p => some (seq, 0x19, p)
  | .readNode seq p => some (seq, 0x1A, p)
  | .forgetNode seq p => some (seq, 0x1B, p)
  | .fetch seq p => some (seq, 0x1C, p)
  | .duplicateReplay _ _ _ => none
  | .unknownKind seq kind p => some (seq, kind, p)
  | .frameReceived _ _ => none
  | .lengthNak _ _ => none
  | .partialFrameDiscard => none
  | .skipEnd => none
  | .replySent => none
  | .powerOn _ => none
  | .rstPin _ => none
  | .resetEnd => none
  | .firstFrameStart _ => none
  | .frameClose _ => none
  | .postClaims _ => none
  | .syncEnd _ => none
  | .trigEdge _ => none
  | .grant _ => none
  | .claimExpiry _ _ _ => none
  | .echoMismatch _ _ => none
  | .responseTimeout _ => none
  | .characterLimitExpiry _ => none
  | .responseComplete _ _ _ => none
  | .broadcastComplete _ => none
  | .sleepCommandStart _ => none
  | .sleepCommandEnd _ => none
  | .wakePulseEnd _ => none
  | .settleEnd _ => none
  | .nodeWake _ => none
  | .lineFault _ => none
  | .lineFaultRecovery _ => none
  | .acyclicTimeout _ => none
  | .supervisionExpiry => none
  | .responseCharacterReceived _ _ _ => none
  | .hostByteReceived _ _ => none

end Sys2Proof
end

