-- ==== Sys2Proof/Laws/PerInstr.lean ====
section
/-!
SUPPORT. One lemma for each command of the family Rows: a well-formed command that stands for a request is
the row the message controller takes that request as (R160, R167).
-/

namespace Sys2Proof.Laws.Rows

/-- A well-formed command that stands for a request is the row of that request. -/
def Statement (i : Instr) : Prop :=
  ∀ seq kind p, i.request = some (seq, kind, p) → i.wf = true → Machine.rowOf seq kind p = i

theorem query (seq : Byte) (payload : List Byte) : Statement (.query seq payload) := by
  intro s k p h _
  cases h
  rfl

theorem reset (seq : Byte) (payload : List Byte) : Statement (.reset seq payload) := by
  intro s k p h _
  cases h
  rfl

theorem configureLane (seq : Byte) (payload : List Byte) : Statement (.configureLane seq payload) := by
  intro s k p h _
  cases h
  rfl

theorem sleepLane (seq : Byte) (payload : List Byte) : Statement (.sleepLane seq payload) := by
  intro s k p h _
  cases h
  rfl

theorem wakeLane (seq : Byte) (payload : List Byte) : Statement (.wakeLane seq payload) := by
  intro s k p h _
  cases h
  rfl

theorem configureTimer (seq : Byte) (payload : List Byte) : Statement (.configureTimer seq payload) := by
  intro s k p h _
  cases h
  rfl

theorem start (seq : Byte) (payload : List Byte) : Statement (.start seq payload) := by
  intro s k p h _
  cases h
  rfl

theorem stopEnd (seq : Byte) (payload : List Byte) : Statement (.stopEnd seq payload) := by
  intro s k p h hw
  simp only [Instr.request, Option.some.injEq, Prod.mk.injEq] at h
  obtain ⟨rfl, rfl, rfl⟩ := h
  have hs : Machine.stopModeIs payload 1 = stopsNow payload := rfl
  simp_all [Instr.wf, Machine.rowOf]

theorem stopNow (seq : Byte) (payload : List Byte) : Statement (.stopNow seq payload) := by
  intro s k p h hw
  simp only [Instr.request, Option.some.injEq, Prod.mk.injEq] at h
  obtain ⟨rfl, rfl, rfl⟩ := h
  have hs : Machine.stopModeIs payload 1 = stopsNow payload := rfl
  simp_all [Instr.wf, Machine.rowOf]

theorem stageEntry (seq : Byte) (payload : List Byte) : Statement (.stageEntry seq payload) := by
  intro s k p h _
  cases h
  rfl

theorem clearStaged (seq : Byte) (payload : List Byte) : Statement (.clearStaged seq payload) := by
  intro s k p h _
  cases h
  rfl

theorem readEntry (seq : Byte) (payload : List Byte) : Statement (.readEntry seq payload) := by
  intro s k p h _
  cases h
  rfl

theorem commit (seq : Byte) (payload : List Byte) : Statement (.commit seq payload) := by
  intro s k p h _
  cases h
  rfl

theorem withdraw (seq : Byte) (payload : List Byte) : Statement (.withdraw seq payload) := by
  intro s k p h _
  cases h
  rfl

theorem writeOutput (seq : Byte) (payload : List Byte) : Statement (.writeOutput seq payload) := by
  intro s k p h _
  cases h
  rfl

theorem writeFallback (seq : Byte) (payload : List Byte) : Statement (.writeFallback seq payload) := by
  intro s k p h _
  cases h
  rfl

theorem publish (seq : Byte) (payload : List Byte) : Statement (.publish seq payload) := by
  intro s k p h _
  cases h
  rfl

theorem setSupervision (seq : Byte) (payload : List Byte) : Statement (.setSupervision seq payload) := by
  intro s k p h _
  cases h
  rfl

theorem resume (seq : Byte) (payload : List Byte) : Statement (.resume seq payload) := by
  intro s k p h _
  cases h
  rfl

theorem hold (seq : Byte) (payload : List Byte) : Statement (.hold seq payload) := by
  intro s k p h _
  cases h
  rfl

theorem readImage (seq : Byte) (payload : List Byte) : Statement (.readImage seq payload) := by
  intro s k p h _
  cases h
  rfl

theorem readStatus (seq : Byte) (payload : List Byte) : Statement (.readStatus seq payload) := by
  intro s k p h _
  cases h
  rfl

theorem release (seq : Byte) (payload : List Byte) : Statement (.release seq payload) := by
  intro s k p h _
  cases h
  rfl

theorem transact (seq : Byte) (payload : List Byte) : Statement (.transact seq payload) := by
  intro s k p h _
  cases h
  rfl

theorem cancel (seq : Byte) (payload : List Byte) : Statement (.cancel seq payload) := by
  intro s k p h _
  cases h
  rfl

theorem readNode (seq : Byte) (payload : List Byte) : Statement (.readNode seq payload) := by
  intro s k p h _
  cases h
  rfl

theorem forgetNode (seq : Byte) (payload : List Byte) : Statement (.forgetNode seq payload) := by
  intro s k p h _
  cases h
  rfl

theorem fetch (seq : Byte) (payload : List Byte) : Statement (.fetch seq payload) := by
  intro s k p h _
  cases h
  rfl

theorem duplicateReplay (seq : Byte) (kind : Byte) (payload : List Byte) : Statement (.duplicateReplay seq kind payload) := by
  intro s k p h
  cases h

theorem unknownKind (seq : Byte) (kind : Byte) (payload : List Byte) : Statement (.unknownKind seq kind payload) := by
  intro s k p h hw
  simp only [Instr.request, Option.some.injEq, Prod.mk.injEq] at h
  obtain ⟨rfl, rfl, rfl⟩ := h
  simp only [Instr.wf, Machine.isRequestKind, Bool.and_eq_true, Bool.not_eq_true', Bool.and_eq_false_iff,
    decide_eq_false_iff_not] at hw
  unfold Machine.rowOf
  split <;> first | rfl | (exfalso; omega)

theorem frameReceived (byte : Byte) (mark : Bool) : Statement (.frameReceived byte mark) := by
  intro s k p h
  cases h

theorem lengthNak (byte : Byte) (mark : Bool) : Statement (.lengthNak byte mark) := by
  intro s k p h
  cases h

theorem partialFrameDiscard : Statement .partialFrameDiscard := by
  intro s k p h
  cases h

theorem skipEnd : Statement .skipEnd := by
  intro s k p h
  cases h

theorem replySent : Statement .replySent := by
  intro s k p h
  cases h

theorem powerOn (good : Bool) : Statement (.powerOn good) := by
  intro s k p h
  cases h

theorem rstPin (asserted : Bool) : Statement (.rstPin asserted) := by
  intro s k p h
  cases h

theorem resetEnd : Statement .resetEnd := by
  intro s k p h
  cases h

theorem firstFrameStart (t : TimerId) : Statement (.firstFrameStart t) := by
  intro s k p h
  cases h

theorem frameClose (t : TimerId) : Statement (.frameClose t) := by
  intro s k p h
  cases h

theorem postClaims (t : TimerId) : Statement (.postClaims t) := by
  intro s k p h
  cases h

theorem syncEnd (t : TimerId) : Statement (.syncEnd t) := by
  intro s k p h
  cases h

theorem trigEdge (t : TimerId) : Statement (.trigEdge t) := by
  intro s k p h
  cases h

theorem grant (l : LaneId) : Statement (.grant l) := by
  intro s k p h
  cases h

theorem claimExpiry (l : LaneId) (t : TimerId) (position : Nat) : Statement (.claimExpiry l t position) := by
  intro s k p h
  cases h

theorem echoMismatch (l : LaneId) (echo : Option (Byte × Bool)) : Statement (.echoMismatch l echo) := by
  intro s k p h
  cases h

theorem responseTimeout (l : LaneId) : Statement (.responseTimeout l) := by
  intro s k p h
  cases h

theorem characterLimitExpiry (l : LaneId) : Statement (.characterLimitExpiry l) := by
  intro s k p h
  cases h

theorem responseComplete (l : LaneId) (byte : Byte) (mark : Bool) : Statement (.responseComplete l byte mark) := by
  intro s k p h
  cases h

theorem broadcastComplete (l : LaneId) : Statement (.broadcastComplete l) := by
  intro s k p h
  cases h

theorem sleepCommandStart (l : LaneId) : Statement (.sleepCommandStart l) := by
  intro s k p h
  cases h

theorem sleepCommandEnd (l : LaneId) : Statement (.sleepCommandEnd l) := by
  intro s k p h
  cases h

theorem wakePulseEnd (l : LaneId) : Statement (.wakePulseEnd l) := by
  intro s k p h
  cases h

theorem settleEnd (l : LaneId) : Statement (.settleEnd l) := by
  intro s k p h
  cases h

theorem nodeWake (l : LaneId) : Statement (.nodeWake l) := by
  intro s k p h
  cases h

theorem lineFault (l : LaneId) : Statement (.lineFault l) := by
  intro s k p h
  cases h

theorem lineFaultRecovery (l : LaneId) : Statement (.lineFaultRecovery l) := by
  intro s k p h
  cases h

theorem acyclicTimeout (tag : Half) : Statement (.acyclicTimeout tag) := by
  intro s k p h
  cases h

theorem supervisionExpiry : Statement .supervisionExpiry := by
  intro s k p h
  cases h

theorem responseCharacterReceived (l : LaneId) (byte : Byte) (mark : Bool) : Statement (.responseCharacterReceived l byte mark) := by
  intro s k p h
  cases h

theorem hostByteReceived (byte : Byte) (mark : Bool) : Statement (.hostByteReceived byte mark) := by
  intro s k p h
  cases h

end Sys2Proof.Laws.Rows
end

