-- ==== Sys2Proof/Tests/Slice0.lean ====
section
/-!
SUPPORT. Tests: the vectors and tables of spec/, refusals of ill-formed commands, one or two small steps for
each command with the results its rule gives, and for each statement with hypotheses a witness that meets them.
-/

namespace Sys2Proof.Tests

open Sys2Proof Sys2Proof.Machine

set_option maxRecDepth 20000

/-! ### Small states -/

/-- The state after a command; the state as it was where there is none. -/
def after (c : Instr) (s : State) : State :=
  match exec c s with
  | .next t => t
  | _ => s

/-- The machine after a power-on reset. -/
def base : State := State.reset

/-- A state with one request waiting. -/
def asking (s : State) (seq kind : Byte) (p : List Byte) : State :=
  { s with link := { s.link with requests := [requestOf seq kind p] } }

/-- The state after a request of a row has been taken. -/
def asked (c : Instr) (s : State) : State :=
  match c.request with
  | some (seq, kind, p) => after c (asking s seq kind p)
  | none => s

/-- The payload of the newest reply. -/
def said (s : State) : List Byte := (s.link.replies.getLast?.map Reply.payload).getD []

/-- Timer A in a state, the rest as after reset. -/
def timerIn (m : TimerMode) : State := base.onTimer .a fun x => { x with mode := m, run := 1 }

/-- Timer A in a state with buffer 1 FILLING its present frame. -/
def filling (m : TimerMode) : State :=
  (timerIn m).onBuffer .a .b1 fun b => { b with mode := .filling, run := 1 }

/-- Buffer 0 of timer A in one state and buffer 2 in another. -/
def bufs (s : State) (m0 m2 : BufMode) : State :=
  (s.onBuffer .a .b0 fun b => { b with mode := m0, run := 1, frame := 7 }).onBuffer .a .b2 fun b =>
    { b with mode := m2, run := 1, frame := 6 }

/-- A receiver that has last seen a recessive line. -/
def idleReceiver : Receiver := { Receiver.reset with last := .recessive }

/-- Lane 0 at 1000 kbit/s in a state, its line quiet for one gap. -/
def laneIn (m : LaneMode) : State :=
  base.onLane .l0 fun x =>
    { x with config := { x.config with rate := .k1000 }, mode := m, rx := idleReceiver, quiet := 2 * 20 }

/-- A READ of 4 bytes from node 1 on lane 0, with retry. -/
def entry : ScanEntry :=
  { lane := .l0, node := 1, op := .read, round := 0, startTick := 0, slack := 100, n := 0, outOffset := 0
    m := 4, resOffset := 0, phase := .every, retry := true }

/-- A state whose timer A has that entry at position 0 of its active table. -/
def scanning (s : State) : State := s.onTables .a fun x => { x with active := x.active.set 0 (some entry) }

/-- The cyclic claim of that position in run 1, frame 0. -/
def claim : CyclicClaim :=
  { timer := .a, run := 1, frame := 0, position := 0, deadline := 100, attempt := .first }

/-- The transaction of that claim, so many µs after its grant, the last response character ended at 60 µs. -/
def flight (us : Nat) (received : List (Byte × Bool)) : InFlight :=
  { claim := .cyclic claim, node := 1, op := .read, m := 4, request := [], orphan := false
    elapsed := 2 * us, received := received, lastEnd := 2 * 60 }

/-- Lane 0 BUSY with a transaction. -/
def busy (f : InFlight) : State :=
  (scanning (laneIn .busy)).onLane .l0 fun x => { x with inFlight := some f }

/-- The receiver of lane 0 has completed a character at the present moment. -/
def hearing (c : Byte × Bool) (s : State) : State := s.onLane .l0 fun x => { x with rx := { x.rx with done := some c } }

/-- An acyclic entry with tag 5 for node 0 of lane 0, in flight or not. -/
def queued (inFlight : Bool) (s : State) : State :=
  let e : AcyclicEntry :=
    { tag := 5, lane := .l0, node := 0, op := .write, request := [9], m := 0, timeout := 1, retry := false
      acceptedAt := 0, inFlight := inFlight, attempt := .first, runOut := false }
  State.onLane { s with acyclic := [e] } .l0 fun x =>
    { x with claims := if inFlight then [] else [.acyclic 5 .first] }

/-- A host supervisor in a state with period 10 ms. -/
def supervised (m : SupMode) (remaining : Nat) (s : State) : State :=
  { s with supervisor := { mode := m, period := 10, remaining := remaining } }

/-! ### Vectors and tables of spec/ (11_formats.md 11.6, 02_scan_tables_and_commit.md 2.3.1 and 2.4) -/

/-- The nine digits used as a check input. -/
def digits : List Byte := [0x31, 0x32, 0x33, 0x34, 0x35, 0x36, 0x37, 0x38, 0x39]

theorem test_crc8_digits : crc8 0 digits = 0xF4 := by decide
theorem test_crc16_digits : crc16 digits = 0x29B1 := by decide
theorem test_command_frame : commandFrame (headerByte 1 Op.read.code) 1 [] = [0x01, 0x00, 0x01, 0x6C] := by decide
theorem test_response_ok :
    judgeResponse 1 0x6C [(0x01, false), (0x5A, false), (0x9D, false)] = (.ok, [0x5A]) := by decide
theorem test_response_other_check :
    judgeResponse 1 0x00 [(0x01, false), (0x5A, false), (0x9D, false)] = (.check, []) := by decide
theorem test_sleep_header : sleepFrame.head? = some 0x30 := by decide
theorem test_phase_table :
    Phase.meets .even .odd = false ∧ Phase.meets .even (.nth 4 2) = true ∧ Phase.meets .odd (.nth 4 2) = false ∧
    Phase.meets (.nth 4 1) (.nth 6 3) = true ∧ Phase.meets (.nth 4 1) (.nth 6 2) = false ∧
    Phase.meets (.nth 3 0) (.nth 5 4) = true ∧ Phase.meets (.nth 8 3) (.nth 16 11) = true ∧
    Phase.meets (.nth 8 3) (.nth 16 5) = false := by decide

/-! ### Ill-formed commands -/

/-- A payload one byte longer than a host frame carries. -/
def tooLong : List Byte := List.replicate 251 0

theorem test_wf_refuses_long_payload :
    ([.query 0 tooLong, .reset 0 tooLong, .configureLane 0 tooLong, .sleepLane 0 tooLong, .wakeLane 0 tooLong,
      .configureTimer 0 tooLong, .start 0 tooLong, .stopEnd 0 tooLong, .stopNow 0 tooLong, .stageEntry 0 tooLong,
      .clearStaged 0 tooLong, .readEntry 0 tooLong, .commit 0 tooLong, .withdraw 0 tooLong,
      .writeOutput 0 tooLong, .writeFallback 0 tooLong, .publish 0 tooLong, .setSupervision 0 tooLong,
      .resume 0 tooLong, .hold 0 tooLong, .readImage 0 tooLong, .readStatus 0 tooLong, .release 0 tooLong,
      .transact 0 tooLong, .cancel 0 tooLong, .readNode 0 tooLong, .forgetNode 0 tooLong, .fetch 0 tooLong,
      .duplicateReplay 0 1 tooLong, .unknownKind 0 0 tooLong] : List Instr).all (fun c => !c.wf) = true := by decide
theorem test_wf_takes_longest_payload : (Instr.writeOutput 0 (List.replicate 250 0)).wf = true := by decide
theorem test_wf_refuses_stop_of_other_mode :
    (Instr.stopEnd 0 [0, 1]).wf = false ∧ (Instr.stopNow 0 [0, 0]).wf = false ∧
    (Instr.stopEnd 0 [0, 0]).wf = true ∧ (Instr.stopNow 0 [0, 1]).wf = true := by decide
theorem test_wf_refuses_known_kind :
    (Instr.unknownKind 0 0x01 []).wf = false ∧ (Instr.unknownKind 0 0x1C []).wf = false ∧
    (Instr.unknownKind 0 0x09 []).wf = true ∧ (Instr.unknownKind 0 0x1D []).wf = true := by decide
theorem test_wf_refuses_position_64 :
    (Instr.claimExpiry .l0 .a 64).wf = false ∧ (Instr.claimExpiry .l0 .a 63).wf = true := by decide

/-! ### One step of each command -/

-- The QUERY reply is 49 bytes; one record is held after a reset (R143, R169).
theorem test_query : (said (asked (.query 7 []) base)).length = 49 ∧ (said (asked (.query 7 []) base))[39]? = some 1 := by
  decide
/-- A state in which a QUERY with sequence 6 was the last request taken. -/
def queried : State := asked (.query 6 []) base

-- RESET stops the taking of requests and is no last-taken request (R164).
theorem test_reset :
    (asked (.reset 7 []) base).link.takingStopped = true ∧ (asked (.reset 7 []) base).link.lastTaken = none := by
  decide
-- A RESET with a payload is BAD_ARG and leaves the last-taken record as it was too (R160).
theorem test_reset_with_payload :
    said (asked (.reset 7 [0]) queried) = [0x11, 0] ∧
    (asked (.reset 7 [0]) queried).link.lastTaken = queried.link.lastTaken ∧
    (asked (.reset 7 [0]) queried).link.takingStopped = false := by decide
-- DISABLED with a rate set becomes READY (R64).
theorem test_configure_lane :
    ((asked (.configureLane 7 [0, 4, 100, 0, 3, 8]) base).lane .l0).mode = .ready ∧
    said (asked (.configureLane 7 [0, 4, 19, 0, 3, 8]) base) = [0x11, 0] := by decide
-- The receiver observes a line on through CONFIGURE_LANE at the same rate: a line stuck dominant shows no start edge, and
-- a character in reception stays so (R47, R64, R86).
theorem test_configure_lane_observes_on :
    let stuck : Receiver := { last := .dominant, reception := none, done := none }
    let begun : Receiver := { stuck with reception := some { since := 20, data := 0, mark := false } }
    let after := fun rx =>
      (asked (.configureLane 7 [0, 4, 100, 0, 3, 8]) ((laneIn .lineFault).onLane .l0 fun x => { x with rx := rx })).lane .l0
    (after stuck).mode = .lineFault ∧ ((after stuck).halfTick .dominant).rx.reception = none ∧ (after begun).rx = begun := by
  decide
-- READY enters SLEEPING; WAKING answers BUSY (R81).
theorem test_sleep_lane :
    ((asked (.sleepLane 7 [0]) (laneIn .ready)).lane .l0).mode = .sleeping ∧
    said (asked (.sleepLane 7 [0]) (laneIn .waking)) = [0x10, 0] := by decide
-- ASLEEP starts the pulse of 200 µs; LINE_FAULT answers BAD_STATE (R83, R84).
theorem test_wake_lane :
    ((asked (.wakeLane 7 [0]) (laneIn .asleep)).lane .l0).wake = some (.pulse (2 * 200)) ∧
    said (asked (.wakeLane 7 [0]) (laneIn .lineFault)) = [0x12, 0] := by decide
-- TPR is the two bytes after the timer, least significant first; TPR 49 is BAD_ARG (R1, R10, R168).
theorem test_configure_timer :
    ((asked (.configureTimer 7 [1, 0xE8, 0x03, 0, 0, 0xE8, 0x03, 1, 0, 0, 0, 0, 0, 0]) base).timer .b).config.tpr = 1000 ∧
    said (asked (.configureTimer 7 [1, 49, 0, 0, 0, 49, 0, 1, 0, 0, 0, 0, 0, 0]) base) = [0x11, 0] := by decide
-- START in STOPPED: ARMED, run 1; in RUNNING BAD_STATE (R11).
theorem test_start :
    ((asked (.start 7 [0]) base).timer .a).mode = .armed ∧ ((asked (.start 7 [0]) base).timer .a).run = 1 ∧
    said (asked (.start 7 [0]) (timerIn .running)) = [0x12, 0] := by decide
-- RUNNING becomes DRAINING (R12).
theorem test_stop_end : ((asked (.stopEnd 7 [0, 0]) (filling .running)).timer .a).mode = .draining := by decide
-- RUNNING stops, its FILLING buffer becomes FREE (R13, R110).
theorem test_stop_now :
    ((asked (.stopNow 7 [0, 1]) (filling .running)).timer .a).mode = .stopped ∧
    ((asked (.stopNow 7 [0, 1]) (filling .running)).buffers .a).b1.mode = .free := by decide
-- Position 63 takes the entry; a frozen table answers PENDING (R38).
theorem test_stage_entry :
    ((asked (.stageEntry 7 ([0, 63, 2] ++ entry.bytes)) base).table .a).staged[63]? = some (some entry) ∧
    said (asked (.stageEntry 7 ([0, 63, 2] ++ entry.bytes))
      (base.onTables .a fun x => { x with frozen := true })) = [0x16, 0] := by decide
-- All positions become empty (R39).
theorem test_clear_staged :
    ((asked (.clearStaged 7 [0]) (base.onTables .a fun x => { x with staged := x.staged.set 5 (some entry) })).table
      .a).staged = List.replicate 64 none := by decide
-- An empty position of the active table: flags 1, block of zeros, 20 bytes in all (R40, R169).
theorem test_read_entry : said (asked (.readEntry 7 [0, 1, 0]) base) = [0, 0, 1] ++ List.replicate 17 0 := by decide
-- The staged table of a STOPPED timer is copied; an entry on a DISABLED lane is INVALID, cause LANE (R28, R29).
theorem test_commit :
    said (asked (.commit 7 [0]) base) = [0x00, 0] ∧
    said (asked (.commit 7 [0]) (base.onTables .a fun x => { x with staged := x.staged.set 5 (some entry) })) =
      [0x1D, 0, 5, 1] := by decide
-- Nothing pending: NONE (R37).
theorem test_withdraw : said (asked (.withdraw 7 [0]) base) = [0x14, 0] := by decide
-- Bytes land from the offset on; offset 511 with two bytes is BAD_ARG (R119).
theorem test_write_output :
    ((asked (.writeOutput 7 [0, 2, 0, 2, 0xAA, 0xBB]) base).output .a).staged.read 3 = 0xBB ∧
    said (asked (.writeOutput 7 [0, 0xFF, 0x01, 2, 0xAA, 0xBB]) base) = [0x11, 0] := by decide
-- The fallback is armed (R120).
theorem test_write_fallback :
    ((asked (.writeFallback 7 [0, 0xFF, 0x01, 1, 0xAA]) base).output .a).armed = true ∧
    ((asked (.writeFallback 7 [0, 0xFF, 0x01, 1, 0xAA]) base).output .a).fallback.read 511 = 0xAA := by decide
-- RUNNING: PENDING_ACCEPTED; EXPIRED: HOST_LOST (R121).
theorem test_publish :
    said (asked (.publish 7 [0]) (timerIn .running)) = [0x02, 0] ∧
    said (asked (.publish 7 [0]) (supervised .expired 0 base)) = [0x1B, 0] := by decide
-- 10 ms arms with 10,000 µs; 9 ms is BAD_ARG (R126).
theorem test_set_supervision :
    (asked (.setSupervision 7 [10, 0]) base).supervisor.remaining = 10000 ∧
    said (asked (.setSupervision 7 [9, 0]) base) = [0x11, 0] := by decide
-- EXPIRED becomes ARMED at its period; otherwise NONE (R130).
theorem test_resume :
    (asked (.resume 7 []) (supervised .expired 0 base)).supervisor = { mode := .armed, period := 10, remaining := 10000 } ∧
    said (asked (.resume 7 []) base) = [0x14, 0] := by decide
-- READY becomes HELD and the older HELD one FREE; with no READY one NO_NEWER, 8 bytes (R111, R169).
theorem test_hold :
    ((asked (.hold 7 [0]) (bufs base .ready .held)).buffers .a).b0.mode = .held ∧
    ((asked (.hold 7 [0]) (bufs base .ready .held)).buffers .a).b2.mode = .free ∧
    said (asked (.hold 7 [0]) (bufs base .free .held)) = [0x15, 0, 1, 0, 6, 0, 0, 0] := by decide
-- 9 + length bytes; a range past 1024 is BAD_ARG (R114, R169).
theorem test_read_image :
    said (asked (.readImage 7 [0, 0xFE, 0x03, 2]) (bufs base .free .held)) = [0, 0, 1, 0, 6, 0, 0, 0, 2, 0, 0] ∧
    said (asked (.readImage 7 [0, 0xFF, 0x03, 2]) (bufs base .free .held)) = [0x11, 0] := by decide
-- Elements of outcome, attempts, age (R115, R169).
theorem test_read_status :
    said (asked (.readStatus 7 [0, 63, 1]) (bufs base .free .held)) = [0, 0, 1, 0, 6, 0, 0, 0, 63, 1, 13, 0, 255] ∧
    said (asked (.readStatus 7 [0, 0, 1]) base) = [0x14, 0] := by decide
-- HELD becomes FREE; with none, NONE (R116).
theorem test_release :
    ((asked (.release 7 [0]) (bufs base .free .held)).buffers .a).b2.mode = .free ∧
    said (asked (.release 7 [0]) base) = [0x14, 0] := by decide
-- A WRITE of one byte to node 1 on a READY lane is ACCEPTED and its claim waits (R133).
theorem test_transact :
    ((asked (.transact 7 [5, 0, 0, 1, 1, 1, 0, 1, 0, 0, 0xAA]) (laneIn .ready)).lane .l0).claims = [.acyclic 5 .first] ∧
    said (asked (.transact 7 [5, 0, 0, 1, 1, 1, 0, 1, 0, 0, 0xAA]) (laneIn .asleep)) = [0x1A, 0] := by decide
-- A WAITING entry leaves the table; an entry IN_FLIGHT refuses (R138).
theorem test_cancel :
    (asked (.cancel 7 [5, 0]) (queued false base)).acyclic = [] ∧
    said (asked (.cancel 7 [5, 0]) (queued true base)) = [0x19, 0] := by decide
-- An ABSENT record: absent fields as 0 and 0xFF, then the reset limits 3 and 8 (R87, R96, R169).
theorem test_read_node :
    said (asked (.readNode 7 [0, 1]) base) = [0, 0, 0, 0, 0, 0xFF, 0, 0, 0, 0, 0, 3, 8] ∧
    said (asked (.readNode 7 [0, 0]) base) = [0x11, 0] := by decide
-- The record becomes ABSENT (R95).
theorem test_forget_node :
    ((asked (.forgetNode 7 [3, 15]) (base.setNode .l3 15 { NodeRecord.reset with mode := .online })).node .l3 15).mode =
      .absent := by decide
-- RESTARTED with cause POWER: length 8, kind 1, number 0, time 0; then the list is empty (R148, R170).
theorem test_fetch :
    said (asked (.fetch 7 [4]) base) = [0, 0, 0, 1, 8, 0x01, 0, 0, 0, 0, 0, 0, 0] ∧
    (asked (.fetch 7 [4]) base).atnLow = false := by decide

/-- A state in which the QUERY with sequence 7 has just been taken and has come in again. -/
def repeated : State :=
  { asking base 7 0x01 [] with
    link := { (asking base 7 0x01 []).link with
      lastTaken := some { seq := 7, crc := (requestOf 7 0x01 []).crc
                          reply := { seq := 7, kind := 0x01, payload := [0x10, 0x00] } } } }

-- The stored reply comes again with REPLAY set (R161).
theorem test_duplicate_replay :
    said (after (.duplicateReplay 7 0x01 []) repeated) = [0x10, 0x01] := by decide
-- Kind 0x09 is unassigned: KIND (R160).
theorem test_unknown_kind : said (asked (.unknownKind 7 0x09 []) base) = [0x1E, 0] := by decide

/-- The receive side one byte before the end of a QUERY frame with sequence 7. -/
def almostIn (s : State) : State :=
  { s with link := { s.link with
      rx := .crc, got := [0, 0, 7, 1] ++ (bytes2 (crc16 [0, 0, 7, 1]).toNat).take 1 } }

/-- The second CRC byte of that frame. -/
def lastByte : Byte := (bytes2 (crc16 [0, 0, 7, 1]).toNat).getLastD 0

-- A good frame is stored; a framing mark gives NAK CHECK, code 1 (R156, R166).
theorem test_frame_received :
    (after (.frameReceived lastByte false) (almostIn base)).link.requests = [requestOf 7 1 []] ∧
    said (after (.frameReceived lastByte true) (almostIn base)) = [1] := by decide

/-- The receive side at the sequence byte of a frame of 251 payload bytes. -/
def overlong : State := { base with link := { base.link with rx := .sequence, got := [251, 0] } }

-- NAK LENGTH, code 2, and SKIP (R157, R166).
theorem test_length_nak :
    said (after (.lengthNak 7 false) overlong) = [2] ∧ (after (.lengthNak 7 false) overlong).link.rx = .skip := by
  decide
/-- The receive side in a state, so many half µs after the last character, a character in reception on RXD or not. -/
def gapped (rx : RxMode) (gap : Nat) (busy : Bool) : State :=
  { base with link := { base.link with rx := rx, gap := gap }, pins := { base.pins with rxdBusy := busy } }

-- A gap of 1000 µs is within the limit; one of 1001 µs is not, with a start edge at its end too (R155).
theorem test_partial_frame_discard :
    (after .partialFrameDiscard (gapped .kind (2 * 1000) false)).link.rx = .kind ∧
    (after .partialFrameDiscard (gapped .kind (2 * 1001) false)).link.rx = .hunt ∧
    (after .partialFrameDiscard (gapped .kind (2 * 1001) true)).link.rx = .hunt := by decide
-- The gap ends at the start edge of the next character (R155).
theorem test_gap_ends_at_start_edge :
    (gapped .kind (2 * 1000) true).pass.link.gap = 2 * 1000 ∧ (gapped .kind (2 * 1000) false).pass.link.gap = 2 * 1000 + 1 := by
  decide
-- 1 ms without a start edge ends SKIP (R157).
theorem test_skip_end :
    (after .skipEnd (gapped .skip (2 * 1000) false)).link.rx = .hunt ∧
    (after .skipEnd (gapped .skip (2 * 999) false)).link.rx = .skip := by decide

/-- A state in which a reply of two payload bytes has been sending for `us` µs at 115,200 bit/s. -/
def sending (kind : Byte) (us : Nat) : State :=
  { base with link := { base.link with
      replies := [{ seq := 7, kind := kind, payload := [0, 0] }], sending := 2 * us * 115200 } }

-- Nine characters of ten bits at 115,200 bit/s take 781.25 µs (R153, R162).
theorem test_reply_sent :
    (after .replySent (sending 0x01 782)).link.replies = [] ∧
    (after .replySent (sending 0x01 781)).link.replies.length = 1 ∧
    (after .replySent (sending 0x02 782)).resetting = some { cause := .request, left := 5000 } := by decide
-- A reply that follows another begins without a pause: of 782 µs at 115,200 bit/s, 0.75 µs are its own (R162).
theorem test_next_reply_without_pause :
    (after .replySent { sending 0x01 782 with
      link := { (sending 0x01 782).link with replies := (sending 0x01 782).link.replies ++ (sending 0x01 0).link.replies } }).link.sending =
      (2 * 782 * 115200 - 90 * 2000000) ∧ (2 * 782 * 115200 - 90 * 2000000) * 1000 / (2 * 115200) = 750 := by decide
-- A power-on reset of 5 ms (R165).
theorem test_power_on : (after (.powerOn true) base).resetting = some { cause := .power, left := 5000 } := by decide
-- RST releases ATN and gives cause PIN (R143, R152).
theorem test_rst_pin :
    (after (.rstPin true) base).atnLow = false ∧
    (after (.rstPin true) base).resetting = some { cause := .pin, left := 5000 } := by decide
-- RESTARTED is number 0 (R143, R165).
theorem test_reset_end :
    (after .resetEnd { after (.powerOn true) base with resetting := some { cause := .pin, left := 0 } }).notes.records =
      [{ number := 0, time := 0, body := .restarted .pin }] := by decide
-- The lowest FREE buffer becomes FILLING (R102).
theorem test_first_frame_start :
    ((after (.firstFrameStart .a) ((timerIn .armed).onTimer .a fun x => { x with firstDue := true })).buffers .a).b0.mode =
      .filling := by decide
-- FILLING becomes READY, the next frame number is one more (R14, R17, R106).
theorem test_frame_close :
    ((after (.frameClose .a) ((filling .running).onTimer .a fun x => { x with closeDue := true })).timer .a).frame = 1 ∧
    ((after (.frameClose .a) ((filling .running).onTimer .a fun x => { x with closeDue := true })).buffers .a).b1.mode =
      .ready := by decide
-- The claim carries the deadline T0 + start tick + slack (R20).
theorem test_post_claims :
    ((after (.postClaims .a) { scanning (laneIn .ready) with timers := (filling .running).timers }).lane .l0).claims =
      [.cyclic claim] := by decide
-- SYNC goes low at tick W (R7).
theorem test_sync_end :
    ((after (.syncEnd .a) ((filling .running).onTimer .a fun x =>
      { x with sync := true, tick := 5, config := { x.config with w := 5 } })).timer .a).sync = false := by decide
-- A missed trigger counts (R9).
theorem test_trig_edge :
    ((after (.trigEdge .a) ((filling .running).onTimer .a fun x =>
      { x with config := { x.config with startMode := .triggerEach } })).timer .a).missed = 1 := by decide
-- The head claim goes on the wire (R70, R73).
theorem test_grant :
    ((after (.grant .l0) ((scanning (laneIn .ready)).onLane .l0 fun x => { x with claims := [.cyclic claim] })).lane
      .l0).mode = .busy := by decide
-- LATE at the first tick after the deadline (R72).
theorem test_claim_expiry :
    ((after (.claimExpiry .l0 .a 0) { (laneIn .ready).onLane .l0 (fun x => { x with claims := [.cyclic claim] }) with
      time := 101 }).lane .l0).claims = [] ∧
    ((after (.claimExpiry .l0 .a 0) { (laneIn .ready).onLane .l0 (fun x => { x with claims := [.cyclic claim] }) with
      time := 100 }).lane .l0).claims = [.cyclic claim] := by decide
-- The header 0x01 echoed as 0x00 ends the attempt with ECHO; the entry has retry (R51, R76).
theorem test_echo_mismatch :
    ((after (.echoMismatch .l0 (some (0x00, false))) (hearing (0x00, false) (busy (flight 10 [])))).lane .l0).claims =
      [.cyclic { claim with attempt := .retry .echo }] ∧
    ((after (.echoMismatch .l0 (some (0x01, false))) (hearing (0x01, false) (busy (flight 10 [])))).lane .l0).mode = .busy := by decide
-- RT of 100 µs runs out 140 µs after the grant of a command of four characters (R52).
theorem test_response_timeout :
    ((after (.responseTimeout .l0) (busy (flight 140 []))).lane .l0).mode = .ready ∧
    ((after (.responseTimeout .l0) (busy (flight 139 []))).lane .l0).mode = .busy := by decide
-- RT has run out with an edge at its end; half a tick later, at its half-bit sample, the line is recessive: NO_RESPONSE
-- is decided then, at the middle of the tick (R52).
theorem test_response_timeout_at_sample :
    let s := busy (flight 140 [])
    let dominant := { s with pins := { s.pins with lines := { s.pins.lines with l0 := .dominant } } }
    due dominant = none ∧ due { dominant.pass with pins := s.pins } = some (.responseTimeout .l0) := by decide
-- The character limit is 30 µs after the last character (R53).
theorem test_character_limit_expiry :
    ((after (.characterLimitExpiry .l0) (busy (flight 90 [(0x01, false)]))).lane .l0).mode = .ready ∧
    ((after (.characterLimitExpiry .l0) (busy (flight 89 [(0x01, false)]))).lane .l0).mode = .busy := by decide
-- A character before the last is taken in (R52).
theorem test_response_character_received :
    ((after (.responseCharacterReceived .l0 0x01 false) (hearing (0x01, false) (busy (flight 60 [])))).lane .l0).inFlight.map
      InFlight.received = some [(0x01, false)] := by decide
-- The response of the spec's vector, with m 1: OK, the roster record ONLINE (R54, R89).
theorem test_response_complete :
    ((after (.responseComplete .l0 0x9D false)
      (hearing (0x9D, false) (busy { flight 70 [(0x01, false), (0x5A, false)] with m := 1 }))).node .l0 1).lastOutcome =
      some .ok := by decide
-- A broadcast of one byte ends after five characters (R56).
theorem test_broadcast_complete :
    ((after (.broadcastComplete .l0)
      (busy { flight 51 [] with node := 0, request := [9] })).lane .l0).mode = .ready ∧
    ((after (.broadcastComplete .l0) (busy { flight 49 [] with node := 0, request := [9] })).lane .l0).mode = .busy := by
  decide
-- 0x6C, the check byte of the spec's command vector, on the line at 250 kbit/s: start bit, 0 0 1 1 0 1 1 0, stop bit
-- (R45, R46); the receiver takes it from the line as it is (R47).
theorem test_character_on_line :
    (List.range 10).map (characterLevel 0x6C) =
      [.dominant, .dominant, .dominant, .recessive, .recessive, .dominant, .recessive, .recessive, .dominant, .recessive] ∧
    (idleReceiver.run Rate.k250.bitHalves ((List.range 80).map fun i => characterLevel 0x6C (i / 8))).done =
      some (0x6C, false) := by decide
-- At 125 kbit/s 4 µs of dominant line are a glitch, 5 µs begin a character; at 1000 kbit/s half a µs is a glitch, and a
-- whole one begins a character (R46, R47).
theorem test_glitch :
    (idleReceiver.run Rate.k125.bitHalves (List.replicate 8 .dominant ++ [.recessive])).reception = none ∧
    (idleReceiver.run Rate.k125.bitHalves (List.replicate 10 .dominant)).reception.isSome = true ∧
    (idleReceiver.run Rate.k1000.bitHalves [.dominant, .recessive]).reception = none ∧
    (idleReceiver.run Rate.k1000.bitHalves [.dominant, .dominant]).reception.isSome = true := by decide

/-- Lane 0 SLEEPING with a progress, its line quiet for one gap. -/
def sleepingWith (p : SleepProgress) (wakePending : Bool) : State :=
  (laneIn .sleeping).onLane .l0 fun x => { x with sleep := some p, wakePending := wakePending }

/-- Lane 0 WAKING with a progress. -/
def wakingWith (p : WakeProgress) : State := (laneIn .waking).onLane .l0 fun x => { x with wake := some p }

-- The SLEEP command begins on a quiet line (R82).
theorem test_sleep_command_start :
    ((after (.sleepCommandStart .l0) (sleepingWith .waiting false)).lane .l0).sleep = some (.command 0 false) := by
  decide
-- ASLEEP 6 byte times after the command began, not before (R58).
theorem test_sleep_command_end :
    ((after (.sleepCommandEnd .l0) (sleepingWith (.command (2 * 60) false) false)).lane .l0).mode = .asleep ∧
    ((after (.sleepCommandEnd .l0) (sleepingWith (.command (2 * 59) false) false)).lane .l0).mode = .sleeping := by decide
-- After the pulse 2 ms of settling remain (R59).
theorem test_wake_pulse_end :
    ((after (.wakePulseEnd .l0) (wakingWith (.pulse 0))).lane .l0).wake = some (.settle (2 * 2000)) := by decide
-- Half a tick passes, and with the second half the tick: then alone device time goes on.
theorem test_half_ticks :
    (base.pass.half, base.pass.time) = (true, 0) ∧ (base.pass.pass.half, base.pass.pass.time) = (false, 1) := by decide
-- READY after the settle time (R84).
theorem test_settle_end : ((after (.settleEnd .l0) (wakingWith (.settle 0))).lane .l0).mode = .ready := by decide
-- 100 µs of dominant line wake an ASLEEP lane (R60).
theorem test_node_wake :
    ((after (.nodeWake .l0) ((laneIn .asleep).onLane .l0 fun x => { x with dominant := 2 * 100 })).lane .l0).mode = .waking ∧
    ((after (.nodeWake .l0) ((laneIn .asleep).onLane .l0 fun x => { x with dominant := 2 * 99 })).lane .l0).mode = .asleep := by
  decide
-- 100 µs of dominant line wake the lane wherever in a tick they begin: the last half tick, at the middle of a tick
-- (R48, R60).
theorem test_node_wake_off_the_tick :
    let s := (laneIn .asleep).onLane .l0 fun x => { x with dominant := 199 }
    let t := { s with pins := { s.pins with lines := { s.pins.lines with l0 := .dominant } } }.pass
    t.half = true ∧ due t = some (.nodeWake .l0) := by decide
-- 10 ms of dominant line (R85).
theorem test_line_fault :
    ((after (.lineFault .l0) ((laneIn .ready).onLane .l0 fun x => { x with dominant := 2 * 10000 })).lane .l0).mode =
      .lineFault ∧
    ((after (.lineFault .l0) ((laneIn .ready).onLane .l0 fun x => { x with dominant := 2 * 9999 })).lane .l0).mode =
      .ready := by decide
-- 1 ms of quiet line (R86).
theorem test_line_fault_recovery :
    ((after (.lineFaultRecovery .l0) ((laneIn .lineFault).onLane .l0 fun x => { x with quiet := 2 * 1000 })).lane .l0).mode =
      .ready ∧
    ((after (.lineFaultRecovery .l0) ((laneIn .lineFault).onLane .l0 fun x => { x with quiet := 2 * 999 })).lane .l0).mode =
      .lineFault := by decide
-- A timeout of 1 ms runs out 1000 ticks after acceptance (R133, R136).
theorem test_acyclic_timeout :
    (after (.acyclicTimeout 5) { queued false base with time := 1000 }).acyclic = [] ∧
    (after (.acyclicTimeout 5) { queued false base with time := 999 }).acyclic.length = 1 := by decide
-- HOST_LOST is queued (R128).
theorem test_supervision_expiry :
    (after .supervisionExpiry (supervised .armed 0 base)).notes.records.getLast?.map Note.body = some .hostLost ∧
    (after .supervisionExpiry (supervised .armed 1 base)).supervisor.mode = .armed := by decide
-- The start value begins a frame, another byte does not (R155).
theorem test_host_byte_received :
    (after (.hostByteReceived 0xA5 false) base).link.rx = .length ∧
    (after (.hostByteReceived 0xA4 false) base).link.rx = .hunt := by decide

/-! ### Witnesses: concrete states and operands that meet the hypotheses of each statement, clause by clause -/

/-- A request stands oldest and can be taken as a new one. -/
def asks (s : State) (kind : Byte) (p : List Byte) : Bool := (asking s 7 kind p).ready (requestOf 7 kind p)

theorem asks_base (kind : Byte) (p : List Byte) : asks base kind p = true := by
  simp [asks, asking, base, State.ready, Link.isDuplicate, State.reset, State.restarted, State.cleared, Link.reset]

/-- All timer states. -/
def timerModes : List TimerMode := [.stopped, .armed, .running, .draining, .waiting]

/-- All lane states. -/
def laneModes : List LaneMode := [.disabled, .ready, .busy, .sleeping, .asleep, .waking, .lineFault]

/-- Timer A with the close of its frame due, buffer 0 READY and buffer 2 HELD. -/
def closing (m : TimerMode) (mode : StartMode) : State :=
  bufs ((filling m).onTimer .a fun x => { x with closeDue := true, config := { x.config with startMode := mode } })
    .ready .held

theorem closing_buffers_ok :
    (closing .running .immediate).BuffersOk ∧ (closing .draining .triggerOnce).BuffersOk ∧
    (closing .running .triggerEach).BuffersOk ∧ (timerIn .armed).BuffersOk ∧ (filling .waiting).BuffersOk := by
  refine ⟨?_, ?_, ?_, ?_, ?_⟩ <;> intro t <;> cases t <;>
    refine ⟨fun i j => ?_, fun i j => ?_, fun i j => ?_, by decide⟩ <;> cases i <;> cases j <;> decide

theorem witness_step_runs_front_command :
    ({ base with pending := [.skipEnd] } : State).pending = [.skipEnd] ∧
    (supervised .armed 0 base).pending = [] ∧ due (supervised .armed 0 base) = some .supervisionExpiry ∧
    base.pending = [] ∧ due base = none := by decide
theorem witness_tick_advances_clocks :
    base.resetting = none ∧ ((filling .running).timer .a).closeDue = false ∧
    ((filling .running).timer .a).mode.inFrame = true ∧ ((filling .running).timer .a).config.tpr = 1000 ∧
    ((closing .running .immediate).timer .a).closeDue = true ∧ (supervised .armed 1 base).supervisor.mode = .armed ∧
    ((laneIn .ready).lane .l0).config.rate ≠ .off ∧ (base.lane .l0).config.rate = .off ∧
    base.half = false ∧ ({ base with half := true } : State).half = true ∧
    ((laneIn .ready).lane .l0).inCharacter .recessive = false ∧
    ((laneIn .ready).lane .l0).level .recessive = .recessive ∧ ((laneIn .ready).lane .l0).level .dominant = .dominant ∧
    (after (.rstPin true) base).resetting.isSome = true ∧ (after (.rstPin true) base).pins.rst = true ∧
    (after (.powerOn true) base).pins.powerGood = true := by decide
theorem witness_commands_leave_queue : exec .skipEnd base = .next base := rfl
theorem witness_no_command_faults : (closing .running .immediate).BuffersOk := closing_buffers_ok.1
theorem witness_reset_end_gives_reset_values :
    let s := { base with resetting := some { cause := .pin, left := 0 } }
    s.resetting = some { cause := .pin, left := 0 } ∧ s.pins.powerGood = true ∧ s.pins.rst = false := by decide
theorem witness_power_and_pin_begin_reset :
    base.resetting = none ∧
    (after (.powerOn false) base).resetting = some { cause := .power, left := 5000 } ∧
    (after (.rstPin true) base).pins.rst = true ∧
    (after (.rstPin true) base).resetting = some { cause := .pin, left := 5000 } := by decide
theorem witness_reset_request_ends_in_reset :
    asks base 0x02 [] = true ∧
    ([sending 0x02 782, sending 0x01 782].all fun s =>
      s.resetting.isNone && s.link.replies.length == 1 &&
        decide ((7 + 2) * 10 * 2000000 ≤ s.link.sending)) = true := by decide
theorem witness_duplicates_replayed_unknown_answered :
    repeated.resetting = none ∧ repeated.link.takingStopped = false ∧ repeated.link.replies.length < 4 ∧
    repeated.link.requests.head? = some (requestOf 7 0x01 []) ∧
    (repeated.link.lastTaken.map fun t => (t.seq, t.crc, t.reply.payload)) =
      some (7, (requestOf 7 0x01 []).crc, [0x10, 0x00]) ∧
    isRequestKind 0x00 = false ∧ asks base 0x00 [] = true ∧ isRequestKind 0x1D = false ∧
    asks base 0x1D [1] = true := by decide
theorem witness_malformed_payload_gets_bad_arg :
    (([(0x03, [4, 4, 20, 0, 1, 1]), (0x03, [0, 5, 20, 0, 1, 1]), (0x03, [0, 4, 19, 0, 1, 1]), (0x03, [0, 4, 0xD1, 7, 1, 1]),
      (0x03, [0, 4, 20, 0, 0, 1]), (0x03, [0, 4, 20, 0, 16, 1]), (0x03, [0, 4, 20, 0, 1, 0]), (0x04, [4]), (0x05, [4]),
      (0x08, [0, 2]), (0x0A, [0, 64, 0] ++ entry.bytes), (0x0A, [0, 63, 4] ++ entry.bytes), (0x0C, [0, 2, 0]),
      (0x0C, [0, 1, 64]), (0x18, [5, 0, 4, 1, 0, 0, 1, 1, 0, 0]), (0x18, [5, 0, 0, 16, 0, 0, 1, 1, 0, 0]),
      (0x18, [5, 0, 0, 1, 3, 0, 1, 1, 0, 0]), (0x18, [5, 0, 0, 1, 0, 0, 33, 1, 0, 0]),
      (0x18, [5, 0, 0, 1, 0, 0, 1, 0, 0, 0]), (0x18, [5, 0, 0, 1, 0, 0, 1, 1, 0, 2]),
      (0x18, [5, 0, 0, 0, 0, 0, 1, 1, 0, 0]), (0x18, [5, 0, 0, 1, 0, 0, 0, 1, 0, 0]),
      (0x18, [5, 0, 0, 1, 1, 0, 0, 1, 0, 0]), (0x18, [5, 0, 0, 1, 2, 0, 1, 1, 0, 0]), (0x1A, [0, 16]), (0x1B, [4, 1])] :
      List (Byte × List Byte)).all fun x =>
        isRequestKind x.1 && asks base x.1 x.2 && payloadFits x.1 x.2 && fieldOutside x.1 x.2) = true ∧
    isRequestKind 0x02 = true ∧ asks base 0x02 [0] = true ∧ payloadFits 0x02 [0] = false ∧
    isRequestKind 0x07 = true ∧ asks base 0x07 [] = true ∧ payloadFits 0x07 [] = false ∧
    asks base 0x07 [2] = true ∧ payloadFits 0x07 [2] = true ∧ 1 < byteAt [2] 0 ∧
    asks base 0x18 (List.replicate 9 0) = true ∧ payloadFits 0x18 (List.replicate 9 0) = false := by decide
theorem witness_host_frame_yields_its_request :
    let s := { base with link := { base.link with requests := List.replicate 3 (requestOf 7 1 []) } }
    s.resetting = none ∧ s.link.early = false ∧ s.link.rx = .hunt ∧ (List.replicate 250 (0 : Byte)).length ≤ 250 ∧
    s.link.requests.length < 4 := by decide
theorem witness_host_frame_yields_its_request_levels :
    (LinkLevel.start :: List.replicate 8 .stop ++ [LinkLevel.start]).length = 10 ∧
    (List.replicate 10 LinkLevel.stop)[0]? = some .stop ∧
    (let s := sending 0x01 781
     s.resetting = none ∧ s.link.replies = [{ seq := 7, kind := 0x01, payload := [0x00, 0x00] }] ∧
      s.link.sending / 2000000 = 10 * 8 + 9 ∧
      (sending 0x01 0).link.sending / 2000000 = 10 * 0 + 0) ∧
    (7 + 2) * 10 ≤ (sending 0x01 782).link.sending / 2000000 ∧
    (after (.rstPin true) base).resetting ≠ none ∧ base.link.replies = [] := by decide
/-- The start byte 0xA5 = 1010 0101 as 8N1 puts it on the line: start bit, 1 0 1 0 0 1 0 1, stop bit (R153, R166); a
stop bit at the start-bit level is its framing mark. At 115200 bit/s bit 0 takes the ticks 0 to 8 (8.68 µs). -/
theorem test_link_character :
    (List.range 10).map (linkCharacterLevel 0xA5) =
      [.start, .stop, .start, .stop, .start, .start, .stop, .start, .stop, .stop] ∧
    rxdCommand [.start, .stop, .start, .stop, .start, .start, .stop, .start, .stop, .start] =
      some (.hostByteReceived 0xA5 true) ∧
    ([0, 8, 9, 17, 18, 26, 27].map fun t => (sending 0x01 t).txd) =
      [.start, .start, .stop, .stop, .start, .start, .stop] := by decide
theorem witness_frame_received_judges_frame :
    let s := almostIn base
    let full := almostIn { base with link := { base.link with requests := List.replicate 4 (requestOf 7 1 []) } }
    s.resetting = none ∧ s.link.early = false ∧ s.link.rx = .crc ∧ s.link.got.length + 1 = 6 + halfAt s.link.got 0 ∧
    s.link.marked = false ∧ s.link.requests.length < 4 ∧ full.link.requests.length = 4 ∧
    halfAt (s.link.got ++ [lastByte]) 4 = (crc16 ((s.link.got ++ [lastByte]).take 4)).toNat ∧
    halfAt (s.link.got ++ [lastByte + 1]) 4 ≠ (crc16 ((s.link.got ++ [lastByte + 1]).take 4)).toNat := by decide
/-- The receive side in a state with bytes of a frame taken in. -/
def receiving (rx : RxMode) (got : List Byte) : State := { base with link := { base.link with rx := rx, got := got } }

theorem witness_host_byte_advances_receiver :
    (([receiving .hunt [], receiving .skip [], receiving .length [], receiving .length [1], receiving .sequence [250, 0],
      receiving .kind [0, 0, 7], receiving .kind [1, 0, 7], receiving .payload [2, 0, 7, 1],
      receiving .payload [1, 0, 7, 1], receiving .crc [0, 0, 7, 1]] : List State).all fun s =>
        s.resetting.isNone && !s.link.early) = true ∧
    halfAt (receiving .sequence [250, 0]).link.got 0 = 250 ∧ halfAt (receiving .kind [0, 0, 7]).link.got 0 = 0 ∧
    halfAt (receiving .kind [1, 0, 7]).link.got 0 ≠ 0 ∧ (receiving .payload [2, 0, 7, 1]).link.got.length + 1 < 4 + 2 ∧
    (receiving .payload [1, 0, 7, 1]).link.got.length + 1 = 4 + 1 ∧
    (receiving .crc [0, 0, 7, 1]).link.got.length = 4 + 0 ∧
    (overlong.resetting = none ∧ overlong.link.early = false ∧ overlong.link.rx = .sequence ∧
      250 < halfAt overlong.link.got 0 ∧ overlong.pins.rxdBusy = false ∧
      2000 < (gapped .sequence 2001 true).link.gap ∧ (gapped .crc 2001 false).link.rx = .crc ∧
      (gapped .skip 2000 false).link.rx = .skip ∧ (gapped .skip 2000 true).pins.rxdBusy = true) ∧
    (after (.rstPin true) base).resetting ≠ none ∧
    ({ base.link with early := true } : Link).early = true ∧ base.resetting = none ∧
    (let s := { base with resetting := some { cause := .pin, left := 0 } }
     s.resetting = some { cause := .pin, left := 0 } ∧ s.pins.powerGood = true ∧ s.pins.rst = false) := by decide
-- A byte in reception at the end of a reset began within it and is not received; the next byte is (R165).
theorem test_byte_begun_in_reset :
    let s := after .resetEnd { base with resetting := some { cause := .pin, left := 0 }, pins := { base.pins with rxdBusy := true } }
    let t := after (.hostByteReceived 0xA5 false) s
    t.link.rx = .hunt ∧ (after (.hostByteReceived 0xA5 false) t).link.rx = .length := by decide
theorem witness_queue_bounds_kept : base.QueuesOk ∧ step base = .next base.pass :=
  ⟨by unfold State.QueuesOk; decide, rfl⟩
theorem witness_query_and_read_entry_answer :
    asks base 0x01 [] = true ∧ asks base 0x0C [0, 0, 63] = true ∧ (base.table .a).staged.getD 63 none = none ∧
    asks (scanning base) 0x0C [0, 1, 0] = true ∧ ((scanning base).table .a).active.getD 0 none = some entry := by decide

/-- The least round the manual allows, with one round a frame. -/
def shortest : TimerConfig :=
  { tpr := 50, g := 0, s := 50, rpf := 1, q := 0, w := 50, startMode := .triggerEach, report := .all }

theorem witness_configure_timer_and_start :
    shortest.Ok ∧ asks base 0x06 (shortest.payload .a) = true ∧ asks base 0x07 [0] = true ∧
    (base.timer .a).mode = .stopped ∧ (base.table .a).active.validate shortest base.laneConfigs = none ∧
    asks (scanning base) 0x06 (shortest.payload .a) = true ∧
    ((scanning base).table .a).active.validate shortest base.laneConfigs = some (0, .lane) ∧
    asks (timerIn .armed) 0x06 (shortest.payload .a) = true ∧ asks (timerIn .armed) 0x07 [0] = true ∧
    ((timerIn .armed).timer .a).mode ≠ .stopped ∧
    (([[49, 0, 0, 0, 49, 0, 1, 0, 0, 0, 0, 0, 0], [50, 0, 50, 0, 50, 0, 1, 0, 0, 0, 0, 0, 0],
      [50, 0, 9, 0, 9, 0, 1, 0, 0, 0, 0, 0, 0], [50, 0, 0, 0, 51, 0, 1, 0, 0, 0, 0, 0, 0],
      [50, 0, 0, 0, 50, 0, 0, 0, 0, 0, 0, 0, 0], [50, 0, 0, 0, 50, 0, 1, 1, 0, 0, 0, 0, 0],
      [50, 0, 0, 0, 50, 0, 1, 0, 1, 0, 0, 0, 0], [50, 0, 0, 0, 50, 0, 1, 0, 0, 51, 0, 0, 0],
      [50, 0, 0, 0, 50, 0, 1, 0, 0, 0, 0, 3, 0], [50, 0, 0, 0, 50, 0, 1, 0, 0, 0, 0, 0, 3]] :
      List (List Byte)).all fun p => p.length == 13 && timerFieldOutside (0 :: p) && asks base 0x06 (0 :: p) &&
        asks (timerIn .running) 0x06 (0 :: p)) = true := by
  unfold TimerConfig.Ok; decide
theorem witness_stop_by_mode_and_state :
    (timerModes.all fun m => asks (timerIn m) 0x08 [0, 0] && asks (timerIn m) 0x08 [0, 1] &&
      ((timerIn m).timer .a).mode == m) = true ∧
    ((timerIn .draining).timer .a).mode.inFrame = true ∧
    asks base 0x08 [0, 2] = true ∧ asks base 0x08 [0, 255] = true := by decide
theorem witness_first_frame_starts_and_sync_ends :
    let s := (timerIn .armed).onTimer .a fun x => { x with firstDue := true }
    let u := (filling .running).onTimer .a fun x => { x with sync := true, tick := 5, config := { x.config with w := 5 } }
    (s.resetting = none ∧ (s.timer .a).mode = .armed ∧ (s.timer .a).config.startMode = .immediate ∧
      (s.timer .a).firstDue = true ∧
      (s.buffers .a).find .filling = none ∧ (s.buffers .a).find .free = some .b0) ∧
    (u.resetting = none ∧ (u.timer .a).mode.inFrame = true ∧ (u.timer .a).closeDue = false ∧
      (u.timer .a).sync = true ∧
      (u.timer .a).config.w = (u.timer .a).round * (u.timer .a).config.tpr + (u.timer .a).tick) := by decide
/-- `closing` with a first claim waiting at position 0 and a retry in flight at position 1, for node 1 of lane 0. -/
def ending : State :=
  ((scanning (closing .running .immediate)).onTables .a fun x =>
    { x with active := x.active.set 1 (some { entry with startTick := 200, resOffset := 4 }) }).onLane .l0 fun x =>
    { x with
      claims := [.cyclic claim]
      inFlight := some { flight 50 [] with claim := .cyclic { claim with position := 1, attempt := .retry .check } } }

theorem closing_identities_ok (m : TimerMode) (hm : m = .running ∨ m = .draining) (mode : StartMode) :
    (closing m mode).IdentitiesOk := by
  intro t
  rcases hm with rfl | rfl <;> cases t <;>
    exact ⟨fun b h => (by cases b <;> first | exact ⟨rfl, rfl⟩ | cases h), fun h => (by cases h)⟩

theorem witness_frame_close_moves_buffers_and_state :
    (closing .running .immediate).IdentitiesOk ∧ (closing .draining .triggerOnce).IdentitiesOk ∧
    (closing .running .triggerEach).IdentitiesOk ∧
    (Claim.cyclic claim ∈ (ending.lane .l0).claims ∧ Claim.isOfFrame (.cyclic claim) .a 1 0 = true ∧
      ((ending.lane .l0).inFlight.map fun g => (g.claim.isOfFrame .a 1 0)) = some true) ∧
    (closing .running .immediate).BuffersOk ∧ (closing .draining .triggerOnce).BuffersOk ∧
    (closing .running .triggerEach).BuffersOk ∧
    ([closing .running .immediate, closing .draining .triggerOnce, closing .running .triggerEach].all fun s =>
      s.resetting.isNone && (s.timer .a).mode.inFrame && (s.timer .a).closeDue &&
        (s.buffers .a).b2.mode == .held) = true :=
  ⟨closing_identities_ok _ (.inl rfl) _, closing_identities_ok _ (.inr rfl) _, closing_identities_ok _ (.inl rfl) _,
    by decide, closing_buffers_ok.1, closing_buffers_ok.2.1, closing_buffers_ok.2.2.1, by decide⟩
theorem witness_post_claims_posts_due_entries :
    ((filling .running).resetting = none ∧ ((filling .running).timer .a).mode.inFrame = true ∧
      ((filling .running).timer .a).closeDue = false ∧ ((filling .running).timer .a).posted = false) ∧
    dueEntries ((filling .running).timer .a) 0 ((scanning base).table .a).active = [(0, entry)] ∧
    claim.attempt = .first ∧
    List.Pairwise (Claim.MayPrecede 0)
      [.cyclic { claim with attempt := .retry .check }, .cyclic claim, .cyclic { claim with position := 1 },
        .acyclic 5 .first] ∧
    (laneModes.all fun m => ((laneIn m).lane .l0).mode == m) = true ∧
    ((laneIn .ready).node .l0 1).mode ≠ .silent ∧ ((laneIn .ready).roster.get .l0).length = 15 ∧
    ((laneIn .ready).setNode .l0 1 { NodeRecord.reset with mode := .silent, countdown := some 2 }).node .l0 1 =
      { NodeRecord.reset with mode := .silent, countdown := some 2 } ∧
    ((laneIn .ready).setNode .l0 15 { NodeRecord.reset with mode := .silent, countdown := some 1 }).node .l0 15 =
      { NodeRecord.reset with mode := .silent, countdown := some 1 } := by
  refine ⟨by decide, by decide, by decide, ?_, by decide⟩
  simp [Claim.MayPrecede, claim, CyclicClaim.before]

/-- Timer A in a state under TRIGGER_EACH. -/
def triggered (s : State) : State := s.onTimer .a fun x => { x with config := { x.config with startMode := .triggerEach } }

theorem witness_trig_edge_by_state :
    base.BuffersOk ∧ (triggered (timerIn .armed)).BuffersOk ∧ (triggered (filling .waiting)).BuffersOk ∧
    ((base.timer .a).mode = .stopped ∧ ((triggered (timerIn .armed)).timer .a).mode = .armed ∧
      ((triggered (timerIn .armed)).timer .a).config.startMode ≠ .immediate ∧
      ((triggered (filling .waiting)).timer .a).mode = .waiting ∧
      ((triggered (filling .waiting)).timer .a).config.startMode = .triggerEach ∧ base.resetting = none) := by
  refine ⟨?_, ?_, ?_, by decide⟩ <;> intro t <;> cases t <;>
    refine ⟨fun i j => ?_, fun i j => ?_, fun i j => ?_, by decide⟩ <;> cases i <;> cases j <;> decide
theorem witness_missed_trigger_counted :
    let s := (triggered (filling .draining)).onTimer .a fun x => { x with missed := 65535 }
    s.resetting = none ∧ (s.timer .a).mode.inFrame = true ∧ (s.timer .a).config.startMode = .triggerEach := by decide
theorem witness_timer_ranges_kept : base.TimersOk ∧ step base = .next base.pass :=
  ⟨fun t => by unfold Timer.Ok TimerConfig.Ok; cases t <;> decide, rfl⟩

/-- An entry with every field at the top of its range. -/
def largest : ScanEntry :=
  { lane := .l3, node := 15, op := .exchange, round := 255, startTick := 65535, slack := 65535, n := 32
    outOffset := 511, m := 32, resOffset := 1023, phase := .nth 16 15, retry := true }

/-- The staged table of timer A frozen. -/
def frozen (s : State) : State := s.onTables .a fun x => { x with frozen := true }

theorem largest_in_range : largest.InRange :=
  ⟨by decide, by decide, by decide, by decide, by decide, by decide, by decide, by decide, (by decide : 2 ≤ 16 ∧ 16 ≤ 16 ∧ 15 ≤ 15)⟩

theorem witness_stage_entry_stores_entry :
    largest.InRange ∧ asks base 0x0A (largest.payload .a 63) = true ∧ (base.table .a).frozen = false ∧
    asks (frozen base) 0x0A (largest.payload .a 63) = true ∧ ((frozen base).table .a).frozen = true ∧
    asks base 0x0A ([0, 63, 3] ++ List.replicate 17 0xFF) = true ∧
    asks (frozen base) 0x0A ([0, 0, 1] ++ List.replicate 17 0) = true ∧
    (([(0, 4), (1, 16), (2, 3), (8, 33), (10, 2), (11, 33), (13, 4), (14, 4), (15, 1), (15, 17), (16, 16)] :
      List (Nat × Byte)).all fun x =>
        let block := largest.bytes.set x.1 x.2
        block.length == 17 && entryFieldOutside block && asks base 0x0A ([0, 63, 0] ++ block) &&
          asks (frozen base) 0x0A ([0, 63, 2] ++ block)) = true :=
  ⟨largest_in_range, by decide⟩
theorem witness_clear_staged_empties_table :
    asks base 0x0B [0] = true ∧ asks (frozen base) 0x0B [0] = true ∧ ((frozen base).table .a).frozen = true ∧
    asks base 0x0B [2] = true ∧ asks base 0x0B [255] = true := by decide
theorem witness_entry_block_round_trip : largest.InRange := largest_in_range
theorem witness_commit_and_withdraw_by_state :
    (timerModes.all fun m => asks (timerIn m) 0x0D [0] && asks (timerIn m) 0x0E [0]) = true ∧
    (base.table .a).staged.validate (base.timer .a).config base.laneConfigs = none ∧
    (((base.onTables .a fun x => { x with staged := x.staged.set 63 (some entry) }).table .a).staged.validate
      (base.timer .a).config base.laneConfigs) = some (63, .lane) ∧
    asks (base.onTimer .a fun x => { x with pendingCommit := true }) 0x0D [0] = true ∧
    asks (base.onTimer .a fun x => { x with pendingCommit := true }) 0x0E [0] = true := by decide
/-- The raster of the worked validation: TPR 1000, G 50, S 700, RPF 4, Q 1 (02_scan_tables_and_commit.md). -/
def worked : TimerConfig :=
  { tpr := 1000, g := 50, s := 700, rpf := 4, q := 1, w := 0, startMode := .immediate, report := .all }

/-- A READ of 4 bytes at tick 50 of round 0, WCD 220 on a lane at 1000 kbit/s with RT 100 (R26). -/
def worked0 : ScanEntry := { entry with startTick := 50 }

-- Each of the nine checks as the first that fails, at the edges of R30 to R33; an entry that ends at TPR passes.
theorem test_validation_causes :
    let lanes := (laneIn .ready).laneConfigs
    let first := fun (e : ScanEntry) (lower : List ScanEntry) => e.firstFailure worked lanes lower
    first { worked0 with lane := .l1 } [] = some .lane ∧ first { worked0 with node := 0 } [] = some .node ∧
    first { worked0 with n := 1 } [] = some .op ∧ first { worked0 with phase := .nth 4 4 } [] = some .phase ∧
    first { worked0 with round := 3 } [] = some .round ∧ first { worked0 with startTick := 49 } [] = some .tick ∧
    first { worked0 with startTick := 700 } [] = some .tick ∧
    ({ worked0 with m := 32 } : ScanEntry).wcd lanes = 500 ∧
    first { worked0 with startTick := 500, m := 32 } [] = none ∧
    first { worked0 with startTick := 501, m := 32 } [] = some .tooLong ∧
    first { worked0 with resOffset := 1021 } [] = some .region ∧
    first { worked0 with resOffset := 3, round := 1 } [worked0] = some .region ∧
    first { worked0 with resOffset := 4, round := 1 } [worked0] = none ∧
    first { worked0 with resOffset := 4, startTick := 269 } [worked0] = some .overlap ∧
    first { worked0 with resOffset := 4, startTick := 270 } [worked0] = none := by decide
theorem witness_phases_meet_exactly_when_both_due :
    (∀ d k, Phase.nth 16 15 = .nth d k → 2 ≤ d ∧ d ≤ 16 ∧ k < d) ∧
    (∀ d k, Phase.nth 2 0 = .nth d k → 2 ≤ d ∧ d ≤ 16 ∧ k < d) ∧ (∀ d k, Phase.odd = .nth d k → 2 ≤ d ∧ d ≤ 16 ∧ k < d) := by
  refine ⟨?_, ?_, ?_⟩ <;> intro d k h <;> cases h <;> decide
theorem witness_tables_stay_valid : base.TablesOk ∧ step base = .next base.pass :=
  ⟨fun t => by cases t <;> exact ⟨rfl, rfl, rfl, rfl, fun h => by cases h⟩, rfl⟩
theorem witness_output_writes_and_publish :
    (asks base 0x0F (writePayload .a 511 [0xAA]) = true ∧
      asks base 0x10 (writePayload .b 312 (List.replicate 200 1)) = true ∧
      asks base 0x0F (writePayload .a 0 []) = true ∧ asks base 0x10 (writePayload .a 512 [1]) = true ∧
      asks base 0x0F (writePayload .a 0 (List.replicate 201 1)) = true) ∧
    Memory.wf [(3, 0xAA)] = true ∧
    (timerModes.all fun m => asks (timerIn m) 0x11 [0]) = true ∧
    asks ((timerIn .running).onTimer .a fun x => { x with pendingPublish := true }) 0x11 [0] = true ∧
    asks (supervised .expired 0 base) 0x11 [0] = true :=
  ⟨⟨asks_base _ _, asks_base _ _, asks_base _ _, asks_base _ _, asks_base _ _⟩, by decide⟩
theorem witness_set_supervision_by_period :
    ([0, 1, 9, 10, 60000, 60001].all fun n =>
      asks base 0x12 (bytes2 n) && asks (supervised .expired 0 base) 0x12 (bytes2 n)) = true ∧
    base.supervisor.mode ≠ .expired := by decide
theorem witness_expiry_and_resume :
    (supervised .armed 0 base).resetting = none ∧ (supervised .armed 0 base).supervisor.mode = .armed ∧
    (supervised .armed 0 base).supervisor.remaining = 0 ∧ asks (supervised .expired 0 base) 0x13 [] = true ∧
    asks base 0x13 [] = true := by decide
theorem witness_supervision_kept :
    (supervised .armed 10000 base).SupervisionOk ∧
    step (supervised .armed 10000 base) = .next (supervised .armed 10000 base).pass :=
  ⟨⟨by decide, by decide, by decide⟩, rfl⟩
theorem witness_images_stay_canonical : base.ImagesOk ∧ step base = .next base.pass :=
  ⟨fun t => by cases t <;> exact ⟨rfl, rfl, rfl, fun b => by cases b <;> rfl⟩, rfl⟩
theorem witness_hold_and_reads :
    (asks (bufs base .ready .free) 0x14 [0] = true ∧ ((bufs base .ready .free).buffers .a).find .ready = some .b0 ∧
      ((bufs base .ready .free).buffers .a).find .held = none) ∧
    (asks (bufs base .ready .held) 0x14 [0] = true ∧ ((bufs base .ready .held).buffers .a).find .held = some .b2) ∧
    (asks (bufs base .free .held) 0x14 [0] = true ∧ ((bufs base .free .held).buffers .a).find .ready = none) ∧
    asks base 0x14 [0] = true ∧
    asks (bufs base .free .held) 0x15 ([0] ++ bytes2 824 ++ [200]) = true ∧
    asks (bufs base .free .held) 0x15 ([0] ++ bytes2 825 ++ [200]) = true ∧
    asks base 0x15 [0, 0, 0, 1] = true ∧ asks base 0x15 [0, 0, 0, 0] = true ∧ asks base 0x15 [0, 0, 0, 201] = true ∧
    asks (bufs base .free .held) 0x16 [0, 0, 64] = true ∧ asks (bufs base .free .held) 0x16 [0, 1, 64] = true ∧
    asks base 0x16 [0, 63, 1] = true ∧ asks base 0x16 [0, 64, 1] = true ∧ asks base 0x16 [0, 0, 0] = true := by decide
theorem witness_release_frees_held_buffer :
    asks (bufs base .free .held) 0x17 [0] = true ∧ ((bufs base .free .held).buffers .a).find .held = some .b2 ∧
    asks base 0x17 [0] = true ∧ (base.buffers .a).find .held = none ∧ asks base 0x17 [2] = true := by decide
theorem witness_held_buffer_untouched :
    (∃ u, exec (.frameClose .a) (closing .running .immediate) = .next u) ∧
    (((closing .running .immediate).buffers .a).get .b2).mode = .held := ⟨⟨_, rfl⟩, rfl⟩
theorem witness_hold_meets_close :
    let s := asking (closing .running .immediate) 7 0x14 [0]
    s.BuffersOk ∧
    (s.ready (requestOf 7 0x14 [0]) = true ∧ (s.timer .a).mode.inFrame = true ∧ (s.timer .a).closeDue = true ∧
      (s.buffers .a).find .filling = some .b1 ∧ (s.buffers .a).find .ready = some .b0) :=
  ⟨closing_buffers_ok.1, by decide⟩
theorem witness_buffers_kept :
    (timerIn .armed).BuffersOk ∧ (timerIn .armed).IdentitiesOk ∧ ∃ t, step (timerIn .armed) = .next t :=
  ⟨closing_buffers_ok.2.2.2.1,
    fun t => by cases t <;> exact ⟨fun b h => (by cases b <;> cases h), fun _ => rfl⟩, ⟨_, rfl⟩⟩
theorem base_ages_ok : base.AgesOk := by
  refine ⟨fun t => ⟨fun b e he => ?_, fun p => ⟨Nat.zero_le 1, fun _ => rfl⟩, fun b p e hb => ?_⟩, fun l f k hf => ?_⟩
  · have : e = Status.reset := by cases t <;> cases b <;> exact List.eq_of_mem_replicate he
    subst this; decide
  · cases t <;> cases hb
  · cases l <;> cases hf
theorem witness_buffers_kept_ages :
    base.BuffersOk ∧ base.IdentitiesOk ∧ base.ClaimsOk ∧ base.AgesOk ∧
    (∀ i : TimerId, (base.timer i).run ≠ 0xFFFF ∧ (base.timer i).frame ≠ 0xFFFFFFFF) ∧ step base = .next base.pass := by
  refine ⟨fun t => ?_, fun t => ?_, fun l => ?_, base_ages_ok, fun i => by cases i <;> decide, rfl⟩
  · cases t <;> refine ⟨fun i j => ?_, fun i j => ?_, fun i j => ?_, by decide⟩ <;> cases i <;> cases j <;> decide
  · cases t <;> exact ⟨fun b h => (by cases h), fun _ => rfl⟩
  · cases l <;> exact ⟨fun k h => (by cases h), fun f k h => (by cases h)⟩
theorem witness_outcomes_reach_their_owners :
    let s := scanning (filling .running)
    (s.buffers claim.timer).find .filling = some .b1 ∧ ((s.buffers .a).get .b1).run = claim.run ∧
    ((s.buffers .a).get .b1).frame = claim.frame ∧ s.entry claim.timer claim.position = some entry ∧
    ([1, 2, 3, 4] : List Byte).length = entry.m ∧ claim.attempt = .first ∧
    ({ claim with attempt := .retry .check } : CyclicClaim).attempt = .retry .check ∧
    ((queued false s).acyclicEntry 5).isSome = true ∧ (base.buffers .a).find .filling = none := by decide
theorem witness_transact_accepted_or_refused :
    let p := transactPayload 65535 .l0 15 .exchange 32 65535 true (List.replicate 32 0xFF)
    (laneModes.all fun m => asks (laneIn m) 0x18 p && ((laneIn m).lane .l0).mode == m) = true ∧
    asks (queued false (laneIn .ready)) 0x18 (transactPayload 5 .l0 0 .write 0 1 false [1]) = true ∧
    ((queued false (laneIn .ready)).acyclic.any fun e => e.tag == 5) = true ∧
    asks { base with acyclic := List.replicate 16 ((queued false base).acyclic.head (by decide)) } 0x18 p = true ∧
    asks (laneIn .ready) 0x18 (transactPayload 0 .l0 1 .read 1 1 false []) = true := by decide
theorem witness_waiting_entries_cancelled_or_timed_out :
    asks base 0x19 [5, 0] = true ∧ base.acyclicEntry 5 = none ∧
    asks (queued true base) 0x19 [5, 0] = true ∧ asks (queued false base) 0x19 [5, 0] = true ∧
    (((queued true base).acyclicEntry 5).map fun e => (e.inFlight, e.runOut)) = some (true, false) ∧
    (((queued false base).acyclicEntry 5).map fun e => (e.inFlight, e.timeout * 1000)) = some (false, 1000) ∧
    ({ queued false base with time := 1000 } : State).resetting = none ∧
    ((1000 : Time) - 0).toNat = 1000 := by decide
theorem witness_read_and_forget_node :
    asks base 0x1A [0, 1] = true ∧ asks base 0x1B [3, 15] = true ∧
    ([[4, 1], [0, 0], [0, 16]].all fun p => asks base 0x1A p && asks base 0x1B p) = true := by decide
theorem witness_outcomes_change_node_record :
    let silent := base.setNode .l0 1 { NodeRecord.reset with mode := .silent, countdown := some 8 }
    (silent.node .l0 1).mode = .silent ∧ (base.node .l0 1).mode ≠ .silent ∧
    (base.node .l0 1).missCount + 1 < (base.lane .l0).config.missLimit ∧
    ((base.setNode .l0 15 { NodeRecord.reset with missCount := 2 }).node .l0 15).missCount + 1 =
      (base.lane .l0).config.missLimit := by decide
theorem witness_roster_kept : base.RosterOk ∧ step base = .next base.pass :=
  ⟨fun l => by
    cases l <;> exact ⟨by unfold LaneConfig.Ok; decide, rfl, fun r hr => by
      obtain rfl := List.eq_of_mem_replicate hr
      exact ⟨by decide, rfl⟩⟩, rfl⟩

/-- Lane settings at the ends of their ranges. -/
def slowest : LaneConfig := { rate := .k125, rt := 2000, missLimit := 15, probeInterval := 255 }

theorem witness_configure_lane_by_state :
    slowest.Ok ∧ (laneModes.all fun m => asks (laneIn m) 0x03 (slowest.payload .l0)) = true ∧
    asks (queued false (laneIn .ready)) 0x03 (slowest.payload .l0) = true ∧
    asks (scanning (laneIn .ready)) 0x03 (({ slowest with rate := .off } : LaneConfig).payload .l0) = true ∧
    ((scanning (laneIn .ready)).table .a).active.validate (base.timer .a).config
      (base.laneConfigs.set .l0 { slowest with rate := .off }) = some (0, .lane) ∧
    ((laneIn .ready).table .a).active.validate (base.timer .a).config (base.laneConfigs.set .l0 slowest) = none := by
  unfold LaneConfig.Ok; decide
theorem witness_sleep_and_wake_by_state :
    (laneModes.all fun m => asks (laneIn m) 0x04 [0] && asks (laneIn m) 0x05 [0] && ((laneIn m).lane .l0).mode == m) =
      true ∧
    asks ((laneIn .busy).onLane .l0 fun x => { x with sleepPending := true }) 0x05 [0] = true := by decide
theorem witness_grant_takes_front_claim :
    let s := (scanning (laneIn .ready)).onLane .l0 fun x => { x with claims := [.cyclic claim] }
    let u := queued false (laneIn .ready)
    (s.resetting = none ∧ (s.lane .l0).mode = .ready ∧ s.half = false ∧
      2 * (2 * (s.lane .l0).config.rate.byteTime) = (s.lane .l0).quiet ∧ ({ s with half := true } : State).half = true ∧
      s.entry claim.timer claim.position = some entry) ∧
    ((u.lane .l0).claims = [.acyclic 5 .first] ∧ (u.acyclicEntry 5).isSome = true ∧
      (u.timer .a).mode.inFrame = false ∧ (u.timer .b).mode.inFrame = false) ∧
    (let v := scanning { u with timers := (filling .running).timers }
     (v.timer .a).mode.inFrame = true ∧ (v.table .a).active[0]? = some (some entry) ∧
      (v.timer .a).inQuietTime = false) ∧
    (let x : Timer := { Timer.reset with mode := .running, config := { shortest with g := 10, s := 40, rpf := 3, q := 1 } }
     x.untilOpen = some 10 ∧ ({ x with tick := 10 } : Timer).untilOpen = some 50 ∧
      ({ x with round := 1, tick := 10 } : Timer).untilOpen = some 100 ∧
      ({ x with mode := .draining, round := 1, tick := 9 } : Timer).untilOpen = some 1 ∧
      ({ x with mode := .draining, round := 1, tick := 10 } : Timer).untilOpen = none) := by decide
theorem witness_grant_takes_front_claim_open_windows :
    ({ Timer.reset with config := { shortest with g := 10, s := 40, rpf := 3, q := 1 }, round := 2, tick := 49 } :
      Timer).config.Ok ∧ Timer.reset.Ok := by
  unfold Timer.Ok TimerConfig.Ok; decide
theorem witness_claim_expiry_removes_late_claim :
    let s := { (laneIn .ready).onLane .l0 (fun x => { x with claims := [.cyclic claim] }) with time := 101 }
    s.resetting = none ∧ (s.lane .l0).claims.find? (fun c => c.isAt .a 0) = some (.cyclic claim) ∧
    deadlinePassed 101 claim.deadline = true ∧ deadlinePassed 100 claim.deadline = false ∧
    deadlinePassed 0 2147483648 = true ∧ deadlinePassed 0 2147483647 = false := by decide
theorem witness_wire_decides_outcome :
    let s := fun c => hearing c (busy (flight 10 []))
    (s (1, false)).resetting = none ∧ ((s (1, false)).lane .l0).inFlight = some (flight 10 []) ∧
    ((s (1, false)).lane .l0).rx.done = some (1, false) ∧ ((s (1, true)).lane .l0).rx.done ≠ some (1, false) ∧
    ((busy (flight 10 [])).lane .l0).rx.done = none ∧ ((busy (flight 10 [])).lane .l0).sleep = none ∧
    (flight 10 []).frame[0]? = some 0x01 ∧ (flight 40 []).frame[3]?.isSome = true ∧
    (busy (flight 140 [])).lineFree .l0 = true ∧ ((busy (flight 140 [])).lane .l0).rx.done = none ∧
    (flight 140 []).elapsed = 4 * (2 * 10) + 2 * 100 ∧ (flight 90 [(1, false)]).elapsed = (flight 90 []).lastEnd + 3 * (2 * 10) ∧
    (flight 150 []).elapsed = 4 * (2 * 10) + 2 * 100 + 2 * 10 ∧ (flight 50 []).elapsed = 4 * (2 * 10) + 2 * 10 ∧
    (flight 70 [(1, false)]).elapsed = (flight 0 []).lastEnd + 2 * 10 ∧
    (flight 100 [(1, false)]).elapsed = (flight 0 []).lastEnd + 4 * (2 * 10) ∧
    ([(1, false), (2, false), (3, false), (4, false), (5, false)] : List (Byte × Bool)).length + 1 = 2 + (flight 0 []).m := by
  decide
theorem witness_line_carries_characters :
    idleReceiver.last = .recessive ∧ idleReceiver.reception = none ∧
    ((List.range 160).map fun i => characterLevel 0x6C (i / 16)).length = 10 * (2 * Rate.k125.bitTime) ∧
    ((List.range 160).map fun i => characterLevel 0x6C (i / 16))[2 * Rate.k125.bitTime / 2]? = some .dominant ∧
    8 ≤ 2 * Rate.k125.bitTime / 2 ∧ 1 ≤ 2 * Rate.k1000.bitTime / 2 ∧
    (let twice := [.dominant, .recessive, .recessive, .dominant, .dominant, .dominant, .dominant, .dominant, .recessive]
     twice.length = 2 * Rate.k125.bitTime / 2 + 1 ∧ twice[2 * Rate.k125.bitTime / 2]? = some Level.recessive ∧
      (idleReceiver.run (2 * Rate.k125.bitTime) twice).reception = none) ∧
    (idleReceiver.run 2 ((List.range 19).map fun i => characterLevel 0x6C (i / 2))).done = none ∧
    ((laneIn .ready).lane .l0).config.rate ≠ .off ∧
    Receiver.reset.last = .dominant ∧ Receiver.reset.reception = none ∧
    ((busy (flight 39 [])).lane .l0).drive = .recessive ∧ (flight 39 []).frame.length = 4 ∧
    ((busy (flight 30 [])).lane .l0).drive = .dominant ∧ ((busy (flight 40 [])).lane .l0).sending = none ∧
    ((sleepingWith (.command (2 * 30) false) false).lane .l0).drive = .dominant ∧
    ((wakingWith (.pulse 0)).lane .l0).drive = .dominant ∧ ((laneIn .ready).lane .l0).drive = .recessive := by decide
theorem witness_response_judged :
    let f := { flight 70 [(0x01, false), (0x5A, false)] with m := 1 }
    f.received.map Prod.fst = 0x01 :: [0x5A] ∧ crc8 0 ([0x01, 0x00, 0x01] ++ [0x01, 0x5A]) = 0x9D ∧
    (0x01 : Byte).getLsbD 4 = false ∧ (0x11 : Byte).getLsbD 4 = true ∧ (0x11 : Byte).toNat % 16 = f.node := by decide
theorem witness_transaction_ends :
    let s := busy (flight 140 [])
    (flight 140 []).claim = .cyclic claim ∧ (s.lane .l0).sleepPending = false ∧ claim.attempt = .first ∧
    (flight 140 []).orphan = false ∧ deadlinePassed s.time claim.deadline = false ∧
    s.entry claim.timer claim.position = some entry ∧ entry.retry = true ∧
    ((s.onLane .l0 fun x => { x with sleepPending := true }).lane .l0).sleepPending = true ∧
    ((queued true s).acyclicEntry 5).isSome = true ∧
    ({ flight 50 [] with claim := .acyclic 5 .first } : InFlight).claim = .acyclic 5 .first := by decide
theorem witness_sleep_wake_and_line_fault :
    let w := (sleepingWith .waiting false).lane .l0
    let c := (sleepingWith (.command (2 * 60) false) true).lane .l0
    (w.mode = .sleeping ∧ w.sleep = some .waiting ∧ 2 * (2 * 10) = w.quiet) ∧
    (((sleepingWith (.command (2 * 40) false) false).lane .l0).sleep = some (.command ((3 + 1) * (2 * 10)) false) ∧
      sleepFrame[3]? = some 0xE1 ∧ w.inFlight = none ∧ w.rx.done ≠ some (0xE1, false) ∧
      ((hearing (0xE1, false) (sleepingWith (.command (2 * 40) false) false)).lane .l0).rx.done = some (0xE1, false)) ∧
    (c.sleep = some (.command (2 * 60) false) ∧ 6 * (2 * c.config.rate.byteTime) = 2 * 60 ∧ c.wakePending = true ∧
      w.wakePending = false) ∧
    ((wakingWith (.pulse 0)).lane .l0).wake = some (.pulse 0) ∧
    ((wakingWith (.settle 0)).lane .l0).wake = some (.settle 0) ∧
    (((laneIn .asleep).onLane .l0 fun x => { x with dominant := 2 * 100 }).lane .l0).dominant = 200 := by decide
theorem witness_sleep_wake_and_line_fault_last_clauses :
    let r := ((laneIn .ready).onLane .l0 fun x => { x with dominant := 2 * 10000 }).lane .l0
    let f := ((laneIn .lineFault).onLane .l0 fun x => { x with quiet := 2 * 1000 }).lane .l0
    (20000 ≤ r.dominant ∧ r.mode = .ready) ∧
    (((sleepingWith (.command (2 * 40) false) false).lane .l0).mode = .sleeping ∧
      4 * (2 * ((sleepingWith (.command (2 * 40) false) false).lane .l0).config.rate.byteTime) = 2 * 40) ∧
    (f.mode = .lineFault ∧ 2000 ≤ f.quiet) ∧ (laneIn .ready).resetting = none := by decide
theorem base_claims_placed : base.ClaimsPlaced := by
  intro l
  cases l <;>
    exact ⟨fun k h => (by cases h), fun g a h => (by cases h), fun g => Nat.zero_le 1, fun f k h => (by cases h),
      fun f g a h => (by cases h)⟩

theorem witness_lanes_kept : base.LanesOk ∧ base.ClaimsPlaced ∧ step base = .next base.pass :=
  ⟨fun l => by cases l <;> unfold Lane.Ok <;> decide, base_claims_placed, rfl⟩
theorem witness_claim_lists_kept : base.ClaimsOk ∧ base.ListsOk ∧ step base = .next base.pass :=
  ⟨fun l => by cases l <;> exact ⟨fun k h => (by cases h), fun f k h => (by cases h)⟩,
    fun l => by cases l <;> exact ⟨[], [], rfl, by simp, by simp, by simp, by simp, fun f h => by cases h⟩, rfl⟩
theorem witness_claims_placed_kept : base.ClaimsOk ∧ base.ClaimsPlaced ∧ step base = .next base.pass :=
  ⟨witness_claim_lists_kept.1, base_claims_placed, rfl⟩
theorem witness_transaction_bytes_fixed :
    (∃ u g, exec (.responseCharacterReceived .l0 0x01 false) (hearing (0x01, false) (busy (flight 60 []))) = .next u ∧
      (u.lane .l0).inFlight = some g) ∧
    ((hearing (0x01, false) (busy (flight 60 []))).lane .l0).mode = .busy ∧
    ((hearing (0x01, false) (busy (flight 60 []))).lane .l0).inFlight = some (flight 60 []) :=
  ⟨⟨_, _, rfl, rfl⟩, rfl, rfl⟩
theorem witness_fetch_takes_oldest_records :
    ([0, 1, 4, 5, 255].all fun k => asks base 0x1C [k]) = true ∧ base.notes.records.length = 1 ∧
    (TimerId.b, (1 : Byte)) ∈ ([(.a, 0), (.b, 1)] : List (TimerId × Byte)) ∧
    (LaneId.l3, (3 : Byte)) ∈ ([(.l0, 0), (.l1, 1), (.l2, 2), (.l3, 3)] : List (LaneId × Byte)) ∧
    (Outcome.notDue, (14 : Byte)) ∈ ([(.notDue, 14), (.empty, 15)] : List (Outcome × Byte)) := by decide

/-- A queue of `n` HOST_LOST records. -/
def lostQueue (n : Nat) : NoteQueue :=
  { records := (List.range n).map fun i => { number := BitVec.ofNat 16 i, time := 0, body := .hostLost }
    counter := BitVec.ofNat 16 n }

theorem witness_notes_stored_in_order :
    (lostQueue 30).records.length < 31 ∧ (lostQueue 31).records.length = 31 ∧
    (∀ n ∈ (lostQueue 31).records, n.isOverflow = false) ∧
    ((lostQueue 31).hand 0 .hostLost).records = (lostQueue 31).records ++ [{ number := 31, time := 0, body := .overflow 1 }] ∧
    ((lostQueue 31).hand 0 .hostLost).Ok ∧ base.notes.Ok := by
  unfold NoteQueue.Ok; decide

end Sys2Proof.Tests
end

section
/-!
SUPPORT. What a step can do, said once: `step_does` takes every step apart into quiet changes (`State.Calm`, in which no
frame, claim, transaction or result buffer takes part), one happening of the timers, lanes or buffers
(`State.Effect`), and the posting of a timer's claims (`State.Posts`). The invariants of frames, claims and buffers are
proved over these cases and never over the commands.
-/

-- One declaration at a time: a thread of its own for each proof takes more memory than the check allows.
set_option Elab.async false

namespace Sys2Proof.Machine

/-! ### A step -/

/-- A step runs a command, on a state that may differ in its queue of commands, or lets half a tick pass. -/
theorem step_cases {s t : State} (h : step s = .next t) :
    (∃ c q, exec c { s with pending := q } = .next t) ∨ t = s.pass := by
  unfold step at h
  split at h
  · next c rest _ => exact .inl ⟨c, rest, h⟩
  · unfold idle at h
    split at h
    · next c _ => exact .inl ⟨c, s.pending, h⟩
    · cases h; exact .inr rfl

/-! ### Quiet changes -/

/-- A timer keeps its configuration, its state, its frame and its position; SYNC does not rise. -/
structure Timer.Calm (x y : Timer) : Prop where
  config : y.config = x.config
  mode : y.mode = x.mode
  run : y.run = x.run
  frame : y.frame = x.frame
  round : y.round = x.round
  tick : y.tick = x.tick
  closeDue : y.closeDue = x.closeDue
  posted : y.posted = x.posted
  missed : x.missed ≤ 65535 → y.missed ≤ 65535
  sync : x.sync = false → y.sync = false

theorem Timer.Calm.refl (x : Timer) : x.Calm x := ⟨rfl, rfl, rfl, rfl, rfl, rfl, rfl, rfl, id, id⟩

theorem Timer.Calm.trans {x y z : Timer} (h : x.Calm y) (k : y.Calm z) : x.Calm z :=
  ⟨k.config.trans h.config, k.mode.trans h.mode, k.run.trans h.run, k.frame.trans h.frame, k.round.trans h.round,
    k.tick.trans h.tick, k.closeDue.trans h.closeDue, k.posted.trans h.posted, k.missed ∘ h.missed, k.sync ∘ h.sync⟩

/-- The claim of a transaction, and whether it is an orphan. -/
def InFlight.key (f : InFlight) : Claim × Bool := (f.claim, f.orphan)

/-- The lane of an acyclic entry, and whether it is IN_FLIGHT. -/
def AcyclicEntry.place (e : AcyclicEntry) : LaneId × Bool := (e.lane, e.inFlight)

/-- A change in which no frame, active table, result buffer, claim, transaction or acyclic entry takes part. -/
structure State.Calm (s t : State) : Prop where
  timers : ∀ i, (s.timer i).Calm (t.timer i)
  active : ∀ i, (t.table i).active = (s.table i).active
  results : t.results = s.results
  claims : ∀ l, (t.lane l).claims = (s.lane l).claims
  flight : ∀ l, (t.lane l).inFlight.map InFlight.key = (s.lane l).inFlight.map InFlight.key
  acyclic : ∀ tag, (t.acyclicEntry tag).map AcyclicEntry.place = (s.acyclicEntry tag).map AcyclicEntry.place

theorem State.Calm.trans {s t u : State} (h : s.Calm t) (k : t.Calm u) : s.Calm u :=
  ⟨fun i => (h.timers i).trans (k.timers i), fun i => (k.active i).trans (h.active i), k.results.trans h.results,
    fun l => (k.claims l).trans (h.claims l), fun l => (k.flight l).trans (h.flight l),
    fun g => (k.acyclic g).trans (h.acyclic g)⟩

/-- A change outside the timers, tables, result buffers, lanes and the acyclic table is quiet. -/
theorem State.Calm.of_same {s t : State} (htimers : t.timers = s.timers := by simp)
    (htables : t.tables = s.tables := by simp) (hresults : t.results = s.results := by simp)
    (hlanes : t.lanes = s.lanes := by simp) (hacyclic : t.acyclic = s.acyclic := by simp) : s.Calm t where
  timers i := by simp only [State.timer, htimers]; exact .refl _
  active i := by simp only [State.table, htables]
  results := hresults
  claims l := by simp only [State.lane, hlanes]
  flight l := by simp only [State.lane, hlanes]
  acyclic g := by simp only [State.acyclicEntry, hacyclic]

theorem State.Calm.refl (s : State) : s.Calm s := .of_same

theorem State.Calm.onTimer {s : State} {i : TimerId} {f : Timer → Timer} (h : (s.timer i).Calm (f (s.timer i))) :
    s.Calm (s.onTimer i f) where
  timers j := by
    rw [State.onTimer_timer]
    split
    · next hj => subst hj; exact h
    · exact .refl _
  active _ := rfl
  results := rfl
  claims _ := rfl
  flight _ := rfl
  acyclic _ := rfl

theorem State.Calm.onTables {s : State} {i : TimerId} {f : Tables → Tables}
    (h : (f (s.table i)).active = (s.table i).active) : s.Calm (s.onTables i f) where
  timers _ := .refl _
  active j := by
    rw [State.onTables_table]
    split
    · next hj => subst hj; exact h
    · rfl
  results := rfl
  claims _ := rfl
  flight _ := rfl
  acyclic _ := rfl

theorem State.Calm.onLane {s : State} {l : LaneId} {f : Lane → Lane}
    (hclaims : (f (s.lane l)).claims = (s.lane l).claims := by rfl)
    (hflight : (f (s.lane l)).inFlight.map InFlight.key = (s.lane l).inFlight.map InFlight.key := by rfl) :
    s.Calm (s.onLane l f) where
  timers _ := .refl _
  active _ := rfl
  results := rfl
  claims m := by
    rw [State.onLane_lane]
    split
    · next hm => subst hm; exact hclaims
    · rfl
  flight m := by
    rw [State.onLane_lane]
    split
    · next hm => subst hm; exact hflight
    · rfl
  acyclic _ := rfl

/-- The entry with a tag after a change of entries that leaves their tags. -/
theorem State.acyclicEntry_onAcyclic (s : State) (g tag : Half) (f : AcyclicEntry → AcyclicEntry)
    (hf : ∀ e, (f e).tag = e.tag) :
    (s.onAcyclic g f).acyclicEntry tag = (s.acyclicEntry tag).map fun e => if e.tag = g then f e else e := by
  simp only [State.acyclicEntry, State.onAcyclic, List.find?_map]
  congr 2
  funext e
  simp only [Function.comp_apply]
  split <;> simp [hf]

theorem State.acyclicEntry_tag {s : State} {tag : Half} {e : AcyclicEntry} (h : s.acyclicEntry tag = some e) :
    e.tag = tag := by simpa using List.find?_some h

theorem State.Calm.onAcyclic {s : State} {g : Half} {f : AcyclicEntry → AcyclicEntry}
    (htag : ∀ e, (f e).tag = e.tag) (hplace : ∀ e, (f e).place = e.place) : s.Calm (s.onAcyclic g f) where
  timers _ := .refl _
  active _ := rfl
  results := rfl
  claims _ := rfl
  flight _ := rfl
  acyclic tag := by
    rw [State.acyclicEntry_onAcyclic _ _ _ _ htag, Option.map_map]
    congr 1
    funext e
    simp only [Function.comp_apply]
    split <;> simp [hplace]

/-! ### Happenings -/

/-- The happenings in which frames, claims, transactions or result buffers take part, each with what the command that
causes it has tested. -/
inductive State.Effect : State → State → Prop
  | none (s : State) : Effect s s
  | configures {s : State} {i : TimerId} {c : TimerConfig} : (s.timer i).mode = .stopped → c.Ok →
      Effect s (s.onTimer i fun x => { x with config := c })
  | starts {s : State} {i : TimerId} : (s.timer i).mode = .stopped →
      Effect s (s.onTimer i fun x =>
        { x with mode := .armed, run := x.run + 1, frame := 0, missed := 0, firstDue := false })
  | drains {s : State} {i : TimerId} : (s.timer i).mode = .running →
      Effect s (s.onTimer i fun x => { x with mode := .draining })
  | disarms {s : State} {i : TimerId} : (s.timer i).mode = .armed → Effect s (s.halt i)
  | stopsWaiting {s : State} {i : TimerId} : (s.timer i).mode = .waiting → Effect s (s.stopWaiting i)
  | stopsRunning {s : State} {i : TimerId} : (s.timer i).mode.inFrame = true → Effect s (s.stopRunning i)
  | commits {s : State} {i : TimerId} : (s.timer i).mode.inFrame = false → Effect s (s.commitNow i)
  | holds {s : State} {i : TimerId} : Effect s (s.onBuffers i fun bs => bs.hold.1)
  | releases {s : State} {i : TimerId} : Effect s (s.onBuffers i fun bs => bs.release.1)
  | accepts {s : State} {e : AcyclicEntry} : s.acyclicEntry e.tag = .none → e.inFlight = false →
      Effect s (s.acceptTransact e)
  | drops {s : State} {tag : Half} {e : AcyclicEntry} {o : Outcome} : s.acyclicEntry tag = some e →
      e.inFlight = false → Effect s (s.dropAcyclic e o)
  | resolves {s : State} {l : LaneId} {o : Outcome} : o.isGood = false → Effect s (s.resolveAll l o)
  | resets {s : State} {pins : Pins} {q : List Instr} {r : Option Resetting} : Effect s (State.cleared pins q r)
  | opensFirst {s u : State} {i : TimerId} : (s.timer i).mode = .armed → s.firstFrame i = some u → Effect s u
  | opensNext {s : State} {i : TimerId} : (s.timer i).mode = .waiting → Effect s (s.nextFrame i)
  | drained {s : State} {i : TimerId} : (s.timer i).mode = .draining → Effect s ((s.closeFrame i).drain i)
  | waits {s u : State} {i : TimerId} : (s.timer i).mode = .running → (s.closeFrame i).prepareNext i = some u →
      Effect s (u.onTimer i fun x => x.rest .waiting)
  | goesOn {s u : State} {i : TimerId} : (s.timer i).mode = .running → (s.closeFrame i).prepareNext i = some u →
      Effect s (u.nextFrame i)
  | grants {s : State} {l : LaneId} {f : InFlight} {rest : List Claim} : s.grantable l = some (f, rest) →
      Effect s
        ((s.onLane l fun x => { x with mode := .busy, claims := rest, inFlight := some f }).markGranted f.claim)
  | expires {s : State} {l : LaneId} {k : CyclicClaim} : Claim.cyclic k ∈ (s.lane l).claims →
      Effect s
        ((s.onLane l fun x => { x with claims := x.claims.erase (.cyclic k) }).deliverWaiting l .late (.cyclic k))
  | ends {s : State} {l : LaneId} {f : InFlight} {o : Outcome} {d : List Byte} : (s.lane l).inFlight = some f →
      Effect s (s.endTransaction l f o d)
  | ticks {s : State} : Effect s { s with timers := ⟨s.timers.a.advance, s.timers.b.advance⟩ }

/-- The posting of a timer's claims for a tick at which it has not posted yet, or nothing. -/
def State.Posts (s t : State) : Prop :=
  t = s ∨ ∃ i, (s.timer i).mode.inFrame = true ∧ (s.timer i).closeDue = false ∧ (s.timer i).posted = false ∧
    t = s.postAll i

/-- What a step can do: a happening and the posting after it, between quiet changes. -/
def State.Does (s t : State) : Prop := ∃ u v w, s.Calm u ∧ u.Effect v ∧ v.Posts w ∧ w.Calm t

theorem State.Calm.does {s t : State} (h : s.Calm t) : s.Does t := ⟨s, s, s, .refl s, .none s, .inl rfl, h⟩

theorem State.Effect.does {s t : State} (h : s.Effect t) : s.Does t := ⟨s, t, t, .refl s, h, .inl rfl, .refl t⟩

theorem State.Does.refl (s : State) : s.Does s := (State.Calm.refl s).does

theorem State.Does.after {s t u : State} (h : s.Calm t) : t.Does u → s.Does u :=
  fun ⟨a, b, c, ha, hb, hc, hd⟩ => ⟨a, b, c, h.trans ha, hb, hc, hd⟩

theorem State.Does.calm {s t u : State} (h : s.Does t) (k : t.Calm u) : s.Does u :=
  have ⟨a, b, c, ha, hb, hc, hd⟩ := h
  ⟨a, b, c, ha, hb, hc, hd.trans k⟩

/-! ### Taking a request -/

theorem State.take_does {s : State} {rq : Request} {run : State → State} (h : ∀ u : State, u.Does (run u)) :
    s.Does (s.take rq run) := by
  obtain hs | ⟨u, hu, ⟨k, -, hk⟩ | hr⟩ := s.take_cases rq run
  · rw [hs]; exact .refl s
  · rw [hk]
    obtain ⟨-, -, -, rest, rfl, -⟩ := State.accept_some hu
    exact State.Calm.does .of_same
  · rw [hr]
    obtain ⟨-, -, -, rest, rfl, -⟩ := State.accept_some hu
    exact .after .of_same (h _)

theorem State.serve_does {s : State} {seq kind : Byte} {p : List Byte} {owner : State → State × Answer}
    (h : ∀ u : State, u.Does (owner u).1) : s.Does (s.serve seq kind p owner) :=
  State.take_does fun u => (h u).calm .of_same

/-! ### The owners of the requests -/

theorem State.sleepLane_does (s : State) (l : LaneId) : s.Does (s.sleepLane l).1 := by
  unfold State.sleepLane
  split
  · exact .after .onLane (State.Effect.resolves rfl).does
  · dsimp only
    exact State.Calm.does .onLane
  all_goals exact .refl s

theorem ownSleepLane_does (p : List Byte) (s : State) : s.Does (ownSleepLane p s).1 := by
  unfold ownSleepLane
  split
  · split
    · exact s.sleepLane_does _
    · exact .refl s
  · exact .refl s

theorem State.wakeLane_does (s : State) (l : LaneId) : s.Does (s.wakeLane l).1 := by
  unfold State.wakeLane
  split
  · dsimp only
    exact State.Calm.does .onLane
  · dsimp only
    exact State.Calm.does .onLane
  · split
    · dsimp only
      exact State.Calm.does .onLane
    · exact .refl s
  all_goals exact .refl s

theorem ownWakeLane_does (p : List Byte) (s : State) : s.Does (ownWakeLane p s).1 := by
  unfold ownWakeLane
  split
  · split
    · exact s.wakeLane_does _
    · exact .refl s
  · exact .refl s

theorem State.configureTo_calm (s : State) (l : LaneId) (c : LaneConfig) : s.Calm (s.configureTo l c) := by
  refine ⟨fun _ => .refl _, fun _ => rfl, rfl, fun m => ?_, fun m => ?_, fun _ => rfl⟩ <;>
    (simp only [State.configureTo, State.lane, State.onLane, Four.get_set]; split <;> simp_all)

theorem ownConfigureLane_does (p : List Byte) (s : State) : s.Does (ownConfigureLane p s).1 := by
  unfold ownConfigureLane
  split
  · split
    · unfold State.tryConfigureLane
      split
      · exact .refl s
      · split
        · exact .refl s
        · exact (s.configureTo_calm _ _).does
    · exact .refl s
  · exact .refl s

theorem byteAt_lt (p : List Byte) (i : Nat) : byteAt p i < 256 := (p.getD i 0).isLt

theorem halfAt_lt (p : List Byte) (i : Nat) : halfAt p i < 65536 := by
  have h1 := byteAt_lt p i
  have h2 := byteAt_lt p (i + 1)
  unfold halfAt; omega

/-- A configuration that is read from a payload is in range (R1). -/
theorem parseTimerConfig_ok {p : List Byte} {c : TimerConfig} (h : parseTimerConfig p = some c) : c.Ok := by
  unfold parseTimerConfig at h
  split at h
  · dsimp only at h
    split at h
    · next hc =>
      cases h
      obtain ⟨h1, h2, h3, h4, h5, h6, h7, h8⟩ := hc
      have := halfAt_lt p 1
      exact ⟨h1, Nat.le_of_lt_succ this, h2, h3, h4, h5, h6, h7, h8⟩
    · cases h
  · cases h

theorem ownConfigureTimer_does (p : List Byte) (s : State) : s.Does (ownConfigureTimer p s).1 := by
  unfold ownConfigureTimer
  split
  · split
    · unfold State.configureTimer
      split
      · exact .refl s
      · next hm =>
        split
        · exact .refl s
        · next c hc =>
          split
          · exact .refl s
          · exact (State.Effect.configures (not_not.mp hm) (parseTimerConfig_ok hc)).does
    · exact .refl s
  · exact .refl s

theorem ownStart_does (p : List Byte) (s : State) : s.Does (ownStart p s).1 := by
  unfold ownStart
  split
  · split
    · unfold State.startTimer
      split
      · next hm => exact (State.Effect.starts hm).does
      · exact .refl s
    · exact .refl s
  · exact .refl s

theorem State.stopAtEnd_does (s : State) (i : TimerId) : s.Does (s.stopAtEnd i) := by
  unfold State.stopAtEnd
  split
  · next h => exact (State.Effect.drains h).does
  · exact .refl s
  · next h => exact (State.Effect.disarms h).does
  · next h => exact (State.Effect.stopsWaiting h).does
  · exact .refl s

theorem State.stopAtOnce_does (s : State) (i : TimerId) : s.Does (s.stopAtOnce i) := by
  unfold State.stopAtOnce
  split
  · next h => exact (State.Effect.stopsRunning (by rw [h]; rfl)).does
  · next h => exact (State.Effect.stopsRunning (by rw [h]; rfl)).does
  · next h => exact (State.Effect.disarms h).does
  · next h => exact (State.Effect.stopsWaiting h).does
  · exact .refl s

theorem ownStop_does {act : State → TimerId → State} (hact : ∀ (s : State) (i : TimerId), s.Does (act s i))
    (p : List Byte) (code : Nat) (s : State) : s.Does (ownStop p code act s).1 := by
  unfold ownStop
  split
  · split
    · split
      · exact hact s _
      · exact .refl s
    · exact .refl s
  · exact .refl s

theorem ownStageEntry_does (p : List Byte) (s : State) : s.Does (ownStageEntry p s).1 := by
  unfold ownStageEntry
  split
  · split
    · split
      · unfold State.stage
        dsimp only
        split
        · exact .refl s
        · split
          · dsimp only
            exact State.Calm.does (.onTables (by rfl))
          · split
            · dsimp only
              exact State.Calm.does (.onTables (by rfl))
            · exact .refl s
      · exact .refl s
    · exact .refl s
  · exact .refl s

theorem ownClearStaged_does (p : List Byte) (s : State) : s.Does (ownClearStaged p s).1 := by
  unfold ownClearStaged
  split
  · split
    · split
      · exact .refl s
      · dsimp only
        exact State.Calm.does (.onTables (by rfl))
    · exact .refl s
  · exact .refl s

theorem State.commitTable_does (s : State) (i : TimerId) : s.Does (s.commitTable i).1 := by
  unfold State.commitTable
  split
  · exact .refl s
  · split
    · exact .refl s
    · split
      · dsimp only
        exact State.Calm.does (.trans (.onTables (by rfl)) (.onTimer ⟨rfl, rfl, rfl, rfl, rfl, rfl, rfl, rfl, id, id⟩))
      · next h => exact (State.Effect.commits (Bool.eq_false_iff.mpr h)).does

theorem ownCommit_does (p : List Byte) (s : State) : s.Does (ownCommit p s).1 := by
  unfold ownCommit
  split
  · split
    · exact s.commitTable_does _
    · exact .refl s
  · exact .refl s

theorem ownWithdraw_does (p : List Byte) (s : State) : s.Does (ownWithdraw p s).1 := by
  unfold ownWithdraw
  split
  · split
    · split
      · dsimp only
        exact State.Calm.does (.trans (.onTimer ⟨rfl, rfl, rfl, rfl, rfl, rfl, rfl, rfl, id, id⟩) (.onTables (by rfl)))
      · exact .refl s
    · exact .refl s
  · exact .refl s

theorem ownWriteOutput_does (p : List Byte) (s : State) : s.Does (ownWriteOutput p s).1 := by
  unfold ownWriteOutput
  split
  · dsimp only
    exact State.Calm.does .of_same
  · exact .refl s

theorem ownWriteFallback_does (p : List Byte) (s : State) : s.Does (ownWriteFallback p s).1 := by
  unfold ownWriteFallback
  split
  · dsimp only
    exact State.Calm.does .of_same
  · exact .refl s

theorem State.publishImage_does (s : State) (i : TimerId) : s.Does (s.publishImage i).1 := by
  unfold State.publishImage
  split
  · exact .refl s
  · split
    · split
      · exact .refl s
      · dsimp only
        exact State.Calm.does (.onTimer ⟨rfl, rfl, rfl, rfl, rfl, rfl, rfl, rfl, id, id⟩)
    · dsimp only
      exact State.Calm.does (.trans (.of_same (t := s.onOutputs i fun o => { o with active := o.staged }))
          (.onTimer ⟨rfl, rfl, rfl, rfl, rfl, rfl, rfl, rfl, id, id⟩))

theorem ownPublish_does (p : List Byte) (s : State) : s.Does (ownPublish p s).1 := by
  unfold ownPublish
  split
  · split
    · exact s.publishImage_does _
    · exact .refl s
  · exact .refl s

theorem ownSetSupervision_does (p : List Byte) (s : State) : s.Does (ownSetSupervision p s).1 := by
  unfold ownSetSupervision
  split
  · unfold State.superviseFor
    split
    · exact .refl s
    · split
      · exact .refl s
      · split
        · dsimp only
          exact State.Calm.does .of_same
        · dsimp only
          exact State.Calm.does .of_same
  · exact .refl s

theorem ownResume_does (p : List Byte) (s : State) : s.Does (ownResume p s).1 := by
  unfold ownResume
  split
  · split
    · dsimp only
      exact State.Calm.does .of_same
    · exact .refl s
  · exact .refl s

theorem ownHold_does (p : List Byte) (s : State) : s.Does (ownHold p s).1 := by
  unfold ownHold
  split
  · split
    · exact (State.Effect.holds).does
    · exact .refl s
  · exact .refl s

theorem ownRelease_does (p : List Byte) (s : State) : s.Does (ownRelease p s).1 := by
  unfold ownRelease
  split
  · split
    · exact (State.Effect.releases).does
    · exact .refl s
  · exact .refl s

/-- A request that only reads changes nothing. -/
theorem ownReads_same (p : List Byte) (s : State) :
    (ownQuery p s).1 = s ∧ (ownReadEntry p s).1 = s ∧ (ownReadImage p s).1 = s ∧ (ownReadStatus p s).1 = s ∧
      (ownReadNode p s).1 = s := by
  refine ⟨?_, ?_, ?_, ?_, ?_⟩
  · unfold ownQuery; split <;> rfl
  · unfold ownReadEntry; (repeat' split) <;> rfl
  · unfold ownReadImage; dsimp only; (repeat' split) <;> rfl
  · unfold ownReadStatus; dsimp only; (repeat' split) <;> rfl
  · unfold ownReadNode; (repeat' split) <;> rfl

theorem parseTransact_waiting {p : List Byte} {now : Time} {e : AcyclicEntry} (h : parseTransact p now = some e) :
    e.inFlight = false := by
  unfold parseTransact at h
  split at h
  · split at h
    · cases h; rfl
    · cases h
  · cases h

theorem State.transactRefusal_none {s : State} {e : AcyclicEntry} (h : s.transactRefusal e = none) :
    s.acyclicEntry e.tag = none := by
  unfold State.transactRefusal at h
  split at h
  · cases h
  · split at h
    · cases h
    · next hn => simpa using hn

theorem ownTransact_does (p : List Byte) (s : State) : s.Does (ownTransact p s).1 := by
  unfold ownTransact
  split
  · split
    · next e he =>
      split
      · exact .refl s
      · next hr => exact (State.Effect.accepts (State.transactRefusal_none hr) (parseTransact_waiting he)).does
    · exact .refl s
  · exact .refl s

theorem ownCancel_does (p : List Byte) (s : State) : s.Does (ownCancel p s).1 := by
  unfold ownCancel
  split
  · split
    · next e he =>
      split
      · exact .refl s
      · next hf => exact (State.Effect.drops he (Bool.eq_false_iff.mpr hf)).does
    · exact .refl s
  · exact .refl s

theorem ownForgetNode_does (p : List Byte) (s : State) : s.Does (ownForgetNode p s).1 := by
  unfold ownForgetNode
  split
  · split
    · dsimp only
      exact State.Calm.does .of_same
    · exact .refl s
  · exact .refl s

theorem ownFetch_does (p : List Byte) (s : State) : s.Does (ownFetch p s).1 := by
  unfold ownFetch
  split
  · split
    · exact State.Calm.does (.of_same rfl rfl rfl rfl rfl)
    · exact .refl s
  · exact .refl s

theorem execReset_does {seq : Byte} {p : List Byte} {s t : State} (h : execReset seq p s = .next t) : s.Does t := by
  unfold execReset at h
  cases h
  refine State.take_does fun u => ?_
  dsimp only
  split
  · exact State.Calm.does .of_same
  · exact State.Calm.does .of_same

/-! ### The host link -/

theorem State.nak_calm (s : State) (seq : Byte) (code : NakCode) : s.Calm (s.nak seq code) := by
  unfold State.nak
  split
  · exact .of_same
  · exact .refl s

theorem State.hostActivity_calm (s : State) : s.Calm s.hostActivity := by
  unfold State.hostActivity
  split
  · exact .of_same
  · exact .refl s

theorem State.judgeFrame_calm (s : State) (got : List Byte) (marked : Bool) : s.Calm (s.judgeFrame got marked) := by
  unfold State.judgeFrame
  dsimp only
  split
  · exact s.nak_calm _ _
  · split
    · exact s.hostActivity_calm.trans .of_same
    · exact s.hostActivity_calm.trans (State.nak_calm _ _ _)

theorem State.receiveByte_calm (s : State) (byte : Byte) (mark : Bool) : s.Calm (s.receiveByte byte mark) := by
  unfold State.receiveByte
  split
  · exact .refl s
  · split
    · exact .of_same
    · dsimp only
      split
      case h_1 => split <;> exact .of_same
      case h_3 =>
        split
        · exact .trans .of_same (State.nak_calm _ _ _)
        · exact .of_same
      case h_6 =>
        split
        · exact .trans .of_same (State.judgeFrame_calm _ _ _)
        · exact .of_same
      all_goals exact .of_same

theorem execReplySent_does {s t : State} (h : execReplySent s = .next t) : s.Does t := by
  unfold execReplySent at h
  cases h
  split
  · split
    · exact .refl s
    · split
      · exact (State.Effect.resets).does
      · exact State.Calm.does .of_same
  · exact .refl s

theorem execRstPin_does {asserted : Bool} {s t : State} (h : execRstPin asserted s = .next t) : s.Does t := by
  unfold execRstPin at h
  cases h
  split
  · exact (State.Effect.resets).does
  · split
    · exact State.Calm.does .of_same
    · exact .refl s

theorem execResetEnd_does {s t : State} (h : execResetEnd s = .next t) : s.Does t := by
  unfold execResetEnd at h
  cases h
  split
  · split
    · exact (State.Effect.resets (pins := s.pins) (q := s.pending) (r := none)).does.calm (.of_same rfl rfl rfl rfl rfl)
    · exact .refl s
  · exact .refl s

/-! ### Timers -/

@[simp] theorem State.frameStart_timer (s : State) (i : TimerId) :
    ((s.frameStart i).timer i).mode = .running ∧ ((s.frameStart i).timer i).closeDue = false ∧
      ((s.frameStart i).timer i).posted = false := by
  simp [State.frameStart, Timer.beginFrame]

/-- A frame start leaves the posting of round 0, tick 0 to be done (R6). -/
theorem State.Effect.does_postAll {s u : State} {i : TimerId} (h : s.Effect (u.frameStart i)) :
    s.Does ((u.frameStart i).postAll i) :=
  have ⟨hm, hc, hp⟩ := u.frameStart_timer i
  ⟨s, _, _, .refl s, h, .inr ⟨i, by rw [hm]; rfl, hc, hp, rfl⟩, .refl _⟩

/-- Everything an operation that needs a FREE buffer can answer. -/
theorem bufferOrFault_next {o : Option State} {t : State} (h : bufferOrFault o = .next t) : o = some t := by
  unfold bufferOrFault at h
  split at h <;> cases h
  rfl

theorem State.openFirst_does {s t : State} {i : TimerId} (hm : (s.timer i).mode = .armed)
    (h : s.openFirst i = some t) : s.Does t := by
  unfold State.openFirst at h
  rw [Option.map_eq_some_iff] at h
  obtain ⟨u, hu, rfl⟩ := h
  have he := State.Effect.opensFirst hm hu
  unfold State.firstFrame at hu
  rw [Option.map_eq_some_iff] at hu
  obtain ⟨bs, -, rfl⟩ := hu
  exact he.does_postAll

theorem State.close_does {s t : State} {i : TimerId} (hm : (s.timer i).mode.inFrame = true)
    (h : s.close i = some t) : s.Does t := by
  unfold State.close at h
  dsimp only at h
  split at h
  · next hd => cases h; exact (State.Effect.drained hd).does
  · next hd =>
    have hrun : (s.timer i).mode = .running := by
      revert hm hd
      cases (s.timer i).mode <;> simp [TimerMode.inFrame]
    rw [Option.map_eq_some_iff] at h
    obtain ⟨u, hu, ht⟩ := h
    subst ht
    split
    · exact (State.Effect.waits hrun hu).does
    · exact (State.Effect.goesOn hrun hu).does_postAll

theorem execFirstFrameStart_does {i : TimerId} {s t : State} (h : execFirstFrameStart i s = .next t) :
    s.Does t := by
  unfold execFirstFrameStart at h
  split at h
  · next hd =>
    simp only [State.firstFrameDue, Bool.and_eq_true, beq_iff_eq] at hd
    exact State.openFirst_does hd.1.1.2 (bufferOrFault_next h)
  · cases h; exact .refl s

theorem execFrameClose_does {i : TimerId} {s t : State} (h : execFrameClose i s = .next t) : s.Does t := by
  unfold execFrameClose at h
  split at h
  · next hd =>
    simp only [State.frameCloseDue, Bool.and_eq_true] at hd
    exact State.close_does hd.1.2 (bufferOrFault_next h)
  · cases h; exact .refl s

theorem execPostClaims_does {i : TimerId} {s t : State} (h : execPostClaims i s = .next t) : s.Does t := by
  unfold execPostClaims at h
  cases h
  split
  · next hd =>
    simp only [State.mayPost, Bool.and_eq_true, Bool.not_eq_true'] at hd
    exact ⟨s, s, _, .refl s, .none s, .inr ⟨i, hd.1.1.2, hd.1.2, hd.2, rfl⟩, .refl _⟩
  · exact .refl s

theorem State.missTrigger_calm (s : State) (i : TimerId) : s.Calm (s.missTrigger i) :=
  .trans (t := s.onTimer i fun x => { x with missed := min (x.missed + 1) 65535 })
    (.onTimer ⟨rfl, rfl, rfl, rfl, rfl, rfl, rfl, rfl, fun _ => Nat.min_le_right _ _, id⟩)
    (.of_same rfl rfl rfl rfl rfl)

theorem State.trigger_does {s t : State} {i : TimerId} (h : s.trigger i = some t) : s.Does t := by
  unfold State.trigger at h
  split at h
  · next hm _ => exact State.openFirst_does hm h
  · next hm _ => exact State.openFirst_does hm h
  · next hm _ => cases h; exact (State.Effect.opensNext hm).does_postAll
  · cases h; exact (s.missTrigger_calm i).does
  · cases h; exact (s.missTrigger_calm i).does
  · cases h; exact .refl s

theorem execTrigEdge_does {i : TimerId} {s t : State} (h : execTrigEdge i s = .next t) : s.Does t := by
  unfold execTrigEdge at h
  split at h
  · cases h; exact .refl s
  · exact State.trigger_does (bufferOrFault_next h)

theorem execSyncEnd_does {i : TimerId} {s t : State} (h : execSyncEnd i s = .next t) : s.Does t := by
  unfold execSyncEnd at h
  cases h
  split
  · exact State.Calm.does (.onTimer ⟨rfl, rfl, rfl, rfl, rfl, rfl, rfl, rfl, id, fun _ => rfl⟩)
  · exact .refl s

/-! ### Lanes -/

theorem execGrant_does {l : LaneId} {s t : State} (h : execGrant l s = .next t) : s.Does t := by
  unfold execGrant at h
  cases h
  split
  · next hg => exact (State.Effect.grants hg).does
  · exact .refl s

/-- A claim that expires waits in its lane's list. -/
theorem State.expired_mem {s : State} {l : LaneId} {i : TimerId} {position : Nat} {k : CyclicClaim}
    (h : s.expired l i position = some k) : Claim.cyclic k ∈ (s.lane l).claims := by
  unfold State.expired at h
  split at h
  · cases h
  · split at h
    · next c hc =>
      split at h
      · cases h; exact List.mem_of_find?_eq_some hc
      · cases h
    · cases h

theorem execClaimExpiry_does {l : LaneId} {i : TimerId} {position : Nat} {s t : State}
    (h : execClaimExpiry l i position s = .next t) : s.Does t := by
  unfold execClaimExpiry at h
  cases h
  split
  · next hk => exact (State.Effect.expires (State.expired_mem hk)).does
  · exact .refl s

/-- What a test on the transaction in flight picks is that transaction. -/
theorem State.endTransaction_does {s : State} {l : LaneId} {f : InFlight} (o : Outcome) (d : List Byte)
    (h : s.flight l = some f) : s.Does (s.endTransaction l f o d) :=
  (State.Effect.ends (State.flight_eq_some.mp h).2).does

theorem State.echoFails_flight {s : State} {l : LaneId} {f : InFlight} (h : s.echoFails l = some f) :
    s.flight l = some f := by
  unfold State.echoFails at h
  split at h
  · next hf => split at h <;> cases h; exact hf
  · cases h

theorem State.broadcastOver_flight {s : State} {l : LaneId} {f : InFlight} (h : s.broadcastOver l = some f) :
    s.flight l = some f := by
  unfold State.broadcastOver at h
  split at h
  · next hf => split at h <;> cases h; exact hf
  · cases h

theorem State.responseOver_flight {s : State} {l : LaneId} {f : InFlight} (h : s.responseOver l = some f) :
    s.flight l = some f := by
  unfold State.responseOver at h
  split at h
  · next hf => split at h <;> cases h; exact hf
  · cases h

theorem State.characterLimitOver_flight {s : State} {l : LaneId} {f : InFlight}
    (h : s.characterLimitOver l = some f) : s.flight l = some f := by
  unfold State.characterLimitOver at h
  split at h
  · next hf => split at h <;> cases h; exact hf
  · cases h

theorem State.lastIn_flight {s : State} {l : LaneId} {f : InFlight} {c : Byte × Bool}
    (h : s.lastIn l = some (f, c)) : s.flight l = some f :=
  (State.arriving_eq_some.mp (Option.filter_eq_some_iff.mp h).1).1

theorem State.characterIn_flight {s : State} {l : LaneId} {f : InFlight} {c : Byte × Bool}
    (h : s.characterIn l = some (f, c)) : s.flight l = some f :=
  (State.arriving_eq_some.mp (Option.filter_eq_some_iff.mp h).1).1

theorem State.failEcho_does (s : State) (l : LaneId) : s.Does (s.failEcho l) := by
  unfold State.failEcho
  split
  · next h => exact State.endTransaction_does _ _ (State.echoFails_flight h)
  · split
    · exact State.Calm.does .onLane
    · exact .refl s

theorem execResponseCharacterReceived_does {l : LaneId} {byte : Byte} {mark : Bool} {s t : State}
    (h : execResponseCharacterReceived l byte mark s = .next t) : s.Does t := by
  unfold execResponseCharacterReceived at h
  cases h
  split
  · next f c hc =>
    split
    · exact State.Calm.does (.onLane (hflight := by
        rw [(State.flight_eq_some.mp (State.characterIn_flight hc)).2]; rfl))
    · exact .refl s
  · exact .refl s

theorem execResponseComplete_does {l : LaneId} {byte : Byte} {mark : Bool} {s t : State}
    (h : execResponseComplete l byte mark s = .next t) : s.Does t := by
  unfold execResponseComplete at h
  cases h
  split
  · next f c hc =>
    split
    · exact State.endTransaction_does _ _ (State.lastIn_flight hc)
    · exact .refl s
  · exact .refl s

/-- A lane's own happening that changes its state and at most notifies is quiet. -/
theorem State.Calm.onLane_notify {s : State} {l : LaneId} {f : Lane → Lane} {body : NoteBody}
    (hclaims : (f (s.lane l)).claims = (s.lane l).claims := by rfl)
    (hflight : (f (s.lane l)).inFlight.map InFlight.key = (s.lane l).inFlight.map InFlight.key := by rfl) :
    s.Calm ((s.onLane l f).notify body) := .trans (.onLane hclaims hflight) .of_same

theorem execSleepCommandEnd_does {l : LaneId} {s t : State} (h : execSleepCommandEnd l s = .next t) :
    s.Does t := by
  unfold execSleepCommandEnd at h
  cases h
  split
  · split
    · exact State.Calm.does .onLane
    · exact State.Calm.does .onLane_notify
  · exact .refl s

theorem execLineFault_does {l : LaneId} {s t : State} (h : execLineFault l s = .next t) : s.Does t := by
  unfold execLineFault at h
  cases h
  split
  · exact .after .onLane_notify (State.Effect.resolves rfl).does
  · exact .refl s

theorem execAcyclicTimeout_does {tag : Half} {s t : State} (h : execAcyclicTimeout tag s = .next t) :
    s.Does t := by
  unfold execAcyclicTimeout at h
  cases h
  split
  · next e he =>
    split
    · unfold State.timeOut
      split
      · refine State.Calm.does (.onAcyclic ?_ ?_) <;> exact fun _ => rfl
      · next hf => exact (State.Effect.drops he (Bool.eq_false_iff.mpr hf)).does
    · exact .refl s
  · exact .refl s

theorem execSupervisionExpiry_does {s t : State} (h : execSupervisionExpiry s = .next t) : s.Does t := by
  unfold execSupervisionExpiry at h
  cases h
  split
  · refine State.Calm.does ⟨fun i => ?_, fun _ => rfl, rfl, fun _ => rfl, fun _ => rfl, fun _ => rfl⟩
    cases i <;> exact ⟨rfl, rfl, rfl, rfl, rfl, rfl, rfl, rfl, id, id⟩
  · exact .refl s

/-! ### Every command and the passing of time -/

/-- What a command can do. -/
theorem exec_does {c : Instr} {s t : State} (h : exec c s = .next t) : s.Does t := by
  cases c
  case query seq p => cases h; exact State.serve_does fun u => by rw [(ownReads_same p u).1]; exact .refl u
  case reset => exact execReset_does h
  case configureLane seq p => cases h; exact State.serve_does (ownConfigureLane_does p)
  case sleepLane seq p => cases h; exact State.serve_does (ownSleepLane_does p)
  case wakeLane seq p => cases h; exact State.serve_does (ownWakeLane_does p)
  case configureTimer seq p => cases h; exact State.serve_does (ownConfigureTimer_does p)
  case start seq p => cases h; exact State.serve_does (ownStart_does p)
  case stopEnd seq p =>
    cases h
    split
    · exact .refl s
    · exact State.serve_does (ownStop_does State.stopAtEnd_does p 0)
  case stopNow seq p =>
    cases h
    split
    · exact .refl s
    · exact State.serve_does (ownStop_does State.stopAtOnce_does p 1)
  case stageEntry seq p => cases h; exact State.serve_does (ownStageEntry_does p)
  case clearStaged seq p => cases h; exact State.serve_does (ownClearStaged_does p)
  case readEntry seq p => cases h; exact State.serve_does fun u => by rw [(ownReads_same p u).2.1]; exact .refl u
  case commit seq p => cases h; exact State.serve_does (ownCommit_does p)
  case withdraw seq p => cases h; exact State.serve_does (ownWithdraw_does p)
  case writeOutput seq p => cases h; exact State.serve_does (ownWriteOutput_does p)
  case writeFallback seq p => cases h; exact State.serve_does (ownWriteFallback_does p)
  case publish seq p => cases h; exact State.serve_does (ownPublish_does p)
  case setSupervision seq p => cases h; exact State.serve_does (ownSetSupervision_does p)
  case resume seq p => cases h; exact State.serve_does (ownResume_does p)
  case hold seq p => cases h; exact State.serve_does (ownHold_does p)
  case readImage seq p =>
    cases h; exact State.serve_does fun u => by rw [(ownReads_same p u).2.2.1]; exact .refl u
  case readStatus seq p =>
    cases h; exact State.serve_does fun u => by rw [(ownReads_same p u).2.2.2.1]; exact .refl u
  case release seq p => cases h; exact State.serve_does (ownRelease_does p)
  case transact seq p => cases h; exact State.serve_does (ownTransact_does p)
  case cancel seq p => cases h; exact State.serve_does (ownCancel_does p)
  case readNode seq p =>
    cases h; exact State.serve_does fun u => by rw [(ownReads_same p u).2.2.2.2]; exact .refl u
  case forgetNode seq p => cases h; exact State.serve_does (ownForgetNode_does p)
  case fetch seq p => cases h; exact State.serve_does (ownFetch_does p)
  case duplicateReplay seq kind p =>
    cases h
    split
    · exact State.take_does .refl
    · exact .refl s
  case unknownKind seq kind p =>
    cases h
    split
    · exact .refl s
    · exact State.serve_does .refl
  case frameReceived byte mark =>
    cases h
    split
    · exact (s.receiveByte_calm byte mark).does
    · exact .refl s
  case lengthNak byte mark =>
    cases h
    split
    · exact (s.receiveByte_calm byte mark).does
    · exact .refl s
  case partialFrameDiscard =>
    cases h
    split
    · exact State.Calm.does .of_same
    · exact .refl s
  case skipEnd =>
    cases h
    split
    · exact State.Calm.does .of_same
    · exact .refl s
  case replySent => exact execReplySent_does h
  case powerOn good => cases h; exact (State.Effect.resets).does
  case rstPin => exact execRstPin_does h
  case resetEnd => exact execResetEnd_does h
  case firstFrameStart => exact execFirstFrameStart_does h
  case frameClose => exact execFrameClose_does h
  case postClaims => exact execPostClaims_does h
  case syncEnd => exact execSyncEnd_does h
  case trigEdge => exact execTrigEdge_does h
  case grant => exact execGrant_does h
  case claimExpiry => exact execClaimExpiry_does h
  case echoMismatch l echo =>
    cases h
    split
    · exact s.failEcho_does l
    · exact .refl s
  case responseTimeout l =>
    cases h
    split
    · next hf => exact State.endTransaction_does _ _ (State.responseOver_flight hf)
    · exact .refl s
  case characterLimitExpiry l =>
    cases h
    split
    · next hf => exact State.endTransaction_does _ _ (State.characterLimitOver_flight hf)
    · exact .refl s
  case responseComplete => exact execResponseComplete_does h
  case broadcastComplete l =>
    cases h
    split
    · next hf => exact State.endTransaction_does _ _ (State.broadcastOver_flight hf)
    · exact .refl s
  case sleepCommandStart l =>
    cases h
    split
    · exact State.Calm.does .onLane
    · exact .refl s
  case sleepCommandEnd => exact execSleepCommandEnd_does h
  case wakePulseEnd l =>
    cases h
    split
    · exact State.Calm.does .onLane
    · exact .refl s
  case settleEnd l =>
    cases h
    split
    · exact State.Calm.does .onLane_notify
    · exact .refl s
  case nodeWake l =>
    cases h
    split
    · exact State.Calm.does .onLane_notify
    · exact .refl s
  case lineFault => exact execLineFault_does h
  case lineFaultRecovery l =>
    cases h
    split
    · exact State.Calm.does .onLane_notify
    · exact .refl s
  case acyclicTimeout => exact execAcyclicTimeout_does h
  case supervisionExpiry => exact execSupervisionExpiry_does h
  case responseCharacterReceived => exact execResponseCharacterReceived_does h
  case hostByteReceived byte mark => cases h; exact (s.receiveByte_calm byte mark).does

theorem State.halfTick_calm (s : State) : s.Calm s.halfTick where
  timers _ := .refl _
  active _ := rfl
  results := rfl
  claims l := by simp
  flight l := by simp only [State.halfTick_lane, Lane.halfTick_inFlight, Option.map_map]; rfl
  acyclic _ := rfl

theorem State.pass_does (s : State) : s.Does s.pass := by
  obtain ⟨r, -, h | h⟩ | ⟨-, -, h⟩ | ⟨-, -, h⟩ := s.pass_cases
  · rw [h]; exact State.Calm.does .of_same
  · rw [h]; exact .refl s
  · rw [h]; exact s.halfTick_calm.does
  · rw [h]
    exact .after s.halfTick_calm ((State.Effect.ticks (s := s.halfTick)).does.calm (.of_same rfl rfl rfl rfl rfl))

/-- What a step can do. -/
theorem step_does {s t : State} (h : step s = .next t) : s.Does t := by
  obtain ⟨c, q, hc⟩ | rfl := step_cases h
  · exact .after .of_same (exec_does hc)
  · exact s.pass_does

/-- What quiet changes, happenings and postings keep, every step keeps. -/
theorem step_keeps {P : State → Prop} (hcalm : ∀ {s t : State}, s.Calm t → P s → P t)
    (heffect : ∀ {s t : State}, s.Effect t → P s → P t) (hposts : ∀ {s t : State}, s.Posts t → P s → P t)
    {s t : State} (hs : P s) (h : step s = .next t) : P t := by
  obtain ⟨u, v, w, hu, hv, hw, ht⟩ := step_does h
  exact hcalm ht (hposts hw (heffect hv (hcalm hu hs)))

end Sys2Proof.Machine
end

section
/-!
SUPPORT. What the operations of frame start, frame close and stop do to the timers, the lanes and the result buffers,
each said once.
-/

set_option Elab.async false

namespace Sys2Proof.Machine

/-- What every single step of a fold keeps, the fold keeps. -/
theorem foldl_same {α β : Type} {f : State → α → State} {g : State → β} (h : ∀ s a, g (f s a) = g s) (l : List α)
    (s : State) : g (l.foldl f s) = g s := by
  induction l generalizing s with
  | nil => rfl
  | cons a l ih => rw [List.foldl_cons, ih, h]

/-! ### A timer that stops -/

/-- What is pending is applied, SYNC and the position rest, and COMMIT_DONE and TIMER_STOPPED are queued (R19). -/
theorem State.halt_eq_stopped (s : State) (i : TimerId) : ((s.applyCommit i).applyPublish i).halt i = s.stopped i := by
  cases hc : (s.timer i).pendingCommit <;> cases hp : (s.timer i).pendingPublish <;>
    cases i <;> simp_all [State.applyCommit, State.applyPublish, State.halt, State.stopped, State.onTimer,
      State.onTables, State.onOutputs, State.notify, Timer.rest, Tables.apply, State.timer, State.table, State.output,
      Two.get, Two.set]

/-- A stop with nothing pending is the timer's rest and TIMER_STOPPED alone. -/
theorem State.stopped_timer_same (s : State) (i : TimerId) :
    (s.stopped i).timer i =
      { s.timer i with
        mode := .stopped, round := 0, tick := 0, pendingCommit := false, pendingPublish := false
        sync := false, closeDue := false, firstDue := false, posted := false } := Two.get_set_same _ _ _

theorem State.stopped_timer_other {i j : TimerId} (s : State) (h : j ≠ i) : (s.stopped i).timer j = s.timer j := by
  simp only [State.stopped, State.timer, Two.get_set, if_neg h]

theorem State.stopped_active_other {i j : TimerId} (s : State) (h : j ≠ i) :
    ((s.stopped i).table j).active = (s.table j).active := by
  simp only [State.stopped, State.table]
  split
  · simp only [Two.get_set, if_neg h]
  · rfl

@[simp] theorem State.stopped_frame (s : State) (i : TimerId) :
    (s.stopped i).time = s.time ∧ (s.stopped i).half = s.half ∧ (s.stopped i).resetting = s.resetting ∧
    (s.stopped i).pins = s.pins ∧ (s.stopped i).lanes = s.lanes ∧ (s.stopped i).roster = s.roster ∧
    (s.stopped i).results = s.results ∧ (s.stopped i).supervisor = s.supervisor ∧
    (s.stopped i).acyclic = s.acyclic ∧ (s.stopped i).link = s.link ∧ (s.stopped i).pending = s.pending :=
  ⟨rfl, rfl, rfl, rfl, rfl, rfl, rfl, rfl, rfl, rfl, rfl⟩

theorem State.drain_eq_stopped (s : State) (i : TimerId) : s.drain i = s.stopped i := s.halt_eq_stopped i

theorem State.stopWaiting_eq_stopped (s : State) (i : TimerId) :
    s.stopWaiting i = (s.onBuffers i Three.freeFilling).stopped i := State.halt_eq_stopped _ i

/-- The withdrawal of a timer's claims on every lane, as at a STOP NOW (R79). -/
def State.withdrawn (s : State) (i : TimerId) : State :=
  allLanes.foldl (fun s l => s.withdrawNow i l) (s.onBuffers i Three.freeFilling)

theorem State.stopRunning_eq_stopped (s : State) (i : TimerId) : s.stopRunning i = (s.withdrawn i).stopped i :=
  State.halt_eq_stopped _ i

/-! ### The withdrawal of claims -/

/-- A lane whose claims that satisfy a test have left its list, and whose transaction, if its claim satisfies it, is an
orphan. -/
def Lane.without (x : Lane) (p : Claim → Bool) : Lane :=
  { x with
    claims := x.claims.filter fun c => !p c
    inFlight := x.inFlight.map fun f => if p f.claim then { f with orphan := true } else f }

@[simp] theorem State.withdrawNow_frame (s : State) (i : TimerId) (l : LaneId) :
    (s.withdrawNow i l).time = s.time ∧ (s.withdrawNow i l).half = s.half ∧
    (s.withdrawNow i l).resetting = s.resetting ∧ (s.withdrawNow i l).pins = s.pins ∧
    (s.withdrawNow i l).timers = s.timers ∧ (s.withdrawNow i l).tables = s.tables ∧
    (s.withdrawNow i l).outputs = s.outputs ∧ (s.withdrawNow i l).supervisor = s.supervisor ∧
    (s.withdrawNow i l).link = s.link ∧ (s.withdrawNow i l).pending = s.pending ∧
    (s.withdrawNow i l).results = s.results ∧ (s.withdrawNow i l).acyclic = s.acyclic := by
  unfold State.withdrawNow
  refine ⟨?_, ?_, ?_, ?_, ?_, ?_, ?_, ?_, ?_, ?_, ?_, ?_⟩
  · exact foldl_same (g := State.time) (by simp) _ _
  · exact foldl_same (g := State.half) (by simp) _ _
  · exact foldl_same (g := State.resetting) (by simp) _ _
  · exact foldl_same (g := State.pins) (by simp) _ _
  · exact foldl_same (g := State.timers) (by simp) _ _
  · exact foldl_same (g := State.tables) (by simp) _ _
  · exact foldl_same (g := State.outputs) (by simp) _ _
  · exact foldl_same (g := State.supervisor) (by simp) _ _
  · exact foldl_same (g := State.link) (by simp) _ _
  · exact foldl_same (g := State.pending) (by simp) _ _
  · exact foldl_same (g := State.results) (by simp) _ _
  · exact foldl_same (g := State.acyclic) (by simp) _ _

theorem State.withdrawNow_lane (s : State) (i : TimerId) (l m : LaneId) :
    (s.withdrawNow i l).lane m = if m = l then (s.lane m).without (fun c => c.isOfTimer i) else s.lane m := by
  have h : (s.withdrawNow i l).lanes = (s.onLane l fun x => x.without fun c => c.isOfTimer i).lanes :=
    foldl_same (g := State.lanes) (by simp) _ _
  simp only [State.lane, h]
  exact s.onLane_lane l m _

/-- What the withdrawal on one lane leaves alone, the withdrawal on all of them does. -/
@[simp] theorem State.withdrawn_frame (s : State) (i : TimerId) :
    (s.withdrawn i).time = s.time ∧ (s.withdrawn i).half = s.half ∧ (s.withdrawn i).resetting = s.resetting ∧
    (s.withdrawn i).pins = s.pins ∧ (s.withdrawn i).timers = s.timers ∧ (s.withdrawn i).tables = s.tables ∧
    (s.withdrawn i).outputs = s.outputs ∧ (s.withdrawn i).supervisor = s.supervisor ∧
    (s.withdrawn i).link = s.link ∧ (s.withdrawn i).pending = s.pending ∧
    (s.withdrawn i).results = (s.onBuffers i Three.freeFilling).results ∧ (s.withdrawn i).acyclic = s.acyclic := by
  simp [State.withdrawn, allLanes]

theorem State.withdrawn_lane (s : State) (i : TimerId) (m : LaneId) :
    (s.withdrawn i).lane m = (s.lane m).without fun c => c.isOfTimer i := by
  simp only [State.withdrawn, allLanes, List.foldl_cons, List.foldl_nil, State.withdrawNow_lane]
  cases m <;> simp

/-! ### The end of a frame -/

theorem State.withdrawLate_lane (s : State) (i : TimerId) (r : Half) (n : Time) (l m : LaneId) :
    (s.withdrawLate i r n l).lane m =
      if m = l then { s.lane m with claims := (s.lane m).claims.filter fun c => !c.isOfFrame i r n }
      else s.lane m := by
  have h : (s.withdrawLate i r n l).lanes =
      (s.onLane l fun x => { x with claims := x.claims.filter fun c => !c.isOfFrame i r n }).lanes := by
    simp [State.withdrawLate]
  simp only [State.lane, h]
  exact s.onLane_lane l m _

/-- A lane without a transaction that satisfies a test gets no orphan. -/
theorem Lane.orphanIf_none {x : Lane} {p : Claim → Bool} (h : ∀ f, x.inFlight = some f → p f.claim = false) :
    x.orphanIf p = x := by
  unfold Lane.orphanIf
  cases hf : x.inFlight with
  | none => cases x; simp_all
  | some f => cases x; simp_all

/-- OVERRUN for a transaction of the frame, which becomes an orphan; on another lane nothing (R14 step 2). -/
theorem State.overrun_lane (s : State) (i : TimerId) (r : Half) (n : Time) (l m : LaneId) :
    (s.overrun i r n l).lane m =
      if m = l then (s.lane m).orphanIf fun c => c.isOfFrame i r n else s.lane m := by
  have quiet : (∀ f, (s.lane l).inFlight = some f → f.claim.isOfFrame i r n = false) →
      s.lane m = if m = l then (s.lane m).orphanIf fun c => c.isOfFrame i r n else s.lane m := by
    intro h
    split
    · next hm => subst hm; rw [Lane.orphanIf_none h]
    · rfl
  unfold State.overrun
  split
  · next f hf =>
    split
    · next k hk =>
      split
      · rw [State.onLane_lane]
        simp only [State.lane, (s.recordOverrun_frame k).2.2.2.2.2.2.2.2.2.2.1]
      · next hof =>
        refine quiet fun g hg => ?_
        rw [hf] at hg; cases hg
        rw [hk]; exact Bool.eq_false_iff.mpr hof
    · next g a hk =>
      refine quiet fun f' hf' => ?_
      rw [hf] at hf'; cases hf'
      rw [hk]; rfl
  · next hf => exact quiet fun f h => by rw [hf] at h; cases h

@[simp] theorem State.endFrame_frame (s : State) (i : TimerId) :
    (s.endFrame i).time = s.time ∧ (s.endFrame i).half = s.half ∧ (s.endFrame i).resetting = s.resetting ∧
    (s.endFrame i).pins = s.pins ∧ (s.endFrame i).timers = s.timers ∧ (s.endFrame i).tables = s.tables ∧
    (s.endFrame i).outputs = s.outputs ∧ (s.endFrame i).supervisor = s.supervisor ∧
    (s.endFrame i).link = s.link ∧ (s.endFrame i).pending = s.pending := by
  simp [State.endFrame, allLanes]

theorem State.endFrame_lane (s : State) (i : TimerId) (m : LaneId) :
    (s.endFrame i).lane m =
      (s.lane m).without fun c => c.isOfFrame i (s.timer i).run (s.timer i).frame := by
  simp only [State.endFrame, allLanes, List.foldl_cons, List.foldl_nil, State.withdrawLate_lane, State.overrun_lane]
  cases m <;> simp [Lane.without, Lane.orphanIf]

/-- A cyclic claim that ends while it waits completes no acyclic entry. -/
theorem State.deliverWaiting_cyclic_acyclic (s : State) (l : LaneId) (o : Outcome) (k : CyclicClaim) :
    (s.deliverWaiting l o (.cyclic k)).acyclic = s.acyclic := by
  simp only [State.deliverWaiting]
  split <;> simp

theorem State.deliverAll_cyclic_acyclic {s : State} {l : LaneId} {o : Outcome} {cs : List Claim}
    (h : ∀ c ∈ cs, c.isCyclic = true) : (s.deliverAll l o cs).acyclic = s.acyclic := by
  induction cs generalizing s with
  | nil => rfl
  | cons c cs ih =>
    have hc := h c (List.mem_cons_self ..)
    cases c with
    | cyclic k =>
      have hs := ih (s := s.deliverWaiting l o (.cyclic k)) fun c hm => h c (List.mem_cons_of_mem _ hm)
      rw [State.deliverWaiting_cyclic_acyclic] at hs
      exact hs
    | acyclic => cases hc

theorem Claim.isCyclic_of_isOfFrame {c : Claim} {i : TimerId} {r : Half} {n : Time}
    (h : c.isOfFrame i r n = true) : c.isCyclic = true := by
  cases c <;> simp_all [Claim.isOfFrame, Claim.isCyclic]

@[simp] theorem State.withdrawLate_acyclic (s : State) (i : TimerId) (r : Half) (n : Time) (l : LaneId) :
    (s.withdrawLate i r n l).acyclic = s.acyclic :=
  State.deliverAll_cyclic_acyclic fun _ hc => Claim.isCyclic_of_isOfFrame (List.mem_filter.mp hc).2

@[simp] theorem State.endFrame_acyclic (s : State) (i : TimerId) : (s.endFrame i).acyclic = s.acyclic := by
  simp [State.endFrame, allLanes]

@[simp] theorem State.closeFrame_frame (s : State) (i : TimerId) :
    (s.closeFrame i).time = s.time ∧ (s.closeFrame i).half = s.half ∧ (s.closeFrame i).resetting = s.resetting ∧
    (s.closeFrame i).pins = s.pins ∧ (s.closeFrame i).timers = s.timers ∧ (s.closeFrame i).tables = s.tables ∧
    (s.closeFrame i).outputs = s.outputs ∧ (s.closeFrame i).supervisor = s.supervisor ∧
    (s.closeFrame i).link = s.link ∧ (s.closeFrame i).pending = s.pending ∧
    (s.closeFrame i).acyclic = s.acyclic ∧ (s.closeFrame i).lanes = (s.endFrame i).lanes ∧
    (s.closeFrame i).roster = (s.endFrame i).roster ∧
    (s.closeFrame i).results = ((s.endFrame i).closeBuffer i).results := by
  unfold State.closeFrame State.reportFrame
  split
  · dsimp only
    split <;> simp [State.closeBuffer]
  · simp [State.closeBuffer]

theorem State.closeFrame_lane (s : State) (i : TimerId) (m : LaneId) :
    (s.closeFrame i).lane m =
      (s.lane m).without fun c => c.isOfFrame i (s.timer i).run (s.timer i).frame := by
  rw [← State.endFrame_lane]
  simp [State.lane]

/-- Everything the preparation of the next buffer can do: it changes the timer's result buffers only. -/
theorem State.prepareNext_some {s u : State} {i : TimerId} (h : s.prepareNext i = some u) :
    ∃ bs, (s.buffers i).prepare (s.timer i).run ((s.timer i).frame + 1) = some bs ∧ u = s.onBuffers i fun _ => bs := by
  unfold State.prepareNext at h
  rw [Option.map_eq_some_iff] at h
  obtain ⟨bs, hbs, rfl⟩ := h
  exact ⟨bs, hbs, rfl⟩

/-! ### A frame start -/

@[simp] theorem State.frameStart_frame (s : State) (i : TimerId) :
    (s.frameStart i).time = s.time ∧ (s.frameStart i).half = s.half ∧ (s.frameStart i).resetting = s.resetting ∧
    (s.frameStart i).pins = s.pins ∧ (s.frameStart i).lanes = s.lanes ∧ (s.frameStart i).roster = s.roster ∧
    (s.frameStart i).supervisor = s.supervisor ∧ (s.frameStart i).acyclic = s.acyclic ∧
    (s.frameStart i).link = s.link ∧ (s.frameStart i).pending = s.pending := by
  simp only [State.frameStart, State.markPositions, State.applyPublish, State.startCommit]
  split <;> split <;> simp

/-- A frame start leaves its timer RUNNING at round 0, tick 0, with nothing pending (R17). -/
theorem State.frameStart_timer_same (s : State) (i : TimerId) :
    (s.frameStart i).timer i =
      { s.timer i with
        mode := .running, round := 0, tick := 0, pendingCommit := false, pendingPublish := false
        sync := decide (0 < (s.timer i).config.w), frameStart := s.time, closeDue := false, firstDue := false
        posted := false } := by
  cases hc : (s.timer i).pendingCommit <;> cases hp : (s.timer i).pendingPublish <;>
    simp [State.frameStart, State.startCommit, State.applyPublish, State.markPositions, Timer.beginFrame, hc, hp]
  rfl

theorem State.frameStart_timer_other {i j : TimerId} (s : State) (h : j ≠ i) :
    (s.frameStart i).timer j = s.timer j := by
  cases hc : (s.timer i).pendingCommit <;> cases hp : (s.timer i).pendingPublish <;>
    simp [State.frameStart, State.startCommit, State.applyPublish, State.markPositions, hc, hp, State.onTimer_timer, h]

/-- The active table after a frame start: the staged one where a commit was pending (R17 step 2). -/
theorem State.frameStart_active (s : State) (i j : TimerId) :
    ((s.frameStart i).table j).active =
      if j = i ∧ (s.timer i).pendingCommit = true then (s.table j).staged else (s.table j).active := by
  cases hc : (s.timer i).pendingCommit <;> cases hp : (s.timer i).pendingPublish <;>
    simp [State.frameStart, State.startCommit, State.applyPublish, State.markPositions, Tables.apply, hc, hp,
      State.onTables_table] <;> split <;> rfl

/-- Everything a first frame start can answer: its buffer prepared, the frame starts. -/
theorem State.firstFrame_some {s u : State} {i : TimerId} (h : s.firstFrame i = some u) :
    ∃ bs, (s.buffers i).prepareFirst (s.timer i).run = some bs ∧
      u = State.frameStart (s.onBuffers i fun _ => bs) i := by
  unfold State.firstFrame at h
  rw [Option.map_eq_some_iff] at h
  obtain ⟨bs, hbs, rfl⟩ := h
  exact ⟨bs, hbs, rfl⟩

@[simp] theorem State.commitNow_frame (s : State) (i : TimerId) :
    (s.commitNow i).timers = s.timers ∧ (s.commitNow i).lanes = s.lanes ∧ (s.commitNow i).acyclic = s.acyclic := by
  unfold State.commitNow
  split <;> simp

@[simp] theorem State.postAll_frame (s : State) (i : TimerId) :
    (s.postAll i).tables = s.tables ∧ (s.postAll i).time = s.time ∧
      (s.postAll i).timers = (s.onTimer i fun x => { x with posted := true }).timers := by
  have ht := foldl_same (g := State.timers) (f := fun s p => s.post p.2 (s.claimFor i p.1 p.2)) (by simp)
    (dueEntries (s.timer i) 0 (s.table i).active) s
  refine ⟨?_, ?_, ?_⟩
  · exact foldl_same (g := State.tables) (by simp) _ _
  · exact foldl_same (g := State.time) (by simp) _ _
  · simp [State.postAll, State.onTimer, ht]

/-- A tick of the timers moves each of them on. -/
theorem State.ticked_timer (s : State) (i : TimerId) :
    State.timer { s with timers := ⟨s.timers.a.advance, s.timers.b.advance⟩ } i = (s.timer i).advance := by
  cases i <;> rfl

/-- Within a reset every timer is at its reset values. -/
theorem State.cleared_timer (pins : Pins) (q : List Instr) (r : Option Resetting) (i : TimerId) :
    (State.cleared pins q r).timer i = .reset := by
  cases i <;> rfl

theorem State.cleared_lane (pins : Pins) (q : List Instr) (r : Option Resetting) (l : LaneId) :
    (State.cleared pins q r).lane l = .reset := by
  cases l <;> rfl

end Sys2Proof.Machine
end

section
/-! SUPPORT. The ranges of the timers (R1, R3, R5, R7). -/

set_option Elab.async false

namespace Sys2Proof.Machine

/-- A timer's ranges in a change that touches the other timer only or one timer under a condition. -/
theorem State.TimersOk.of_timers {s t : State} (hs : s.TimersOk) (h : t.timers = s.timers) : t.TimersOk := by
  intro i
  simp only [State.timer, h]
  exact hs i

theorem State.TimersOk.onTimer {s : State} {i : TimerId} {f : Timer → Timer} (hs : s.TimersOk)
    (hf : (s.timer i).Ok → (f (s.timer i)).Ok) : (s.onTimer i f).TimersOk := by
  intro j
  rw [State.onTimer_timer]
  split
  · next hj => subst hj; exact hf (hs j)
  · exact hs j

theorem State.TimersOk.calm {s t : State} (h : s.Calm t) (hs : s.TimersOk) : t.TimersOk := by
  intro i
  obtain ⟨hcfg, hr, hk, hm, hrest⟩ := hs i
  have c := h.timers i
  refine ⟨by rw [c.config]; exact hcfg, by rw [c.round, c.config]; exact hr, by rw [c.tick, c.config]; exact hk,
    c.missed hm, fun hf => ?_⟩
  obtain ⟨h1, h2, h3⟩ := hrest (by rw [← c.mode]; exact hf)
  exact ⟨c.round.trans h1, c.tick.trans h2, c.sync h3⟩

/-- A configuration in range has a round and a tick. -/
theorem TimerConfig.Ok.pos {c : TimerConfig} (h : c.Ok) : 0 < c.rpf ∧ 0 < c.tpr := by
  obtain ⟨h1, -, -, -, -, h2, -⟩ := h
  omega

theorem Timer.reset_ok : Timer.reset.Ok := by unfold Timer.Ok TimerConfig.Ok; decide

/-- A timer at round 0, tick 0 with SYNC low is in range in every state. -/
theorem Timer.Ok.at_rest {x y : Timer} (hx : x.Ok) (hc : y.config = x.config) (hm : y.missed = x.missed)
    (hr : y.round = 0) (ht : y.tick = 0) (hs : y.sync = false) : y.Ok := by
  obtain ⟨hcfg, -, -, hmiss, -⟩ := hx
  have hp := hcfg.pos
  exact ⟨by rw [hc]; exact hcfg, by rw [hr, hc]; exact hp.1, by rw [ht, hc]; exact hp.2, by rw [hm]; exact hmiss,
    fun _ => ⟨hr, ht, hs⟩⟩

/-- A timer whose frame opens is in range. -/
theorem Timer.Ok.at_start {x y : Timer} (hx : x.Ok) (hc : y.config = x.config) (hm : y.missed = x.missed)
    (hr : y.round = 0) (ht : y.tick = 0) (hmode : y.mode = .running) : y.Ok := by
  obtain ⟨hcfg, -, -, hmiss, -⟩ := hx
  have hp := hcfg.pos
  exact ⟨by rw [hc]; exact hcfg, by rw [hr, hc]; exact hp.1, by rw [ht, hc]; exact hp.2, by rw [hm]; exact hmiss,
    fun hf => by rw [hmode] at hf; cases hf⟩

theorem Timer.Ok.advance {x : Timer} (hx : x.Ok) : x.advance.Ok := by
  obtain ⟨hcfg, hr, hk, hmiss, hrest⟩ := hx
  have hp := hcfg.pos
  unfold Timer.advance
  split
  · next hf =>
    simp only [Bool.and_eq_true] at hf
    have hnot : ∀ {P : Prop}, x.mode.inFrame = false → P := fun h => by rw [hf.1] at h; cases h
    split
    · next h => exact ⟨hcfg, hr, h, hmiss, hnot⟩
    · split
      · next h => exact ⟨hcfg, h, hp.2, hmiss, hnot⟩
      · exact ⟨hcfg, hr, hk, hmiss, hnot⟩
  · exact ⟨hcfg, hr, hk, hmiss, hrest⟩

theorem State.TimersOk.stopped {s : State} (hs : s.TimersOk) (i : TimerId) : (s.stopped i).TimersOk := by
  intro j
  by_cases h : j = i
  · subst h; rw [State.stopped_timer_same]; exact (hs j).at_rest rfl rfl rfl rfl rfl
  · rw [State.stopped_timer_other s h]; exact hs j

theorem State.TimersOk.frameStart {s : State} (hs : s.TimersOk) (i : TimerId) : (s.frameStart i).TimersOk := by
  intro j
  by_cases h : j = i
  · subst h; rw [State.frameStart_timer_same]; exact (hs j).at_start rfl rfl rfl rfl rfl
  · rw [State.frameStart_timer_other s h]; exact hs j

theorem State.TimersOk.effect {s t : State} (h : s.Effect t) (hs : s.TimersOk) : t.TimersOk := by
  cases h with
  | none => exact hs
  | configures hm hc =>
    refine hs.onTimer fun ⟨_, _, _, hmiss, hrest⟩ => ?_
    obtain ⟨h1, h2, h3⟩ := hrest (by rw [hm]; rfl)
    exact ⟨hc, by rw [h1]; exact hc.pos.1, by rw [h2]; exact hc.pos.2, hmiss, fun _ => ⟨h1, h2, h3⟩⟩
  | starts hm =>
    refine hs.onTimer fun ⟨hcfg, hr, hk, _, hrest⟩ => ⟨hcfg, hr, hk, Nat.zero_le _, fun _ => ?_⟩
    exact hrest (by rw [hm]; rfl)
  | drains => exact hs.onTimer fun ⟨hcfg, hr, hk, hmiss, _⟩ => ⟨hcfg, hr, hk, hmiss, fun hf => by cases hf⟩
  | disarms =>
    exact .of_timers (hs.onTimer (f := fun x => x.rest .stopped) fun hx => hx.at_rest rfl rfl rfl rfl rfl) rfl
  | stopsWaiting => rw [State.stopWaiting_eq_stopped]; exact (hs.of_timers (by simp)).stopped _
  | stopsRunning => rw [State.stopRunning_eq_stopped]; exact (hs.of_timers (by simp)).stopped _
  | commits => exact hs.of_timers (by simp)
  | holds => exact hs.of_timers (by simp)
  | releases => exact hs.of_timers (by simp)
  | accepts => exact hs.of_timers (by simp [State.acceptTransact])
  | drops => exact hs.of_timers (by simp)
  | resolves => exact hs.of_timers (by simp)
  | resets => exact fun i => by rw [State.cleared_timer]; exact Timer.reset_ok
  | opensFirst _ hu =>
    obtain ⟨bs, -, rfl⟩ := State.firstFrame_some hu
    exact (hs.of_timers (by simp)).frameStart _
  | opensNext => exact (hs.onTimer fun hx => hx).frameStart _
  | drained => rw [State.drain_eq_stopped]; exact (hs.of_timers (by simp)).stopped _
  | waits _ hu =>
    obtain ⟨bs, -, rfl⟩ := State.prepareNext_some hu
    exact (hs.of_timers (by simp)).onTimer fun hx => hx.at_rest rfl rfl rfl rfl rfl
  | goesOn _ hu =>
    obtain ⟨bs, -, rfl⟩ := State.prepareNext_some hu
    exact State.TimersOk.frameStart (State.TimersOk.onTimer (hs.of_timers (by simp)) fun hx => hx) _
  | grants => exact hs.of_timers (by simp)
  | expires => exact hs.of_timers (by simp)
  | ends => exact hs.of_timers (by simp)
  | ticks => exact fun i => by rw [State.ticked_timer]; exact (hs i).advance

theorem State.TimersOk.posts {s t : State} (h : s.Posts t) (hs : s.TimersOk) : t.TimersOk := by
  obtain rfl | ⟨i, -, -, -, rfl⟩ := h
  · exact hs
  · exact .of_timers (hs.onTimer (i := i) (f := fun x => { x with posted := true }) id) (s.postAll_frame i).2.2

/-- Settles O23: what keeps the ranges is said for quiet changes, happenings and postings. -/
theorem timerRangesKept : Obligations.TimerRangesKept := fun _ _ hs h =>
  step_keeps State.TimersOk.calm State.TimersOk.effect State.TimersOk.posts hs h

end Sys2Proof.Machine
end

section
/-! SUPPORT. The claims of the frame in progress, and the order of the claim lists (R4, R67). -/

set_option Elab.async false

namespace Sys2Proof.Machine

/-! ### Lanes that only lose claims -/

/-- A lane's list loses claims at most, and its transaction ends or becomes an orphan at most. -/
structure Lane.Shrinks (x y : Lane) : Prop where
  claims : y.claims.Sublist x.claims
  flight : ∀ g, y.inFlight = some g →
    ∃ f, x.inFlight = some f ∧ g.claim = f.claim ∧ (g.orphan = false → f.orphan = false)

theorem Lane.Shrinks.refl (x : Lane) : x.Shrinks x := ⟨.refl _, fun g h => ⟨g, h, rfl, id⟩⟩

theorem Lane.Shrinks.trans {x y z : Lane} (h : x.Shrinks y) (k : y.Shrinks z) : x.Shrinks z where
  claims := k.claims.trans h.claims
  flight g hg := by
    obtain ⟨f, hf, hc, ho⟩ := k.flight g hg
    obtain ⟨e, he, hc', ho'⟩ := h.flight f hf
    exact ⟨e, he, hc.trans hc', ho' ∘ ho⟩

theorem Lane.without_shrinks (x : Lane) (p : Claim → Bool) : x.Shrinks (x.without p) where
  claims := List.filter_sublist
  flight g hg := by
    simp only [Lane.without, Option.map_eq_some_iff] at hg
    obtain ⟨f, hf, rfl⟩ := hg
    refine ⟨f, hf, ?_, ?_⟩ <;> split <;> simp

/-- Every lane shrinks. -/
def State.Shrinks (s t : State) : Prop := ∀ l, (s.lane l).Shrinks (t.lane l)

theorem State.Shrinks.trans {s t u : State} (h : s.Shrinks t) (k : t.Shrinks u) : s.Shrinks u :=
  fun l => (h l).trans (k l)

theorem State.Shrinks.of_lanes {s t : State} (h : t.lanes = s.lanes) : s.Shrinks t :=
  fun l => by simp only [State.lane, h]; exact .refl _

theorem State.Shrinks.onLane {s : State} {l : LaneId} {f : Lane → Lane} (h : (s.lane l).Shrinks (f (s.lane l))) :
    s.Shrinks (s.onLane l f) := by
  intro m
  rw [State.onLane_lane]
  split
  · next hm => subst hm; exact h
  · exact .refl _

theorem State.Shrinks.calm {s t : State} (h : s.Calm t) : s.Shrinks t := fun l =>
  { claims := by rw [h.claims l]
    flight := fun g hg => by
      have hk := h.flight l
      rw [hg, Option.map_some] at hk
      obtain ⟨f, hf, hkey⟩ := Option.map_eq_some_iff.mp hk.symm
      simp only [InFlight.key, Prod.mk.injEq] at hkey
      exact ⟨f, hf, hkey.1.symm, fun ho => hkey.2.trans ho⟩ }

theorem State.resolveAll_lane (s : State) (l m : LaneId) (o : Outcome) :
    (s.resolveAll l o).lane m = if m = l then { s.lane m with claims := [] } else s.lane m := by
  rw [← s.onLane_lane l m fun x => { x with claims := [] }]
  simp [State.lane, State.resolveAll]

theorem State.resolveAll_shrinks (s : State) (l : LaneId) (o : Outcome) : s.Shrinks (s.resolveAll l o) := by
  intro m
  rw [State.resolveAll_lane]
  split
  · exact ⟨List.nil_sublist _, fun g h => ⟨g, h, rfl, id⟩⟩
  · exact .refl _

theorem State.dropAcyclic_lanes (s : State) (e : AcyclicEntry) (o : Outcome) :
    (s.dropAcyclic e o).lanes =
      (s.onLane e.lane fun x => { x with claims := x.claims.filter fun c => !c.hasTag e.tag }).lanes := by
  simp [State.dropAcyclic]

theorem State.dropAcyclic_shrinks (s : State) (e : AcyclicEntry) (o : Outcome) : s.Shrinks (s.dropAcyclic e o) :=
  .trans (.onLane ⟨List.filter_sublist, fun g h => ⟨g, h, rfl, id⟩⟩) (.of_lanes (s.dropAcyclic_lanes e o))

theorem State.expires_shrinks (s : State) (l : LaneId) (k : CyclicClaim) :
    s.Shrinks
      ((s.onLane l fun x => { x with claims := x.claims.erase (.cyclic k) }).deliverWaiting l .late (.cyclic k)) :=
  .trans (t := s.onLane l fun x => { x with claims := x.claims.erase (.cyclic k) })
    (.onLane ⟨List.erase_sublist, fun g h => ⟨g, h, rfl, id⟩⟩) (.of_lanes (by simp))

theorem State.closeFrame_shrinks (s : State) (i : TimerId) : s.Shrinks (s.closeFrame i) := by
  intro m
  rw [State.closeFrame_lane]
  exact Lane.without_shrinks _ _

theorem State.withdrawn_shrinks (s : State) (i : TimerId) : s.Shrinks (s.withdrawn i) := by
  intro m
  rw [State.withdrawn_lane]
  exact Lane.without_shrinks _ _

/-- The lane whose transaction ends has none in flight, and its list is kept or, as it falls asleep, emptied. -/
theorem State.clearFlight_lane (s : State) (l m : LaneId) :
    (m ≠ l → (s.clearFlight l).lane m = s.lane m) ∧
      ((s.clearFlight l).lane l).inFlight = none ∧
      ((s.clearFlight l).lane l).claims = if (s.lane l).sleepPending then [] else (s.lane l).claims := by
  unfold State.clearFlight
  dsimp only
  split
  · next h =>
    refine ⟨fun hm => ?_, ?_, ?_⟩ <;> simp [State.enterSleeping, State.resolveAll_lane, State.onLane_lane, *]
  · next h =>
    refine ⟨fun hm => ?_, ?_, ?_⟩ <;> simp [State.onLane_lane, *]

theorem State.clearFlight_shrinks (s : State) (l : LaneId) : s.Shrinks (s.clearFlight l) := by
  intro m
  obtain ⟨hother, hflight, hclaims⟩ := s.clearFlight_lane l m
  by_cases hm : m = l
  · subst hm
    refine ⟨?_, fun g hg => by rw [hflight] at hg; cases hg⟩
    rw [hclaims]
    split
    · exact List.nil_sublist _
    · exact .refl _
  · rw [hother hm]; exact .refl _

/-! ### What ends, is granted and is posted -/

/-- Everything the end of a transaction can do: a first attempt comes back as a retry claim, or its final outcome is
delivered (R76, R77). -/
theorem State.endTransaction_cases (s : State) (l : LaneId) (f : InFlight) (o : Outcome) (d : List Byte) :
    (∃ k, f.claim = .cyclic k ∧ f.orphan = false ∧ (s.lane l).sleepPending = false ∧
      s.endTransaction l f o d = (s.clearFlight l).placeRetry l o (.cyclic { k with attempt := .retry o })) ∨
    (∃ tag a e, f.claim = .acyclic tag a ∧ s.acyclicEntry tag = some e ∧ (s.lane l).sleepPending = false ∧
      s.endTransaction l f o d = (s.clearFlight l).placeRetry l o (.acyclic tag (.retry o))) ∨
    s.endTransaction l f o d = (s.clearFlight l).deliverFinal l f o d := by
  unfold State.endTransaction
  split
  · next c hc =>
    unfold State.retryClaim at hc
    split at hc
    · next ho =>
      have hsleep : (s.lane l).sleepPending = false := by simp at ho; exact ho.2
      split at hc
      · next k hk =>
        split at hc
        · split at hc
          · next hr =>
            simp only [Bool.and_eq_true, Bool.not_eq_true'] at hr
            cases hc
            exact .inl ⟨k, hk, hr.1.2, hsleep, rfl⟩
          · cases hc
        · cases hc
      · next tag a hk =>
        split at hc
        · next e he =>
          split at hc
          · cases hc; exact .inr (.inl ⟨tag, _, e, hk, he, hsleep, rfl⟩)
          · cases hc
        · cases hc
    · cases hc
  · exact .inr (.inr rfl)

/-- Everything a grant can take: the claim at the head of a READY lane's list (R70). -/
theorem State.grantable_some {s : State} {l : LaneId} {f : InFlight} {rest : List Claim}
    (h : s.grantable l = some (f, rest)) :
    (s.lane l).claims = f.claim :: rest ∧ f.orphan = false ∧ s.flightOf l f.claim = some f := by
  unfold State.grantable at h
  split at h
  · split at h
    · next c cs hc =>
      rw [Option.map_eq_some_iff] at h
      obtain ⟨g, hg, hpair⟩ := h
      cases hpair
      have hclaims : (s.lane l).claims = c :: rest := by
        unfold chooseClaim at hc
        split at hc <;> simp_all
      have hfc : f.claim = c ∧ f.orphan = false := by
        cases c with
        | cyclic k =>
          simp only [State.flightOf, State.cyclicFlight, Option.map_eq_some_iff] at hg
          obtain ⟨e, -, rfl⟩ := hg
          exact ⟨rfl, rfl⟩
        | acyclic tag a =>
          simp only [State.flightOf, State.acyclicFlight] at hg
          split at hg
          · split at hg
            · cases hg; exact ⟨rfl, rfl⟩
            · cases hg
          · cases hg
      exact ⟨by rw [hclaims, hfc.1], hfc.2, by rw [hfc.1]; exact hg⟩
    · cases h
  · cases h

theorem State.deliverWaiting_cyclic_results (s : State) (l : LaneId) (o : Outcome) (k : CyclicClaim) :
    (s.deliverWaiting l o (.cyclic k)).results = (s.deliverResult k o k.attempt.waited []).results := by
  simp only [State.deliverWaiting]
  split <;> simp

/-- What a delivery writes rests on the result buffers and the active tables alone. -/
theorem State.deliverResult_results_congr {s t : State} (hr : t.results = s.results) (ht : t.tables = s.tables)
    (c : CyclicClaim) (o : Outcome) (n : Nat) (d : List Byte) :
    (t.deliverResult c o n d).results = (s.deliverResult c o n d).results := by
  have hf : t.fillingFor c = s.fillingFor c := by unfold State.fillingFor State.buffers; rw [hr]
  unfold State.deliverResult
  rw [hf]
  split
  · simp only [State.onBuffer, State.onBuffers, State.entry, State.table, hr, ht]
  · exact hr

/-- Everything a posted claim can meet: it enters the list of its entry's lane, it is resolved at once with an outcome
without response data, or the lane is DISABLED (R68). -/
theorem State.post_cases (s : State) (e : ScanEntry) (c : CyclicClaim) :
    ((s.post e c).lanes = (s.enlist e.lane c).lanes ∧ (s.post e c).results = s.results) ∨
    ((s.post e c).lanes = s.lanes ∧ ∃ o, o.isGood = false ∧
      (s.post e c).results = (s.deliverResult c o c.attempt.waited []).results) ∨
    s.post e c = s := by
  have onLane : ((s.postToLane e.lane e.node c).lanes = (s.enlist e.lane c).lanes ∧
        (s.postToLane e.lane e.node c).results = s.results) ∨
      ((s.postToLane e.lane e.node c).lanes = s.lanes ∧ ∃ o, o.isGood = false ∧
        (s.postToLane e.lane e.node c).results = (s.deliverResult c o c.attempt.waited []).results) := by
    unfold State.postToLane
    split
    · exact .inl ⟨rfl, by simp⟩
    · dsimp only
      split
      · refine .inr ⟨by simp, .suppressed, rfl, ?_⟩
        rw [State.deliverWaiting_cyclic_results]
        exact State.deliverResult_results_congr (by rfl) (by rfl) _ _ _ _
      · exact .inl ⟨rfl, by simp⟩
  have atOnce : ∀ o : Outcome, o.isGood = false →
      (s.deliverWaiting e.lane o (.cyclic c)).lanes = s.lanes ∧ ∃ o', o'.isGood = false ∧
        (s.deliverWaiting e.lane o (.cyclic c)).results = (s.deliverResult c o' c.attempt.waited []).results :=
    fun o ho => ⟨by simp, o, ho, s.deliverWaiting_cyclic_results _ _ _⟩
  unfold State.post
  split
  case h_1 => exact .inr (.inr rfl)
  case h_2 => exact onLane.imp_right .inl
  case h_3 => exact onLane.imp_right .inl
  case h_7 => exact .inr (.inl (atOnce .lineFault rfl))
  all_goals exact .inr (.inl (atOnce .asleep rfl))

theorem State.post_acyclic (s : State) (e : ScanEntry) (c : CyclicClaim) : (s.post e c).acyclic = s.acyclic := by
  have onLane : (s.postToLane e.lane e.node c).acyclic = s.acyclic := by
    unfold State.postToLane
    split
    · simp
    · dsimp only
      split
      · rw [State.deliverWaiting_cyclic_acyclic]; simp
      · simp
  unfold State.post
  split
  case h_1 => rfl
  case h_2 => exact onLane
  case h_3 => exact onLane
  all_goals exact State.deliverWaiting_cyclic_acyclic _ _ _ _

/-- A claim is due exactly for the entries of the table that start now (R20). -/
theorem mem_dueEntries {x : Timer} {table : Table} {n position : Nat} {e : ScanEntry} :
    (position, e) ∈ dueEntries x n table ↔
      n ≤ position ∧ table[position - n]? = some (some e) ∧ x.starts e = true := by
  induction table generalizing n with
  | nil => simp [dueEntries]
  | cons a rest ih =>
    have tail : n ≤ position ∧ position ≠ n ∧ rest[position - n - 1]? = some (some e) ∧ x.starts e = true ↔
        (position, e) ∈ dueEntries x (n + 1) rest := by
      rw [ih, show position - (n + 1) = position - n - 1 by omega]
      constructor
      · rintro ⟨h1, h2, h3⟩; exact ⟨by omega, h3⟩
      · rintro ⟨h1, h2⟩; exact ⟨by omega, by omega, h2⟩
    have split : n ≤ position ∧ (a :: rest)[position - n]? = some (some e) ∧ x.starts e = true ↔
        (position = n ∧ a = some e ∧ x.starts e = true) ∨ (position, e) ∈ dueEntries x (n + 1) rest := by
      rw [← tail]
      by_cases hp : position = n
      · subst hp; simp
      · by_cases hn : n ≤ position
        · obtain ⟨m, hm⟩ : ∃ m, position - n = m + 1 := ⟨position - n - 1, by omega⟩
          simp [hp, hn, hm]
        · simp [hp, hn]
    rw [split]
    cases a with
    | none => simp [dueEntries]
    | some b =>
      simp only [dueEntries]
      split
      · next hb =>
        simp only [List.mem_cons, Prod.mk.injEq, Option.some.injEq]
        constructor
        · rintro (⟨rfl, rfl⟩ | h)
          · exact .inl ⟨rfl, rfl, hb⟩
          · exact .inr h
        · rintro (⟨rfl, rfl, -⟩ | h)
          · exact .inl ⟨rfl, rfl⟩
          · exact .inr h
      · next hb =>
        constructor
        · exact .inr
        · rintro (⟨-, h, hst⟩ | h)
          · cases h; exact absurd hst hb
          · exact h

theorem mem_dueEntries_entry {s : State} {i : TimerId} {position : Nat} {e : ScanEntry}
    (h : (position, e) ∈ dueEntries (s.timer i) 0 (s.table i).active) : s.entry i position = some e := by
  obtain ⟨-, h, -⟩ := mem_dueEntries.mp h
  simp only [Nat.sub_zero] at h
  simp [State.entry, List.getD_eq_getElem?_getD, h]

theorem State.claimFor_congr {s t : State} (h : t.timers = s.timers) (i : TimerId) (position : Nat) (e : ScanEntry) :
    t.claimFor i position e = s.claimFor i position e := by
  simp only [State.claimFor, State.timer, h]

/-- What the posting of each due claim keeps, and the mark that it is done, the posting of them all keeps. -/
theorem State.postAll_keeps {P : State → Prop} {s : State} {i : TimerId} (hs : P s)
    (hpost : ∀ u position e, u.timers = s.timers → u.tables = s.tables → s.entry i position = some e → P u →
      P (u.post e (s.claimFor i position e)))
    (hmark : ∀ u, u.timers = s.timers → P u → P (u.onTimer i fun x => { x with posted := true })) :
    P (s.postAll i) := by
  have hfold := List.foldlRecOn (motive := fun u => (u.timers = s.timers ∧ u.tables = s.tables) ∧ P u)
    (dueEntries (s.timer i) 0 (s.table i).active) (fun u p => u.post p.2 (u.claimFor i p.1 p.2))
    ⟨⟨rfl, rfl⟩, hs⟩ fun u hu p hp => by
      obtain ⟨⟨ht, htab⟩, hP⟩ := hu
      rw [State.claimFor_congr ht]
      exact ⟨⟨by simpa using ht, by simpa using htab⟩, hpost u p.1 p.2 ht htab (mem_dueEntries_entry hp) hP⟩
  exact hmark _ hfold.1.1 hfold.2

/-- The claims of a list with one more cyclic claim inserted. -/
theorem mem_insertCyclic {now : Time} {c : CyclicClaim} {claims : List Claim} {d : Claim} :
    d ∈ insertCyclic now c claims ↔ d = .cyclic c ∨ d ∈ claims := by
  induction claims with
  | nil => simp [insertCyclic]
  | cons a rest ih =>
    cases a with
    | acyclic tag b => simp [insertCyclic]
    | cyclic k =>
      unfold insertCyclic
      split
      · rw [List.mem_cons, ih, List.mem_cons]; exact or_left_comm
      · split
        · simp
        · rw [List.mem_cons, ih, List.mem_cons]; exact or_left_comm

/-! ### Claims belong to the frame in progress -/

/-- No waiting claim, and no transaction but orphans, is of a timer. -/
def State.Unclaimed (s : State) (i : TimerId) : Prop :=
  ∀ l : LaneId,
    (∀ k : CyclicClaim, Claim.cyclic k ∈ (s.lane l).claims → k.timer ≠ i) ∧
    (∀ f k, (s.lane l).inFlight = some f → f.claim = .cyclic k → f.orphan = false → k.timer ≠ i)

/-- With no frame in progress a timer has no claims (R4). -/
theorem State.ClaimsOk.unclaimed {s : State} {i : TimerId} (hs : s.ClaimsOk)
    (h : (s.timer i).mode.inFrame = false) : s.Unclaimed i := by
  have hcur : ∀ k, s.Current k → k.timer ≠ i := by
    rintro k ⟨hk, -⟩ rfl
    rw [h] at hk; cases hk
  exact fun l => ⟨fun k hk => hcur k ((hs l).1 k hk), fun f k hf hc ho => hcur k ((hs l).2 f k hf hc ho)⟩

theorem State.Unclaimed.shrinks {s t : State} {i : TimerId} (hs : s.Unclaimed i) (h : s.Shrinks t) :
    t.Unclaimed i := fun l =>
  ⟨fun k hk => (hs l).1 k ((h l).claims.subset hk), fun g k hg hc ho => by
    obtain ⟨f, hf, hfc, hfo⟩ := (h l).flight g hg
    exact (hs l).2 f k hf (hfc ▸ hc) (hfo ho)⟩

theorem Lane.mem_without {x : Lane} {p : Claim → Bool} {c : Claim} (h : c ∈ (x.without p).claims) : p c = false := by
  simpa using (List.mem_filter.mp h).2

/-- A transaction that is no orphan once the claims of a test are withdrawn does not satisfy it. -/
theorem Lane.without_inFlight {x : Lane} {p : Claim → Bool} {g : InFlight} (h : (x.without p).inFlight = some g)
    (ho : g.orphan = false) : p g.claim = false := by
  simp only [Lane.without, Option.map_eq_some_iff] at h
  obtain ⟨f, -, rfl⟩ := h
  split at ho
  · cases ho
  · next hp => rw [if_neg hp]; exact Bool.eq_false_iff.mpr hp

theorem State.withdrawn_unclaimed (s : State) (i : TimerId) : (s.withdrawn i).Unclaimed i := fun l => by
  rw [State.withdrawn_lane]
  refine ⟨fun k hk => ?_, fun f k hf hc ho => ?_⟩
  · simpa [Claim.isOfTimer] using Lane.mem_without hk
  · simpa [hc, Claim.isOfTimer] using Lane.without_inFlight hf ho

theorem State.Current.isOfFrame {s : State} {k : CyclicClaim} (h : s.Current k) :
    (Claim.cyclic k).isOfFrame k.timer (s.timer k.timer).run (s.timer k.timer).frame = true := by
  obtain ⟨-, hr, hf⟩ := h
  simp [Claim.isOfFrame, CyclicClaim.isOf, hr, hf]

/-- The close of a frame leaves its timer without claims (R78). -/
theorem State.ClaimsOk.closeFrame_unclaimed {s : State} (hs : s.ClaimsOk) (i : TimerId) :
    (s.closeFrame i).Unclaimed i := fun l => by
  have hlane := s.closeFrame_lane i l
  refine ⟨fun k hk hi => ?_, fun g k hg hc ho hi => ?_⟩
  · subst hi
    have hcur := (hs l).1 k ((s.closeFrame_shrinks k.timer l).claims.subset hk)
    rw [hlane] at hk
    have := Lane.mem_without hk
    rw [State.Current.isOfFrame hcur] at this
    cases this
  · subst hi
    obtain ⟨f, hf, hfc, hfo⟩ := (s.closeFrame_shrinks k.timer l).flight g hg
    have hcur := (hs l).2 f k hf (hfc ▸ hc) (hfo ho)
    rw [hlane] at hg
    have := Lane.without_inFlight hg ho
    rw [hc, State.Current.isOfFrame hcur] at this
    cases this

theorem State.ClaimsOk.of_shrinks {s t : State} (hs : s.ClaimsOk) (h : s.Shrinks t)
    (hcur : ∀ k, s.Current k → t.Current k) : t.ClaimsOk := fun l =>
  ⟨fun k hk => hcur k ((hs l).1 k ((h l).claims.subset hk)), fun g k hg hc ho => by
    obtain ⟨f, hf, hfc, hfo⟩ := (h l).flight g hg
    exact hcur k ((hs l).2 f k hf (hfc ▸ hc) (hfo ho))⟩

/-- A timer without claims may take any state. -/
theorem State.ClaimsOk.of_unclaimed {s t : State} {i : TimerId} (hs : s.ClaimsOk) (h : s.Shrinks t)
    (hun : t.Unclaimed i) (hother : ∀ j, j ≠ i → t.timer j = s.timer j) : t.ClaimsOk := by
  have hcur : ∀ k, k.timer ≠ i → s.Current k → t.Current k := fun k hk hc => by
    unfold State.Current at hc ⊢
    rw [hother _ hk]; exact hc
  intro l
  refine ⟨fun k hk => hcur k ((hun l).1 k hk) ((hs l).1 k ((h l).claims.subset hk)), fun g k hg hc ho => ?_⟩
  obtain ⟨f, hf, hfc, hfo⟩ := (h l).flight g hg
  exact hcur k ((hun l).2 g k hg hc ho) ((hs l).2 f k hf (hfc ▸ hc) (hfo ho))

theorem State.Current.of_timers {s t : State} (h : t.timers = s.timers) (k : CyclicClaim) :
    s.Current k → t.Current k := by
  simp only [State.Current, State.timer, h]; exact id

/-- A timer that keeps its frame keeps its claims current. -/
theorem State.Current.of_frame {s t : State}
    (h : ∀ i, (s.timer i).mode.inFrame = true → (t.timer i).mode.inFrame = true ∧
      (t.timer i).run = (s.timer i).run ∧ (t.timer i).frame = (s.timer i).frame) (k : CyclicClaim) :
    s.Current k → t.Current k := by
  rintro ⟨hm, hr, hf⟩
  obtain ⟨h1, h2, h3⟩ := h k.timer hm
  exact ⟨h1, hr.trans h2.symm, hf.trans h3.symm⟩

theorem State.Current.of_onTimer {s : State} {i : TimerId} {f : Timer → Timer}
    (h : (s.timer i).mode.inFrame = true → (f (s.timer i)).mode.inFrame = true ∧
      (f (s.timer i)).run = (s.timer i).run ∧ (f (s.timer i)).frame = (s.timer i).frame) (k : CyclicClaim) :
    s.Current k → (s.onTimer i f).Current k := by
  refine State.Current.of_frame (fun j hj => ?_) k
  rw [State.onTimer_timer]
  split
  · next hji => subst hji; exact h hj
  · exact ⟨hj, rfl, rfl⟩

theorem Timer.advance_frame (x : Timer) : x.advance.mode = x.mode ∧ x.advance.run = x.run ∧
    x.advance.frame = x.frame ∧ x.advance.config = x.config := by
  unfold Timer.advance
  split
  · split
    · exact ⟨rfl, rfl, rfl, rfl⟩
    · split <;> exact ⟨rfl, rfl, rfl, rfl⟩
  · exact ⟨rfl, rfl, rfl, rfl⟩

theorem State.ClaimsOk.calm {s t : State} (h : s.Calm t) (hs : s.ClaimsOk) : t.ClaimsOk :=
  hs.of_shrinks (.calm h) (State.Current.of_frame fun i hi =>
    ⟨by rw [(h.timers i).mode]; exact hi, (h.timers i).run, (h.timers i).frame⟩)

/-- One lane changes, and no claim or transaction on it is new but current ones. -/
theorem State.ClaimsOk.of_lane {s t : State} {l : LaneId} (hs : s.ClaimsOk) (htimers : t.timers = s.timers)
    (hother : ∀ m, m ≠ l → t.lane m = s.lane m)
    (hclaims : ∀ k, Claim.cyclic k ∈ (t.lane l).claims → s.Current k)
    (hflight : ∀ f k, (t.lane l).inFlight = some f → f.claim = .cyclic k → f.orphan = false → s.Current k) :
    t.ClaimsOk := by
  intro m
  by_cases hm : m = l
  · subst hm
    exact ⟨fun k hk => .of_timers htimers k (hclaims k hk),
      fun f k hf hc ho => .of_timers htimers k (hflight f k hf hc ho)⟩
  · rw [hother m hm]
    exact ⟨fun k hk => .of_timers htimers k ((hs m).1 k hk),
      fun f k hf hc ho => .of_timers htimers k ((hs m).2 f k hf hc ho)⟩

theorem State.onLane_lane_if (s : State) (l : LaneId) (f : Lane → Lane) (m : LaneId) :
    (s.onLane l f).lane m = if m = l then f (s.lane l) else s.lane m := by
  rw [State.onLane_lane]
  split
  · next h => rw [h]
  · rfl

/-- The lanes after a grant. -/
theorem State.granted_lane (s : State) (l : LaneId) (f : InFlight) (rest : List Claim) (m : LaneId) :
    State.lane
        ((s.onLane l fun x => { x with mode := .busy, claims := rest, inFlight := some f }).markGranted f.claim) m =
      if m = l then { s.lane l with mode := .busy, claims := rest, inFlight := some f } else s.lane m := by
  simp only [State.lane, State.markGranted_frame]
  exact s.onLane_lane_if l (fun x => { x with mode := .busy, claims := rest, inFlight := some f }) m

theorem State.ClaimsOk.grants {s : State} {l : LaneId} {f : InFlight} {rest : List Claim} (hs : s.ClaimsOk)
    (h : s.grantable l = some (f, rest)) :
    State.ClaimsOk
      ((s.onLane l fun x => { x with mode := .busy, claims := rest, inFlight := some f }).markGranted f.claim) := by
  obtain ⟨hclaims, -, -⟩ := State.grantable_some h
  refine hs.of_lane (l := l) (by simp) (fun m hm => by rw [s.granted_lane, if_neg hm]) ?_ ?_
  · intro k hk
    rw [s.granted_lane, if_pos rfl] at hk
    exact (hs l).1 k (by rw [hclaims]; exact List.mem_cons_of_mem _ hk)
  · intro g k hg hc _
    rw [s.granted_lane, if_pos rfl] at hg
    cases hg
    exact (hs l).1 k (by rw [hclaims, hc]; exact List.mem_cons_self ..)

theorem State.placeRetry_cyclic (s : State) (l : LaneId) (o : Outcome) (k : CyclicClaim) :
    s.placeRetry l o (.cyclic k) = s.onLane l fun x => { x with claims := .cyclic k :: x.claims } := rfl

theorem State.placeRetry_acyclic_lanes (s : State) (l : LaneId) (o : Outcome) (tag : Half) (a : Attempt) :
    (s.placeRetry l o (.acyclic tag a)).lanes =
      (s.onLane l fun x => { x with claims := insertAcyclicRetry (.acyclic tag a) x.claims }).lanes := rfl

theorem mem_insertAcyclicRetry {c d : Claim} {claims : List Claim} :
    d ∈ insertAcyclicRetry c claims ↔ d = c ∨ d ∈ claims := by
  induction claims with
  | nil => simp [insertAcyclicRetry]
  | cons a rest ih =>
    unfold insertAcyclicRetry
    split
    · rw [List.mem_cons, ih, List.mem_cons]; exact or_left_comm
    · simp

theorem State.ClaimsOk.ends {s : State} {l : LaneId} {f : InFlight} (o : Outcome) (d : List Byte) (hs : s.ClaimsOk)
    (hf : (s.lane l).inFlight = some f) : (s.endTransaction l f o d).ClaimsOk := by
  have hclear : (s.clearFlight l).ClaimsOk := hs.of_shrinks (s.clearFlight_shrinks l) (.of_timers (by simp))
  have hcur : ∀ k, s.Current k → (s.clearFlight l).Current k := State.Current.of_timers (by simp)
  obtain ⟨k, hk, ho, -, h⟩ | ⟨tag, a, e, hk, -, -, h⟩ | h := s.endTransaction_cases l f o d
  · rw [h, State.placeRetry_cyclic]
    refine hclear.of_lane (l := l) rfl (fun m hm => by rw [State.onLane_lane, if_neg hm]) ?_ ?_
    · intro k' hk'
      rw [State.onLane_lane_same, List.mem_cons] at hk'
      obtain hk' | hk' := hk'
      · cases hk'; exact hcur k ((hs l).2 f k hf hk ho)
      · exact (hclear l).1 k' hk'
    · intro g k' hg; rw [State.onLane_lane_same] at hg; exact (hclear l).2 g k' hg
  · rw [h]
    have hlane : ∀ m, State.lane ((s.clearFlight l).placeRetry l o (.acyclic tag (.retry o))) m =
        ((s.clearFlight l).onLane l fun x =>
          { x with claims := insertAcyclicRetry (.acyclic tag (.retry o)) x.claims }).lane m :=
      fun m => by simp only [State.lane, State.placeRetry_acyclic_lanes]
    refine hclear.of_lane (l := l) (by simp) (fun m hm => by rw [hlane, State.onLane_lane, if_neg hm]) ?_ ?_
    · intro k' hk'
      rw [hlane, State.onLane_lane_same, mem_insertAcyclicRetry] at hk'
      obtain hk' | hk' := hk'
      · cases hk'
      · exact (hclear l).1 k' hk'
    · intro g k' hg; rw [hlane, State.onLane_lane_same] at hg; exact (hclear l).2 g k' hg
  · rw [h]
    exact hclear.of_shrinks (.of_lanes (by simp)) (.of_timers (by simp))

theorem State.ClaimsOk.effect {s t : State} (h : s.Effect t) (hs : s.ClaimsOk) : t.ClaimsOk := by
  have stops : ∀ {u : State} {i : TimerId}, s.Shrinks u → u.Unclaimed i → u.timers = s.timers →
      (u.stopped i).ClaimsOk := fun hsh hun ht =>
    hs.of_unclaimed (hsh.trans (.of_lanes rfl)) (hun.shrinks (.of_lanes rfl)) fun j hj => by
      rw [State.stopped_timer_other _ hj]; simp only [State.timer, ht]
  have opens : ∀ {u : State} {i : TimerId}, s.Shrinks u → u.Unclaimed i →
      (∀ j, j ≠ i → u.timer j = s.timer j) → (u.frameStart i).ClaimsOk := fun hsh hun ht =>
    hs.of_unclaimed (hsh.trans (.of_lanes (by simp))) (hun.shrinks (.of_lanes (by simp))) fun j hj => by
      rw [State.frameStart_timer_other _ hj]; exact ht j hj
  have onTimer : ∀ {i : TimerId} {f : Timer → Timer}, s.Unclaimed i → (s.onTimer i f).ClaimsOk := fun hun =>
    hs.of_unclaimed (.of_lanes rfl) (hun.shrinks (.of_lanes rfl)) fun j hj => by
      rw [State.onTimer_timer, if_neg hj]
  cases h with
  | none => exact hs
  | configures => exact hs.of_shrinks (.of_lanes rfl) (.of_onTimer fun h => ⟨h, rfl, rfl⟩)
  | starts hm => exact onTimer (hs.unclaimed (by rw [hm]; rfl))
  | drains => exact hs.of_shrinks (.of_lanes rfl) (.of_onTimer fun _ => ⟨rfl, rfl, rfl⟩)
  | disarms hm =>
    exact (onTimer (f := fun x => x.rest .stopped) (hs.unclaimed (by rw [hm]; rfl))).calm
      (.of_same rfl rfl rfl rfl rfl)
  | stopsWaiting hm =>
    rw [State.stopWaiting_eq_stopped]
    exact stops (.of_lanes rfl) ((hs.unclaimed (by rw [hm]; rfl)).shrinks (.of_lanes rfl)) rfl
  | stopsRunning =>
    rw [State.stopRunning_eq_stopped]
    exact stops (s.withdrawn_shrinks _) (s.withdrawn_unclaimed _) (by simp)
  | commits => exact hs.of_shrinks (.of_lanes (by simp)) (.of_timers (by simp))
  | holds => exact hs.of_shrinks (.of_lanes rfl) (.of_timers rfl)
  | releases => exact hs.of_shrinks (.of_lanes rfl) (.of_timers rfl)
  | @accepts e =>
    refine hs.of_lane (l := e.lane) rfl (fun m hm => State.onLane_lane _ _ _ _ |>.trans (if_neg hm)) ?_ ?_
    · intro k hk
      rw [State.acceptTransact, State.onLane_lane_same, List.mem_append] at hk
      obtain hk | hk := hk
      · exact (hs e.lane).1 k hk
      · simp at hk
    · intro g k hg
      rw [State.acceptTransact, State.onLane_lane_same] at hg
      exact (hs e.lane).2 g k hg
  | drops => exact hs.of_shrinks (s.dropAcyclic_shrinks _ _) (.of_timers (by simp))
  | resolves => exact hs.of_shrinks (s.resolveAll_shrinks _ _) (.of_timers (by simp))
  | resets =>
    intro l
    rw [State.cleared_lane]
    exact ⟨fun k hk => (by cases hk), fun f k hf => (by cases hf)⟩
  | opensFirst hm hu =>
    obtain ⟨bs, -, rfl⟩ := State.firstFrame_some hu
    exact opens (.of_lanes rfl) ((hs.unclaimed (by rw [hm]; rfl)).shrinks (.of_lanes rfl)) fun _ _ => rfl
  | opensNext hm =>
    exact opens (.of_lanes rfl) ((hs.unclaimed (by rw [hm]; rfl)).shrinks (.of_lanes rfl)) fun j hj => by
      rw [State.onTimer_timer, if_neg hj]
  | drained =>
    rw [State.drain_eq_stopped]
    exact stops (s.closeFrame_shrinks _) (hs.closeFrame_unclaimed _) (by simp)
  | waits _ hu =>
    obtain ⟨bs, -, rfl⟩ := State.prepareNext_some hu
    refine hs.of_unclaimed ((s.closeFrame_shrinks _).trans (.of_lanes rfl))
      ((hs.closeFrame_unclaimed _).shrinks (.of_lanes rfl)) fun j hj => ?_
    rw [State.onTimer_timer, if_neg hj]
    simp only [State.timer, State.onBuffers_timers, State.closeFrame_frame]
  | goesOn _ hu =>
    obtain ⟨bs, -, rfl⟩ := State.prepareNext_some hu
    refine opens ((s.closeFrame_shrinks _).trans (.of_lanes rfl))
      ((hs.closeFrame_unclaimed _).shrinks (.of_lanes rfl)) fun j hj => ?_
    rw [State.onTimer_timer, if_neg hj]
    simp only [State.timer, State.onBuffers_timers, State.closeFrame_frame]
  | grants hg => exact hs.grants hg
  | expires => exact hs.of_shrinks (s.expires_shrinks _ _) (.of_timers (by simp))
  | ends hf => exact hs.ends _ _ hf
  | ticks =>
    refine hs.of_shrinks (.of_lanes rfl) (.of_frame fun i hi => ?_)
    rw [State.ticked_timer]
    obtain ⟨h1, h2, h3, -⟩ := (s.timer i).advance_frame
    exact ⟨by rw [h1]; exact hi, h2, h3⟩

/-- A claim that is posted is of the frame in progress (R20). -/
theorem State.claimFor_current {s : State} {i : TimerId} (h : (s.timer i).mode.inFrame = true) (position : Nat)
    (e : ScanEntry) : s.Current (s.claimFor i position e) := ⟨h, rfl, rfl⟩

theorem State.ClaimsOk.post {s : State} (hs : s.ClaimsOk) (e : ScanEntry) {c : CyclicClaim} (hc : s.Current c) :
    (s.post e c).ClaimsOk := by
  obtain ⟨hl, -⟩ | ⟨hl, -⟩ | h := s.post_cases e c
  · have hlane : ∀ m, (s.post e c).lane m = (s.enlist e.lane c).lane m := fun m => by simp only [State.lane, hl]
    refine hs.of_lane (l := e.lane) (by simp)
      (fun m hm => by rw [hlane, State.enlist, State.onLane_lane, if_neg hm]) ?_ ?_
    · intro k hk
      rw [hlane, State.enlist, State.onLane_lane_same, mem_insertCyclic] at hk
      obtain hk | hk := hk
      · cases hk; exact hc
      · exact (hs e.lane).1 k hk
    · intro g k hg
      rw [hlane, State.enlist, State.onLane_lane_same] at hg
      exact (hs e.lane).2 g k hg
  · exact hs.of_shrinks (.of_lanes hl) (.of_timers (by simp))
  · rw [h]; exact hs

theorem State.ClaimsOk.posts {s t : State} (h : s.Posts t) (hs : s.ClaimsOk) : t.ClaimsOk := by
  obtain rfl | ⟨i, hm, -, -, rfl⟩ := h
  · exact hs
  · refine State.postAll_keeps hs (fun u position e ht _ _ hu => ?_) fun u _ hu => ?_
    · exact hu.post e (.of_timers ht _ (s.claimFor_current hm position e))
    · exact hu.of_shrinks (.of_lanes rfl) (.of_onTimer fun hi => ⟨hi, rfl, rfl⟩)

/-! ### The order of the claim lists -/

/-- What leaves a list leaves it in order, and what leaves the wire too. -/
theorem Lane.ListOk.shrinks {x y : Lane} (hx : x.ListOk) (h : x.Shrinks y) : y.ListOk := by
  obtain ⟨cyc, acy, hxc, hcyc, hacy, hct, hat, hf⟩ := hx
  have hsub := h.claims
  rw [hxc] at hsub
  obtain ⟨c', a', hy, hc', ha'⟩ := List.sublist_append_iff.mp hsub
  refine ⟨c', a', hy, fun c hc => hcyc c (hc'.subset hc), fun c hc => hacy c (ha'.subset hc),
    fun c hc => hct c (hc'.tail.subset hc), fun c hc => hat c (ha'.tail.subset hc), fun g hg => ?_⟩
  obtain ⟨f, hxf, hclaim, -⟩ := h.flight g hg
  obtain ⟨hf1, hf2⟩ := hf f hxf
  exact ⟨fun c hc => hf1 c (hc'.subset hc), fun hgc c hc => hf2 (hclaim ▸ hgc) c (ha'.subset hc)⟩

/-- A cyclic claim of attempt 1 enters behind a retry claim and before the acyclic ones (R67). -/
theorem insertCyclic_append {now : Time} {c : CyclicClaim} {cyc acy : List Claim}
    (hcyc : ∀ d ∈ cyc, d.isCyclic = true) (hacy : ∀ d ∈ acy, d.isCyclic = false)
    (htail : ∀ d ∈ cyc.tail, d.isFirst = true) (hc : c.attempt = .first) :
    ∃ cyc', insertCyclic now c (cyc ++ acy) = cyc' ++ acy ∧ (∀ d ∈ cyc', d.isCyclic = true) ∧
      (∀ d ∈ cyc'.tail, d.isFirst = true) ∧
      ((∀ d ∈ cyc, d.isFirst = true) → ∀ d ∈ cyc', d.isFirst = true) := by
  have hfirst : (Claim.cyclic c).isFirst = true := by simp [Claim.isFirst, Claim.attempt, hc]
  induction cyc with
  | nil =>
    refine ⟨[.cyclic c], ?_, by simp [Claim.isCyclic], by simp, by simp [hfirst]⟩
    cases acy with
    | nil => rfl
    | cons a rest =>
      cases a with
      | cyclic k => exact absurd (hacy _ (List.mem_cons_self ..)) (by simp [Claim.isCyclic])
      | acyclic tag b => rfl
  | cons d cyc ih =>
    obtain ⟨k, rfl⟩ : ∃ k, d = .cyclic k := by
      have := hcyc d (List.mem_cons_self ..)
      cases d with
      | cyclic k => exact ⟨k, rfl⟩
      | acyclic => cases this
    have hrest : ∀ d ∈ cyc, d.isFirst = true := htail
    obtain ⟨cyc', heq, h1, h2, h3⟩ := ih (fun d hd => hcyc d (List.mem_cons_of_mem _ hd))
      fun d hd => hrest d (List.mem_of_mem_tail hd)
    have behind : ∀ d ∈ Claim.cyclic k :: cyc', d.isCyclic = true := by
      simpa [Claim.isCyclic] using h1
    have step : insertCyclic now c (Claim.cyclic k :: cyc ++ acy) = .cyclic k :: insertCyclic now c (cyc ++ acy) →
        ∃ cyc', insertCyclic now c (Claim.cyclic k :: cyc ++ acy) = cyc' ++ acy ∧
          (∀ d ∈ cyc', d.isCyclic = true) ∧ (∀ d ∈ cyc'.tail, d.isFirst = true) ∧
          ((∀ d ∈ Claim.cyclic k :: cyc, d.isFirst = true) → ∀ d ∈ cyc', d.isFirst = true) := fun h =>
      ⟨.cyclic k :: cyc', by rw [h, heq]; rfl, behind, h3 hrest, fun hall d hd => by
        obtain rfl | hd := List.mem_cons.mp hd
        · exact hall _ (List.mem_cons_self ..)
        · exact h3 hrest d hd⟩
    cases hk : k.attempt with
    | retry w => exact step (by simp [insertCyclic, hk])
    | first =>
      cases hb : c.before now k with
      | false => exact step (by simp [insertCyclic, hk, hb])
      | true =>
        have hkf : (Claim.cyclic k).isFirst = true := by simp [Claim.isFirst, Claim.attempt, hk]
        have hall : ∀ d ∈ Claim.cyclic k :: cyc, d.isFirst = true := by simpa [hkf] using hrest
        exact ⟨.cyclic c :: .cyclic k :: cyc, by simp [insertCyclic, hk, hb],
          by simpa [Claim.isCyclic] using fun d hd => hcyc d (List.mem_cons_of_mem _ hd), hall,
          fun _ d hd => by
            obtain rfl | hd := List.mem_cons.mp hd
            · exact hfirst
            · exact hall d hd⟩

theorem Lane.ListOk.insertCyclic {x : Lane} (hx : x.ListOk) (now : Time) {c : CyclicClaim} (hc : c.attempt = .first) :
    Lane.ListOk { x with claims := Machine.insertCyclic now c x.claims } := by
  obtain ⟨cyc, acy, hxc, hcyc, hacy, hct, hat, hf⟩ := hx
  obtain ⟨cyc', heq, h1, h2, h3⟩ := insertCyclic_append (now := now) hcyc hacy hct hc
  exact ⟨cyc', acy, by dsimp only; rw [hxc, heq], h1, hacy, h2, hat,
    fun f hxf => ⟨h3 (hf f hxf).1, (hf f hxf).2⟩⟩

/-- An acyclic claim of attempt 1 enters at the end (R67, R133). -/
theorem Lane.ListOk.append {x : Lane} (hx : x.ListOk) (tag : Half) :
    Lane.ListOk { x with claims := x.claims ++ [.acyclic tag .first] } := by
  obtain ⟨cyc, acy, hxc, hcyc, hacy, hct, hat, hf⟩ := hx
  have hmem : ∀ {l : List Claim} {d : Claim}, (∀ d ∈ l, d.isFirst = true) → d ∈ l ++ [.acyclic tag .first] →
      d.isFirst = true := fun h hd => by
    obtain hd | hd := List.mem_append.mp hd
    · exact h _ hd
    · rw [List.mem_singleton.mp hd]; rfl
  refine ⟨cyc, acy ++ [.acyclic tag .first], by dsimp only; rw [hxc, List.append_assoc], hcyc, fun d hd => ?_, hct,
    fun d hd => ?_, fun f hxf => ⟨(hf f hxf).1, fun hfc d hd => hmem ((hf f hxf).2 hfc) hd⟩⟩
  · obtain hd | hd := List.mem_append.mp hd
    · exact hacy d hd
    · rw [List.mem_singleton.mp hd]; rfl
  · cases acy with
    | nil => simp at hd
    | cons a rest => exact hmem hat hd

/-- A grant takes the only claim that may be a retry claim of its part (R70). -/
theorem Lane.ListOk.grant {x : Lane} (hx : x.ListOk) {f : InFlight} {rest : List Claim}
    (h : x.claims = f.claim :: rest) :
    Lane.ListOk { x with mode := .busy, claims := rest, inFlight := some f } := by
  obtain ⟨cyc, acy, hxc, hcyc, hacy, hct, hat, -⟩ := hx
  rw [h] at hxc
  cases cyc with
  | cons d cyc =>
    obtain ⟨hd, hrest⟩ := List.cons_eq_cons.mp hxc
    refine ⟨cyc, acy, hrest, fun c hc => hcyc c (List.mem_cons_of_mem _ hc), hacy,
      fun c hc => hct c (List.mem_of_mem_tail hc), hat, fun g hg => ?_⟩
    cases hg
    exact ⟨hct, fun hfc => by rw [hd, hcyc d (List.mem_cons_self ..)] at hfc; cases hfc⟩
  | nil =>
    cases acy with
    | nil => cases hxc
    | cons d acy =>
      obtain ⟨hd, hrest⟩ := List.cons_eq_cons.mp hxc
      refine ⟨[], acy, hrest, by simp, fun c hc => hacy c (List.mem_cons_of_mem _ hc), by simp,
        fun c hc => hat c (List.mem_of_mem_tail hc), fun g hg => ⟨by simp, fun _ => hat⟩⟩

/-- A retry claim comes back to a list that has none of its kind (R76, R77). -/
theorem Lane.ListOk.retry_cyclic {x y : Lane} (hx : x.ListOk) {f : InFlight} (hf : x.inFlight = some f)
    (hclaims : y.claims = x.claims) (hflight : y.inFlight = none) (k : CyclicClaim) :
    Lane.ListOk { y with claims := .cyclic k :: y.claims } := by
  obtain ⟨cyc, acy, hxc, hcyc, hacy, hct, hat, hfl⟩ := hx
  exact ⟨.cyclic k :: cyc, acy, by dsimp only; rw [hclaims, hxc]; rfl, by simpa [Claim.isCyclic] using hcyc, hacy,
    (hfl f hf).1, hat, fun g hg => by rw [hflight] at hg; cases hg⟩

theorem insertAcyclicRetry_append {c : Claim} {cyc acy : List Claim} (hcyc : ∀ d ∈ cyc, d.isCyclic = true)
    (hacy : ∀ d ∈ acy, d.isCyclic = false) : insertAcyclicRetry c (cyc ++ acy) = cyc ++ c :: acy := by
  induction cyc with
  | nil =>
    cases acy with
    | nil => rfl
    | cons a rest => simp [insertAcyclicRetry, hacy a (List.mem_cons_self ..)]
  | cons d cyc ih =>
    rw [List.cons_append, insertAcyclicRetry, if_pos (hcyc d (List.mem_cons_self ..)),
      ih fun d hd => hcyc d (List.mem_cons_of_mem _ hd)]
    rfl

theorem Lane.ListOk.retry_acyclic {x y : Lane} (hx : x.ListOk) {f : InFlight} (hf : x.inFlight = some f)
    (hfc : f.claim.isCyclic = false) (hclaims : y.claims = x.claims) (hflight : y.inFlight = none) (tag : Half)
    (a : Attempt) : Lane.ListOk { y with claims := insertAcyclicRetry (.acyclic tag a) y.claims } := by
  obtain ⟨cyc, acy, hxc, hcyc, hacy, hct, hat, hfl⟩ := hx
  exact ⟨cyc, .acyclic tag a :: acy, by dsimp only; rw [hclaims, hxc, insertAcyclicRetry_append hcyc hacy], hcyc,
    by simpa [Claim.isCyclic] using hacy, hct, (hfl f hf).2 hfc, fun g hg => by rw [hflight] at hg; cases hg⟩

theorem State.ListsOk.of_shrinks {s t : State} (hs : s.ListsOk) (h : s.Shrinks t) : t.ListsOk :=
  fun l => (hs l).shrinks (h l)

theorem State.ListsOk.of_lane {s t : State} {l : LaneId} {x : Lane} (hs : s.ListsOk) (hx : x.ListOk)
    (h : ∀ m, t.lane m = if m = l then x else s.lane m) : t.ListsOk := by
  intro m
  rw [h]
  split
  · exact hx
  · exact hs m

theorem State.ListsOk.ends {s : State} {l : LaneId} {f : InFlight} (o : Outcome) (d : List Byte) (hs : s.ListsOk)
    (hf : (s.lane l).inFlight = some f) : (s.endTransaction l f o d).ListsOk := by
  have hclear : (s.clearFlight l).ListsOk := hs.of_shrinks (s.clearFlight_shrinks l)
  obtain ⟨-, hnone, hkept⟩ := s.clearFlight_lane l l
  obtain ⟨k, hk, -, hsleep, h⟩ | ⟨tag, a, e, hk, -, hsleep, h⟩ | h := s.endTransaction_cases l f o d
  · rw [hsleep] at hkept
    rw [h]
    exact hclear.of_lane ((hs l).retry_cyclic hf hkept hnone _) (State.onLane_lane_if _ _ _)
  · rw [hsleep] at hkept
    rw [h]
    exact hclear.of_lane ((hs l).retry_acyclic hf (by rw [hk]; rfl) hkept hnone tag (.retry o))
      (State.onLane_lane_if (s.clearFlight l) l fun x =>
        { x with claims := insertAcyclicRetry (.acyclic tag (.retry o)) x.claims })
  · rw [h]; exact hclear.of_shrinks (.of_lanes (by simp))

theorem State.ListsOk.effect {s t : State} (h : s.Effect t) (hs : s.ListsOk) : t.ListsOk := by
  cases h with
  | none => exact hs
  | configures => exact hs.of_shrinks (.of_lanes rfl)
  | starts => exact hs.of_shrinks (.of_lanes rfl)
  | drains => exact hs.of_shrinks (.of_lanes rfl)
  | disarms => exact hs.of_shrinks (.of_lanes rfl)
  | stopsWaiting => rw [State.stopWaiting_eq_stopped]; exact hs.of_shrinks (.of_lanes (by simp))
  | @stopsRunning i =>
    rw [State.stopRunning_eq_stopped]
    exact hs.of_shrinks ((s.withdrawn_shrinks i).trans (.of_lanes (by simp)))
  | commits => exact hs.of_shrinks (.of_lanes (by simp))
  | holds => exact hs.of_shrinks (.of_lanes rfl)
  | releases => exact hs.of_shrinks (.of_lanes rfl)
  | @accepts e => exact hs.of_lane ((hs e.lane).append e.tag) fun m => State.onLane_lane_if _ _ _ _
  | drops => exact hs.of_shrinks (s.dropAcyclic_shrinks _ _)
  | resolves => exact hs.of_shrinks (s.resolveAll_shrinks _ _)
  | resets =>
    intro l
    rw [State.cleared_lane]
    exact ⟨[], [], rfl, by simp, by simp, by simp, by simp, fun f hf => (by cases hf)⟩
  | opensFirst _ hu =>
    obtain ⟨bs, -, rfl⟩ := State.firstFrame_some hu
    exact hs.of_shrinks (.of_lanes (by simp))
  | opensNext => exact hs.of_shrinks (.of_lanes (by simp [State.nextFrame]))
  | @drained i =>
    rw [State.drain_eq_stopped]
    exact hs.of_shrinks ((s.closeFrame_shrinks i).trans (.of_lanes (by simp)))
  | @waits _ i _ hu =>
    obtain ⟨bs, -, rfl⟩ := State.prepareNext_some hu
    exact hs.of_shrinks ((s.closeFrame_shrinks i).trans (.of_lanes rfl))
  | @goesOn _ i _ hu =>
    obtain ⟨bs, -, rfl⟩ := State.prepareNext_some hu
    exact hs.of_shrinks ((s.closeFrame_shrinks i).trans (.of_lanes (by simp [State.nextFrame])))
  | grants hg => exact hs.of_lane ((hs _).grant (State.grantable_some hg).1) (s.granted_lane _ _ _)
  | expires => exact hs.of_shrinks (s.expires_shrinks _ _)
  | ends hf => exact hs.ends _ _ hf
  | ticks => exact hs.of_shrinks (.of_lanes rfl)

theorem State.ListsOk.post {s : State} (hs : s.ListsOk) (e : ScanEntry) {c : CyclicClaim} (hc : c.attempt = .first) :
    (s.post e c).ListsOk := by
  obtain ⟨hl, -⟩ | ⟨hl, -⟩ | h := s.post_cases e c
  · exact State.ListsOk.of_shrinks (hs.of_lane ((hs e.lane).insertCyclic s.time hc) (State.onLane_lane_if _ _ _))
      (.of_lanes hl)
  · exact hs.of_shrinks (.of_lanes hl)
  · rw [h]; exact hs

theorem State.ListsOk.posts {s t : State} (h : s.Posts t) (hs : s.ListsOk) : t.ListsOk := by
  obtain rfl | ⟨i, -, -, -, rfl⟩ := h
  · exact hs
  · exact State.postAll_keeps hs (fun u position e _ _ _ hu => hu.post e rfl) fun u _ hu =>
      hu.of_shrinks (.of_lanes rfl)

/-- Settles O56: both parts are kept by quiet changes, happenings and postings, each by itself. -/
theorem claimListsKept : Obligations.ClaimListsKept := fun _ _ h =>
  ⟨fun hs => step_keeps State.ClaimsOk.calm State.ClaimsOk.effect State.ClaimsOk.posts hs h,
    fun hs => step_keeps (fun hc hl => hl.of_shrinks (.calm hc)) State.ListsOk.effect State.ListsOk.posts hs h⟩

end Sys2Proof.Machine
end

section
/-! SUPPORT. Each claim and transaction has its table entry on its lane (R20, R44, R67, R131, R134). -/

set_option Elab.async false

namespace Sys2Proof.Machine

/-! ### The entries of tags -/

theorem State.held_iff {s : State} {l : LaneId} {tag : Half} {b : Bool} :
    s.Held l tag b ↔ (s.acyclicEntry tag).map AcyclicEntry.place = some (l, b) := by
  simp only [State.Held, Option.map_eq_some_iff, AcyclicEntry.place, Prod.mk.injEq]

/-- The entry of a tag stands on one lane, IN_FLIGHT or WAITING. -/
theorem State.Held.unique {s : State} {l m : LaneId} {tag : Half} {b c : Bool} (h : s.Held l tag b)
    (k : s.Held m tag c) : l = m ∧ b = c := by
  rw [State.held_iff] at h k
  rw [h] at k
  simpa using k

theorem State.acyclicEntry_completeAcyclic (s : State) (g tag : Half) (o : Outcome) (n : Nat) (d : List Byte) :
    (s.completeAcyclic g o n d).acyclicEntry tag = if tag = g then none else s.acyclicEntry tag := by
  simp only [State.acyclicEntry, State.completeAcyclic, State.notify_acyclic, List.find?_filter]
  split
  · next h => subst h; simp
  · next h =>
    congr 1
    funext e
    by_cases he : e.tag = tag
    · simp [he, h]
    · simp [he]

theorem State.acyclicEntry_congr {s t : State} (h : t.acyclic = s.acyclic) (tag : Half) :
    t.acyclicEntry tag = s.acyclicEntry tag := by simp only [State.acyclicEntry, h]

theorem State.acyclicEntry_deliverWaiting {s : State} {l : LaneId} {o : Outcome} {c : Claim} {tag : Half}
    (h : c.hasTag tag = false) : (s.deliverWaiting l o c).acyclicEntry tag = s.acyclicEntry tag := by
  cases c with
  | cyclic k => exact State.acyclicEntry_congr (s.deliverWaiting_cyclic_acyclic l o k) tag
  | acyclic g a =>
    simp only [State.deliverWaiting]
    split
    · rw [State.acyclicEntry_congr (s := s.completeAcyclic g o a.waited []) (by simp),
        State.acyclicEntry_completeAcyclic, if_neg]
      rintro rfl
      simp [Claim.hasTag] at h
    · rfl

theorem State.acyclicEntry_deliverAll {s : State} {l : LaneId} {o : Outcome} {cs : List Claim} {tag : Half}
    (h : ∀ c ∈ cs, c.hasTag tag = false) : (s.deliverAll l o cs).acyclicEntry tag = s.acyclicEntry tag := by
  induction cs generalizing s with
  | nil => rfl
  | cons c cs ih =>
    have hs := ih (s := s.deliverWaiting l o c) fun c hc => h c (List.mem_cons_of_mem _ hc)
    rw [State.acyclicEntry_deliverWaiting (h c (List.mem_cons_self ..))] at hs
    exact hs

theorem Claim.hasTag_iff {c : Claim} {tag : Half} : c.hasTag tag = true ↔ ∃ a, c = .acyclic tag a := by
  cases c with
  | cyclic k => simp [Claim.hasTag]
  | acyclic g a => simp [Claim.hasTag]

/-! ### What a lane carries -/

/-- A cyclic claim waits on a lane, or is that of its transaction, which is no orphan. -/
def State.Bears (s : State) (l : LaneId) (k : CyclicClaim) : Prop :=
  Claim.cyclic k ∈ (s.lane l).claims ∨
    ∃ f, (s.lane l).inFlight = some f ∧ f.claim = .cyclic k ∧ f.orphan = false

theorem State.Unclaimed.bears {s : State} {i : TimerId} (h : s.Unclaimed i) {l : LaneId} {k : CyclicClaim}
    (hk : s.Bears l k) : k.timer ≠ i := by
  obtain hk | ⟨f, hf, hc, ho⟩ := hk
  · exact (h l).1 k hk
  · exact (h l).2 f k hf hc ho

/-- The claims of one lane have their entries on it. -/
def State.LanePlaced (s : State) (l : LaneId) : Prop :=
  (∀ k, Claim.cyclic k ∈ (s.lane l).claims → s.Placed l k) ∧
  (∀ tag a, Claim.acyclic tag a ∈ (s.lane l).claims → s.Held l tag false) ∧
  (∀ tag, (s.lane l).claims.countP (fun c => c.hasTag tag) ≤ 1) ∧
  (∀ f k, (s.lane l).inFlight = some f → f.claim = .cyclic k → f.orphan = false → s.Placed l k) ∧
  (∀ f tag a, (s.lane l).inFlight = some f → f.claim = .acyclic tag a → s.Held l tag true)

/-- A lane that shrinks keeps its claims placed, when their entries stay. -/
theorem State.LanePlaced.shrinks {s t : State} {l : LaneId} (hs : s.LanePlaced l)
    (h : (s.lane l).Shrinks (t.lane l)) (hp : ∀ k, t.Bears l k → s.Placed l k → t.Placed l k)
    (hwait : ∀ tag a, Claim.acyclic tag a ∈ (t.lane l).claims → s.Held l tag false → t.Held l tag false)
    (hfly : ∀ f tag a, (t.lane l).inFlight = some f → f.claim = .acyclic tag a → s.Held l tag true →
      t.Held l tag true) : t.LanePlaced l := by
  obtain ⟨h1, h2, h3, h4, h5⟩ := hs
  refine ⟨fun k hk => hp k (.inl hk) (h1 k (h.claims.subset hk)),
    fun tag a hc => hwait tag a hc (h2 tag a (h.claims.subset hc)),
    fun tag => (h.claims.countP_le).trans (h3 tag), fun g k hg hc ho => ?_, fun g tag a hg hc => ?_⟩
  · obtain ⟨f, hf, hfc, hfo⟩ := h.flight g hg
    exact hp k (.inr ⟨g, hg, hc, ho⟩) (h4 f k hf (hfc ▸ hc) (hfo ho))
  · obtain ⟨f, hf, hfc, -⟩ := h.flight g hg
    exact hfly g tag a hg hc (h5 f tag a hf (hfc ▸ hc))

theorem State.Placed.of_active {s t : State} {l : LaneId} {k : CyclicClaim}
    (h : (t.table k.timer).active = (s.table k.timer).active) (hk : s.Placed l k) : t.Placed l k := by
  obtain ⟨e, he, hl⟩ := hk
  exact ⟨e, by unfold State.entry at he ⊢; rw [h]; exact he, hl⟩

theorem State.Held.of_place {s t : State} {l : LaneId} {tag : Half} {b : Bool}
    (h : (t.acyclicEntry tag).map AcyclicEntry.place = (s.acyclicEntry tag).map AcyclicEntry.place)
    (hk : s.Held l tag b) : t.Held l tag b := by
  rw [State.held_iff] at hk ⊢
  rw [h]; exact hk

/-- Lanes that shrink keep their claims placed, when the acyclic entries stay. -/
theorem State.ClaimsPlaced.of_shrinks {s t : State} (hs : s.ClaimsPlaced) (h : s.Shrinks t)
    (hp : ∀ l k, t.Bears l k → (t.table k.timer).active = (s.table k.timer).active)
    (ha : ∀ tag, (t.acyclicEntry tag).map AcyclicEntry.place = (s.acyclicEntry tag).map AcyclicEntry.place) :
    t.ClaimsPlaced := fun l =>
  State.LanePlaced.shrinks (hs l) (h l) (fun k hb hk => hk.of_active (hp l k hb))
    (fun tag _ _ hh => hh.of_place (ha tag)) fun _ tag _ _ _ hh => hh.of_place (ha tag)

theorem State.ClaimsPlaced.calm {s t : State} (h : s.Calm t) (hs : s.ClaimsPlaced) : t.ClaimsPlaced :=
  hs.of_shrinks (.calm h) (fun _ k _ => h.active k.timer) h.acyclic

/-- Nothing of the tables, claims or entries changes. -/
theorem State.ClaimsPlaced.of_same {s t : State} (hs : s.ClaimsPlaced) (hl : t.lanes = s.lanes)
    (ht : ∀ i, (t.table i).active = (s.table i).active) (ha : t.acyclic = s.acyclic) : t.ClaimsPlaced :=
  hs.of_shrinks (.of_lanes hl) (fun _ k _ => ht k.timer) fun tag => by rw [State.acyclicEntry_congr ha]

/-- A timer without claims may take any table. -/
theorem State.ClaimsPlaced.of_unclaimed {s t : State} {i : TimerId} (hs : s.ClaimsPlaced) (h : s.Shrinks t)
    (hun : t.Unclaimed i) (hother : ∀ j, j ≠ i → (t.table j).active = (s.table j).active)
    (ha : t.acyclic = s.acyclic) : t.ClaimsPlaced :=
  hs.of_shrinks h (fun _ k hb => hother k.timer (hun.bears hb)) fun tag => by rw [State.acyclicEntry_congr ha]

/-- One lane changes, and the entries that change are on it. -/
theorem State.ClaimsPlaced.of_lane {s t : State} {l : LaneId} (hs : s.ClaimsPlaced)
    (htables : t.tables = s.tables) (hother : ∀ m, m ≠ l → t.lane m = s.lane m)
    (hheld : ∀ m tag b, m ≠ l → s.Held m tag b → t.Held m tag b) (hl : t.LanePlaced l) : t.ClaimsPlaced := by
  intro m
  by_cases hm : m = l
  · subst hm; exact hl
  · refine State.LanePlaced.shrinks (hs m) (by rw [hother m hm]; exact .refl _) (fun k _ hk => ?_)
      (fun tag _ _ hh => hheld m tag _ hm hh) fun _ tag _ _ _ hh => hheld m tag _ hm hh
    exact hk.of_active (by simp only [State.table, htables])

/-! ### Claims that are resolved together -/

theorem State.ClaimsPlaced.resolveAll {s : State} (hs : s.ClaimsPlaced) (l : LaneId) (o : Outcome) :
    (s.resolveAll l o).ClaimsPlaced := by
  -- The entries that complete are WAITING ones of this lane; every other claim keeps its entry.
  have kept : ∀ m tag b, (m ≠ l ∨ b = true) → s.Held m tag b → (s.resolveAll l o).Held m tag b := by
    intro m tag b hmb hh
    refine hh.of_place (congrArg _ ?_)
    refine State.acyclicEntry_deliverAll fun c hc => Bool.eq_false_iff.mpr fun ht => ?_
    obtain ⟨a, rfl⟩ := Claim.hasTag_iff.mp ht
    obtain ⟨rfl, rfl⟩ := hh.unique ((hs l).2.1 tag a hc)
    simp at hmb
  intro m
  refine State.LanePlaced.shrinks (hs m) (s.resolveAll_shrinks l o m)
    (fun k _ hk => hk.of_active (by simp [State.table])) (fun tag a hc hh => kept m tag false (.inl ?_) hh)
    fun _ tag _ _ _ hh => kept m tag true (.inr rfl) hh
  rintro rfl
  rw [State.resolveAll_lane, if_pos rfl] at hc
  cases hc

theorem State.ClaimsPlaced.clearFlight {s : State} (hs : s.ClaimsPlaced) (l : LaneId) :
    (s.clearFlight l).ClaimsPlaced := by
  have h1 : (s.onLane l fun x => { x with mode := .ready, inFlight := none }).ClaimsPlaced :=
    hs.of_shrinks (.onLane ⟨.refl _, fun g hg => by cases hg⟩) (fun _ _ _ => rfl) fun _ => rfl
  unfold State.clearFlight
  dsimp only
  split
  · exact State.ClaimsPlaced.resolveAll (h1.calm .onLane) l .asleep
  · exact h1

/-! ### An entry that completes -/

theorem State.ClaimsPlaced.drops {s : State} {tag : Half} {e : AcyclicEntry} (hs : s.ClaimsPlaced) (o : Outcome)
    (he : s.acyclicEntry tag = some e) (hf : e.inFlight = false) : (s.dropAcyclic e o).ClaimsPlaced := by
  have htag := State.acyclicEntry_tag he
  subst htag
  have hheld : s.Held e.lane e.tag false := ⟨e, he, rfl, hf⟩
  have kept : ∀ m g b, g ≠ e.tag → s.Held m g b → (s.dropAcyclic e o).Held m g b := fun m g b hg hh => by
    refine hh.of_place (congrArg _ ?_)
    rw [State.dropAcyclic, State.acyclicEntry_congr (State.rosterOutcome_frame ..).2.2.2.2.2.2.2.2.2.2.2.2,
      State.acyclicEntry_completeAcyclic, if_neg hg]
    rfl
  have hlane := s.dropAcyclic_lanes e o
  intro m
  refine State.LanePlaced.shrinks (hs m) (s.dropAcyclic_shrinks e o m)
    (fun k _ hk => hk.of_active (by simp [State.table])) (fun g a hc hh => ?_) fun f g a _ _ hh => ?_
  · refine kept m g _ ?_ hh
    rintro rfl
    obtain ⟨rfl, -⟩ := hheld.unique hh
    simp only [State.lane, hlane] at hc
    have := (s.onLane_lane_if e.lane (fun x => { x with claims := x.claims.filter fun c => !c.hasTag e.tag }) e.lane)
    simp only [State.lane, if_true] at this
    rw [this] at hc
    have hcontra := (List.mem_filter.mp hc).2
    simp [Claim.hasTag] at hcontra
  · refine kept m g _ ?_ hh
    rintro rfl
    cases (hheld.unique hh).2

/-- The entry of the transaction that ends completes: no other claim rests on it. -/
theorem State.ClaimsPlaced.deliverFinal {s u : State} {l : LaneId} {f : InFlight} (o : Outcome) (d : List Byte)
    (hs : s.ClaimsPlaced) (hf : (s.lane l).inFlight = some f) (hu : u.ClaimsPlaced) (hsh : s.Shrinks u)
    (hnone : (u.lane l).inFlight = none) : (u.deliverFinal l f o d).ClaimsPlaced := by
  cases hc : f.claim with
  | cyclic k =>
    exact hu.of_same (by simp) (fun _ => by simp [State.table]) (by simp [State.deliverFinal, hc])
  | acyclic tag a =>
    have hheld : s.Held l tag true := (hs l).2.2.2.2 f tag a hf hc
    have kept : ∀ m g b, g ≠ tag → u.Held m g b → (u.deliverFinal l f o d).Held m g b := fun m g b hg hh => by
      refine hh.of_place (congrArg _ ?_)
      simp only [State.deliverFinal, hc]
      rw [State.acyclicEntry_congr (State.rosterOutcome_frame ..).2.2.2.2.2.2.2.2.2.2.2.2,
        State.acyclicEntry_completeAcyclic, if_neg hg]
    intro m
    refine State.LanePlaced.shrinks (hu m) (State.Shrinks.of_lanes (by simp) m)
      (fun k _ hk => hk.of_active (by simp [State.table])) (fun g b hw hh => kept m g _ ?_ hh)
      fun g h b hfl hgc hh => kept m h _ ?_ hh
    · rintro rfl
      have hlanes : (u.deliverFinal l f o d).lanes = u.lanes := by simp
      simp only [State.lane, hlanes] at hw
      cases (hheld.unique ((hs m).2.1 g b ((hsh m).claims.subset hw))).2
    · rintro rfl
      have hlanes : (u.deliverFinal l f o d).lanes = u.lanes := by simp
      simp only [State.lane, hlanes] at hfl
      obtain ⟨f', hf', hfc', -⟩ := (hsh m).flight g hfl
      obtain ⟨rfl, -⟩ := hheld.unique ((hs m).2.2.2.2 f' h b hf' (hfc' ▸ hgc))
      rw [State.lane, hfl] at hnone
      cases hnone

/-! ### Claims that enter a list or go on the wire -/

theorem countP_hasTag_zero {claims : List Claim} {tag : Half} (h : ∀ a, Claim.acyclic tag a ∉ claims) :
    claims.countP (fun c => c.hasTag tag) = 0 :=
  List.countP_eq_zero.mpr fun _ hc ht => by
    obtain ⟨a, rfl⟩ := Claim.hasTag_iff.mp ht
    exact h a hc

theorem State.ClaimsPlaced.accepts {s : State} {e : AcyclicEntry} (hs : s.ClaimsPlaced)
    (he : s.acyclicEntry e.tag = none) (hf : e.inFlight = false) : (s.acceptTransact e).ClaimsPlaced := by
  have hentry : ∀ g, (s.acceptTransact e).acyclicEntry g = if g = e.tag then some e else s.acyclicEntry g := by
    intro g
    simp only [State.acceptTransact, State.onLane_acyclicEntry_eq]
    simp only [State.acyclicEntry] at he ⊢
    rw [List.find?_append]
    by_cases hg : g = e.tag
    · subst hg; simp [he]
    · simp [hg, Ne.symm hg]
  have kept : ∀ m g b, s.Held m g b → (s.acceptTransact e).Held m g b := by
    rintro m g b ⟨x, hx, hxl, hxb⟩
    have hg : g ≠ e.tag := by rintro rfl; rw [he] at hx; cases hx
    exact ⟨x, by rw [hentry, if_neg hg, hx], hxl, hxb⟩
  have free : ∀ m b, ¬ s.Held m e.tag b := by rintro m b ⟨x, hx, -⟩; rw [he] at hx; cases hx
  have hlane : (s.acceptTransact e).lane e.lane =
      { s.lane e.lane with claims := (s.lane e.lane).claims ++ [.acyclic e.tag .first] } :=
    State.onLane_lane_same _ _ _
  obtain ⟨h1, h2, h3, h4, h5⟩ := hs e.lane
  refine hs.of_lane (l := e.lane) rfl (fun m hm => (State.onLane_lane _ _ _ _).trans (if_neg hm))
    (fun m g b _ hh => kept m g b hh) ⟨fun k hk => ?_, fun g a hc => ?_, fun g => ?_, ?_, ?_⟩
  · rw [hlane, List.mem_append] at hk
    exact (h1 k (by simpa using hk)).of_active rfl
  · rw [hlane, List.mem_append] at hc
    obtain hc | hc := hc
    · exact kept _ _ _ (h2 g a hc)
    · simp only [List.mem_singleton, Claim.acyclic.injEq] at hc
      exact ⟨e, by rw [hentry, if_pos hc.1], rfl, hf⟩
  · rw [hlane]
    dsimp only
    rw [List.countP_append]
    by_cases hg : g = e.tag
    · subst hg
      rw [countP_hasTag_zero fun a hc => free _ _ (h2 _ a hc)]
      rw [Nat.zero_add]
      exact List.countP_le_length
    · rw [List.countP_singleton, if_neg (by simpa [Claim.hasTag] using Ne.symm hg)]
      exact h3 g
  · rw [hlane]; exact fun f k hfl hc ho => (h4 f k hfl hc ho).of_active rfl
  · rw [hlane]; exact fun f g a hfl hc => kept _ _ _ (h5 f g a hfl hc)

theorem insertCyclic_perm (now : Time) (c : CyclicClaim) (claims : List Claim) :
    (insertCyclic now c claims).Perm (.cyclic c :: claims) := by
  induction claims with
  | nil => exact .refl _
  | cons d rest ih =>
    have behind : (d :: insertCyclic now c rest).Perm (.cyclic c :: d :: rest) := (ih.cons d).trans (.swap _ _ _)
    cases d with
    | acyclic => exact .refl _
    | cyclic k =>
      unfold insertCyclic
      split
      · exact behind
      · split
        · exact .refl _
        · exact behind

theorem insertAcyclicRetry_perm (c : Claim) (claims : List Claim) :
    (insertAcyclicRetry c claims).Perm (c :: claims) := by
  induction claims with
  | nil => exact .refl _
  | cons d rest ih =>
    unfold insertAcyclicRetry
    split
    · exact (ih.cons d).trans (.swap _ _ _)
    · exact .refl _

theorem State.ClaimsPlaced.post {s : State} (hs : s.ClaimsPlaced) {e : ScanEntry} {c : CyclicClaim}
    (hc : s.entry c.timer c.position = some e) : (s.post e c).ClaimsPlaced := by
  obtain ⟨hl, -⟩ | ⟨hl, -⟩ | h := s.post_cases e c
  · have hlane : ∀ m, (s.post e c).lane m = if m = e.lane then
        { s.lane e.lane with claims := insertCyclic s.time c (s.lane e.lane).claims } else s.lane m := fun m => by
      simp only [State.lane, hl]; exact State.onLane_lane_if _ _ _ _
    have hheld : ∀ m g b, s.Held m g b → (s.post e c).Held m g b := fun m g b hh =>
      hh.of_place (by rw [State.acyclicEntry_congr (s.post_acyclic e c)])
    have hplaced : ∀ m k, s.Placed m k → (s.post e c).Placed m k := fun m k hk =>
      hk.of_active (by simp [State.table])
    obtain ⟨h1, h2, h3, h4, h5⟩ := hs e.lane
    refine hs.of_lane (l := e.lane) (by simp) (fun m hm => by rw [hlane, if_neg hm])
      (fun m g b _ hh => hheld m g b hh) ?_
    unfold State.LanePlaced
    rw [hlane, if_pos rfl]
    refine ⟨fun k hk => ?_, fun g a hk => ?_, fun g => ?_, fun f k hf hfc ho => hplaced _ _ (h4 f k hf hfc ho),
      fun f g a hf hfc => hheld _ _ _ (h5 f g a hf hfc)⟩
    · obtain hk | hk := mem_insertCyclic.mp hk
      · cases hk; exact hplaced _ _ ⟨e, hc, rfl⟩
      · exact hplaced _ _ (h1 k hk)
    · obtain hk | hk := mem_insertCyclic.mp hk
      · cases hk
      · exact hheld _ _ _ (h2 g a hk)
    · dsimp only
      rw [(insertCyclic_perm _ _ _).countP_eq, List.countP_cons_of_neg (by simp [Claim.hasTag])]
      exact h3 g
  · exact hs.of_same hl (fun _ => by simp [State.table]) (s.post_acyclic e c)
  · rw [h]; exact hs

/-- What granting marks and a retry clears: the entry with a tag, on its lane. -/
theorem State.held_onAcyclic {s : State} {tag g : Half} {m : LaneId} {b : Bool} (f : AcyclicEntry → AcyclicEntry)
    (htag : ∀ e, (f e).tag = e.tag) (hlane : ∀ e, (f e).lane = e.lane) (h : s.Held m g b) :
    (g ≠ tag → (s.onAcyclic tag f).Held m g b) ∧
      (g = tag → ∀ b', (∀ e, (f e).inFlight = b') → (s.onAcyclic tag f).Held m g b') := by
  obtain ⟨e, he, hl, hb⟩ := h
  have het := State.acyclicEntry_tag he
  have hentry := s.acyclicEntry_onAcyclic tag g f htag
  rw [he, Option.map_some, het] at hentry
  refine ⟨fun hg => ⟨e, by rw [hentry, if_neg hg], hl, hb⟩, fun hg b' hf => ⟨f e, by rw [hentry, if_pos hg], ?_, hf e⟩⟩
  rw [hlane, hl]

theorem State.ClaimsPlaced.grants {s : State} {l : LaneId} {f : InFlight} {rest : List Claim} (hs : s.ClaimsPlaced)
    (h : s.grantable l = some (f, rest)) :
    State.ClaimsPlaced
      ((s.onLane l fun x => { x with mode := .busy, claims := rest, inFlight := some f }).markGranted f.claim) := by
  obtain ⟨hclaims, -, -⟩ := State.grantable_some h
  have hlane := s.granted_lane l f rest
  obtain ⟨h1, h2, h3, -, -⟩ := hs l
  have hsub : ∀ c ∈ rest, c ∈ (s.lane l).claims := fun c hc => by rw [hclaims]; exact List.mem_cons_of_mem _ hc
  have hhead : f.claim ∈ (s.lane l).claims := by rw [hclaims]; exact List.mem_cons_self ..
  have hcount : ∀ g, rest.countP (fun c => c.hasTag g) ≤ 1 := fun g =>
    ((List.sublist_cons_self f.claim rest).countP_le).trans (by rw [← hclaims]; exact h3 g)
  cases hc : f.claim with
  | cyclic k =>
    rw [hc] at hlane hhead
    refine hs.of_lane (l := l) rfl (fun m hm => by rw [hlane, if_neg hm]) (fun _ _ _ _ hh => hh) ?_
    unfold State.LanePlaced
    rw [hlane, if_pos rfl]
    refine ⟨fun k hk => h1 k (hsub _ hk), fun g a hk => h2 g a (hsub _ hk), hcount, fun g k' hg hgc _ => ?_,
      fun g tag a hg hgc => ?_⟩
    · cases hg
      rw [hc] at hgc; cases hgc
      exact h1 k hhead
    · cases hg
      rw [hc] at hgc; cases hgc
  | acyclic tag a =>
    rw [hc] at hlane hhead
    have hheld : s.Held l tag false := h2 tag a hhead
    have kept : ∀ m g b, s.Held m g b → g ≠ tag → State.Held
        ((s.onLane l fun x => { x with mode := .busy, claims := rest, inFlight := some f }).markGranted
          (.acyclic tag a)) m g b := fun m g b hh hg =>
      (State.held_onAcyclic (fun e => { e with inFlight := true }) (fun _ => rfl) (fun _ => rfl) hh).1 hg
    refine hs.of_lane (l := l) rfl (fun m hm => by rw [hlane, if_neg hm]) (fun m g b hm hh => kept m g b hh ?_) ?_
    · rintro rfl
      exact hm (hheld.unique hh).1.symm
    · unfold State.LanePlaced
      rw [hlane, if_pos rfl]
      refine ⟨fun k hk => h1 k (hsub _ hk), fun g b hk => kept _ _ _ (h2 g b (hsub _ hk)) ?_, hcount,
        fun g k' hg hgc _ => ?_, fun g tag' a' hg hgc => ?_⟩
      · rintro rfl
        have htwo := h3 g
        rw [hclaims, hc, List.countP_cons_of_pos (by simp [Claim.hasTag])] at htwo
        have hpos : 0 < rest.countP (fun c => c.hasTag g) :=
          List.countP_pos_iff.mpr ⟨_, hk, by simp [Claim.hasTag]⟩
        omega
      · cases hg
        rw [hc] at hgc; cases hgc
      · cases hg
        rw [hc] at hgc; cases hgc
        exact (State.held_onAcyclic (fun e => { e with inFlight := true }) (fun _ => rfl) (fun _ => rfl)
          hheld).2 rfl true fun _ => rfl

theorem State.ClaimsPlaced.retry_acyclic {s u : State} {l : LaneId} {f : InFlight} {tag : Half} {a : Attempt}
    (o : Outcome) (hs : s.ClaimsPlaced) (hf : (s.lane l).inFlight = some f) (hc : f.claim = .acyclic tag a)
    (hu : u.ClaimsPlaced) (hnone : (u.lane l).inFlight = none)
    (hacyclic : u.acyclic = s.acyclic) : (u.placeRetry l o (.acyclic tag (.retry o))).ClaimsPlaced := by
  have hheld : u.Held l tag true :=
    ((hs l).2.2.2.2 f tag a hf hc).of_place (by rw [State.acyclicEntry_congr hacyclic])
  have hlane : ∀ m, (u.placeRetry l o (.acyclic tag (.retry o))).lane m = if m = l then
      { u.lane l with claims := insertAcyclicRetry (.acyclic tag (.retry o)) (u.lane l).claims } else u.lane m :=
    u.onLane_lane_if l fun x => { x with claims := insertAcyclicRetry (.acyclic tag (.retry o)) x.claims }
  have kept : ∀ m g b, u.Held m g b → g ≠ tag → (u.placeRetry l o (.acyclic tag (.retry o))).Held m g b :=
    fun m g b hh hg => (State.held_onAcyclic (fun e => { e with inFlight := false, attempt := .retry o })
      (fun _ => rfl) (fun _ => rfl) hh).1 hg
  obtain ⟨h1, h2, h3, -, -⟩ := hu l
  have hfree : ∀ b, Claim.acyclic tag b ∉ (u.lane l).claims := fun b hb => by
    cases (hheld.unique (h2 tag b hb)).2
  refine hu.of_lane (l := l) rfl (fun m hm => by rw [hlane, if_neg hm]) (fun m g b hm hh => kept m g b hh ?_) ?_
  · rintro rfl
    exact hm (hheld.unique hh).1.symm
  · unfold State.LanePlaced
    rw [hlane, if_pos rfl]
    refine ⟨fun k hk => ?_, fun g b hk => ?_, fun g => ?_, fun g k hg => ?_, fun g tag' a' hg => ?_⟩
    · obtain hk | hk := mem_insertAcyclicRetry.mp hk
      · cases hk
      · exact h1 k hk
    · obtain hk' | hk' := mem_insertAcyclicRetry.mp hk
      · cases hk'
        exact (State.held_onAcyclic (fun e => { e with inFlight := false, attempt := .retry o })
          (fun _ => rfl) (fun _ => rfl) hheld).2 rfl false fun _ => rfl
      · refine kept _ _ _ (h2 g b hk') ?_
        rintro rfl
        exact hfree b hk'
    · dsimp only
      rw [(insertAcyclicRetry_perm _ _).countP_eq]
      by_cases hg : g = tag
      · subst hg
        rw [List.countP_cons_of_pos (by simp [Claim.hasTag]), countP_hasTag_zero hfree]
      · rw [List.countP_cons_of_neg (by simpa [Claim.hasTag] using Ne.symm hg)]
        exact h3 g
    · exact absurd hg (by simp [hnone])
    · exact absurd hg (by simp [hnone])

theorem State.clearFlight_acyclic {s : State} {l : LaneId} (h : (s.lane l).sleepPending = false) :
    (s.clearFlight l).acyclic = s.acyclic := by
  simp [State.clearFlight, h]

theorem State.ClaimsPlaced.ends {s : State} {l : LaneId} {f : InFlight} (o : Outcome) (d : List Byte)
    (hs : s.ClaimsPlaced) (hf : (s.lane l).inFlight = some f) : (s.endTransaction l f o d).ClaimsPlaced := by
  have hclear := hs.clearFlight l
  have hsh := s.clearFlight_shrinks l
  obtain ⟨-, hnone, -⟩ := s.clearFlight_lane l l
  obtain ⟨k, hk, ho, hsleep, h⟩ | ⟨tag, a, e, hk, -, hsleep, h⟩ | h := s.endTransaction_cases l f o d
  · rw [h, State.placeRetry_cyclic]
    obtain ⟨h1, h2, h3, h4, h5⟩ := hclear l
    refine hclear.of_lane (l := l) rfl (fun m hm => by rw [State.onLane_lane, if_neg hm]) (fun _ _ _ _ hh => hh) ?_
    unfold State.LanePlaced
    rw [State.onLane_lane_same]
    refine ⟨fun k' hk' => ?_, fun g b hb => h2 g b ?_, fun g => ?_, h4, h5⟩
    · obtain hk' | hk' := List.mem_cons.mp hk'
      · cases hk'
        exact ((hs l).2.2.2.1 f k hf hk ho).of_active (by simp [State.table])
      · exact h1 k' hk'
    · obtain hb | hb := List.mem_cons.mp hb
      · cases hb
      · exact hb
    · dsimp only
      rw [List.countP_cons_of_neg (by simp [Claim.hasTag])]
      exact h3 g
  · rw [h]
    exact hs.retry_acyclic o hf hk hclear hnone (State.clearFlight_acyclic hsleep)
  · rw [h]
    exact hs.deliverFinal o d hf hclear hsh hnone

/-! ### Every step -/

theorem State.commitNow_active_other {i j : TimerId} (s : State) (h : j ≠ i) :
    ((s.commitNow i).table j).active = (s.table j).active := by
  unfold State.commitNow
  split <;> simp [State.onTables_table, h]

theorem State.ClaimsPlaced.effect {s t : State} (h : s.Effect t) (hc : s.ClaimsOk) (hs : s.ClaimsPlaced) :
    t.ClaimsPlaced := by
  have stops : ∀ {u : State} {i : TimerId}, s.Shrinks u → u.Unclaimed i → u.tables = s.tables →
      u.acyclic = s.acyclic → (u.stopped i).ClaimsPlaced := fun hsh hun ht ha =>
    hs.of_unclaimed (hsh.trans (.of_lanes rfl)) (hun.shrinks (.of_lanes rfl))
      (fun j hj => by rw [State.stopped_active_other _ hj]; simp only [State.table, ht]) ha
  have opens : ∀ {u : State} {i : TimerId}, s.Shrinks u → u.Unclaimed i → u.tables = s.tables →
      u.acyclic = s.acyclic → (u.frameStart i).ClaimsPlaced := fun hsh hun ht ha =>
    hs.of_unclaimed (hsh.trans (.of_lanes (by simp))) (hun.shrinks (.of_lanes (by simp)))
      (fun j hj => by rw [State.frameStart_active, if_neg (by simp [hj])]; simp only [State.table, ht])
      (by simpa using ha)
  cases h with
  | none => exact hs
  | configures => exact hs.of_same rfl (fun _ => rfl) rfl
  | starts => exact hs.of_same rfl (fun _ => rfl) rfl
  | drains => exact hs.of_same rfl (fun _ => rfl) rfl
  | disarms => exact hs.of_same rfl (fun _ => rfl) rfl
  | stopsWaiting hm =>
    rw [State.stopWaiting_eq_stopped]
    exact stops (.of_lanes rfl) ((hc.unclaimed (by rw [hm]; rfl)).shrinks (.of_lanes rfl)) rfl rfl
  | stopsRunning =>
    rw [State.stopRunning_eq_stopped]
    exact stops (s.withdrawn_shrinks _) (s.withdrawn_unclaimed _) (by simp) (by simp)
  | commits hm =>
    exact hs.of_unclaimed (.of_lanes (by simp)) ((hc.unclaimed hm).shrinks (.of_lanes (by simp)))
      (fun j hj => s.commitNow_active_other hj) (by simp)
  | holds => exact hs.of_same rfl (fun _ => rfl) rfl
  | releases => exact hs.of_same rfl (fun _ => rfl) rfl
  | accepts he hf => exact hs.accepts he hf
  | drops he hf => exact hs.drops _ he hf
  | resolves => exact hs.resolveAll _ _
  | resets =>
    intro l
    rw [State.cleared_lane]
    exact ⟨fun k hk => (by cases hk), fun g a hk => (by cases hk), fun g => Nat.zero_le 1,
      fun f k hf => (by cases hf), fun f g a hf => (by cases hf)⟩
  | opensFirst hm hu =>
    obtain ⟨bs, -, rfl⟩ := State.firstFrame_some hu
    exact opens (.of_lanes rfl) ((hc.unclaimed (by rw [hm]; rfl)).shrinks (.of_lanes rfl)) rfl rfl
  | opensNext hm =>
    exact opens (.of_lanes rfl) ((hc.unclaimed (by rw [hm]; rfl)).shrinks (.of_lanes rfl)) rfl rfl
  | drained =>
    rw [State.drain_eq_stopped]
    exact stops (s.closeFrame_shrinks _) (hc.closeFrame_unclaimed _) (by simp) (by simp)
  | @waits _ i _ hu =>
    obtain ⟨bs, -, rfl⟩ := State.prepareNext_some hu
    exact hs.of_unclaimed ((s.closeFrame_shrinks i).trans (.of_lanes rfl))
      ((hc.closeFrame_unclaimed i).shrinks (.of_lanes rfl)) (fun j _ => by simp [State.table]) (by simp)
  | @goesOn _ i _ hu =>
    obtain ⟨bs, -, rfl⟩ := State.prepareNext_some hu
    exact opens ((s.closeFrame_shrinks i).trans (.of_lanes rfl))
      ((hc.closeFrame_unclaimed i).shrinks (.of_lanes rfl)) (by simp) (by simp)
  | grants hg => exact hs.grants hg
  | @expires l k _ =>
    exact hs.of_shrinks (s.expires_shrinks l k) (fun _ _ _ => by simp [State.table]) fun tag => by
      rw [State.acyclicEntry_congr (State.deliverWaiting_cyclic_acyclic ..)]; rfl
  | ends hf => exact hs.ends _ _ hf
  | ticks => exact hs.of_same rfl (fun _ => rfl) rfl

theorem State.ClaimsPlaced.posts {s t : State} (h : s.Posts t) (hs : s.ClaimsPlaced) : t.ClaimsPlaced := by
  obtain rfl | ⟨i, -, -, -, rfl⟩ := h
  · exact hs
  · refine State.postAll_keeps hs (fun u position e _ htab he hu => hu.post ?_) fun u _ hu =>
      hu.of_same rfl (fun _ => rfl) rfl
    simp only [State.entry, State.table, htab]
    exact he

/-- Settles O57: claims that belong to the frame in progress keep the entries they were posted for, as a table becomes
active only while its timer has no claims. -/
theorem claimsPlacedKept : Obligations.ClaimsPlacedKept := fun _ _ hc hs h =>
  (step_keeps (P := fun s => s.ClaimsOk ∧ s.ClaimsPlaced) (fun hq hp => ⟨hp.1.calm hq, hp.2.calm hq⟩)
    (fun he hp => ⟨hp.1.effect he, hp.2.effect he hp.1⟩) (fun hq hp => ⟨hp.1.posts hq, hp.2.posts hq⟩) ⟨hc, hs⟩ h).2

end Sys2Proof.Machine
end

section
/-! SUPPORT. The states and the identities of the result buffers (R99, R100, R107), and the frame that opens. -/

set_option Elab.async false

namespace Sys2Proof.Machine

/-! ### Three buffers -/

theorem Three.set_set {α : Type} (x : Three α) (b : BufId) (v w : α) : (x.set b v).set b w = x.set b w := by
  cases b <;> rfl

theorem Three.set_get {α : Type} (x : Three α) (b : BufId) : x.set b (x.get b) = x := by
  cases b <;> rfl

theorem Three.get_set_other {α : Type} {b c : BufId} (x : Three α) (v : α) (h : c ≠ b) :
    (x.set b v).get c = x.get c := by rw [Three.get_set, if_neg h]

/-- Which buffer is found rests on the states of the buffers alone. -/
theorem Three.find_congr {bs cs : Three Buffer} {m : BufMode} (h : ∀ b, (cs.get b).mode = m ↔ (bs.get b).mode = m) :
    cs.find m = bs.find m := by
  have h0 : cs.b0.mode = m ↔ bs.b0.mode = m := h .b0
  have h1 : cs.b1.mode = m ↔ bs.b1.mode = m := h .b1
  have h2 : cs.b2.mode = m ↔ bs.b2.mode = m := h .b2
  simp only [Three.find, h0, h1, h2]

theorem Three.find_set_other {bs : Three Buffer} {m : BufMode} {b : BufId} {v : Buffer}
    (h : v.mode = m ↔ (bs.get b).mode = m) : (bs.set b v).find m = bs.find m := by
  refine Three.find_congr fun c => ?_
  rw [Three.get_set]
  split
  · next hc => rw [hc]; exact h
  · rfl

/-- The only buffer in a state is the one that is found. -/
theorem Three.AtMostOne.find_eq {bs : Three Buffer} {m : BufMode} {b : BufId} (h : bs.AtMostOne m)
    (hb : (bs.get b).mode = m) : bs.find m = some b := by
  cases hf : bs.find m with
  | none => exact absurd hb (Three.find_none.mp hf b)
  | some c => rw [h c b (Three.find_some hf) hb]

theorem Three.AtMostOne.set_other {bs : Three Buffer} {m : BufMode} (h : bs.AtMostOne m) {b : BufId} {v : Buffer}
    (hv : v.mode ≠ m) : (bs.set b v).AtMostOne m := by
  have old : ∀ c, ((bs.set b v).get c).mode = m → (bs.get c).mode = m := fun c hc => by
    rw [Three.get_set] at hc
    split at hc
    · exact absurd hc hv
    · exact hc
  exact fun i j hi hj => h i j (old i hi) (old j hj)

/-- A buffer becomes the only one in a state. -/
theorem Three.AtMostOne.set_only {bs : Three Buffer} {m : BufMode} {b : BufId} (v : Buffer)
    (h : ∀ c, c ≠ b → (bs.get c).mode ≠ m) : (bs.set b v).AtMostOne m := by
  have only : ∀ c, ((bs.set b v).get c).mode = m → c = b := fun c hc => by
    by_contra hne
    rw [Three.get_set_other _ _ hne] at hc
    exact h c hne hc
  exact fun i j hi hj => (only i hi).trans (only j hj).symm

theorem Three.find_set_only {bs : Three Buffer} {m : BufMode} {b : BufId} {v : Buffer} (hv : v.mode = m)
    (h : ∀ c, c ≠ b → (bs.get c).mode ≠ m) : (bs.set b v).find m = some b :=
  (Three.AtMostOne.set_only v h).find_eq (by rw [Three.get_set_same]; exact hv)

/-- Three buffers are in four states: with at most one READY, one HELD and one FILLING where one of these is missing,
a FREE one is there. -/
theorem Three.exists_free {bs : Three Buffer} {m n : BufMode} (hm : bs.AtMostOne m) (hn : bs.AtMostOne n)
    (h : ∀ b, (bs.get b).mode = .free ∨ (bs.get b).mode = m ∨ (bs.get b).mode = n) :
    ∃ b, bs.find .free = some b := by
  by_contra hno
  have hfree : ∀ b, (bs.get b).mode ≠ .free := by
    refine Three.find_none.mp ?_
    cases hf : bs.find .free with
    | none => rfl
    | some b => exact absurd ⟨b, hf⟩ hno
  have two : ∀ b, (bs.get b).mode = m ∨ (bs.get b).mode = n := fun b => (h b).resolve_left (hfree b)
  have hmm := fun {i j : BufId} => hm i j
  have hnn := fun {i j : BufId} => hn i j
  obtain h0 | h0 := two .b0 <;> obtain h1 | h1 := two .b1 <;> obtain h2 | h2 := two .b2
  · cases hmm h0 h1
  · cases hmm h0 h1
  · cases hmm h0 h2
  · cases hnn h1 h2
  · cases hmm h1 h2
  · cases hnn h0 h2
  · cases hnn h0 h1
  · cases hnn h0 h1

/-! ### The buffers of one timer -/

/-- The states of a timer's buffers go with the timer's state (R99). -/
def Three.Serves (bs : Three Buffer) (m : TimerMode) : Prop :=
  bs.AtMostOne .filling ∧ bs.AtMostOne .ready ∧ bs.AtMostOne .held ∧ (bs.find .filling).isSome = m.hasFilling

/-- The FILLING buffer is that of the timer's frame (R100, R107). -/
def Three.Names (bs : Three Buffer) (x : Timer) : Prop :=
  (∀ b, bs.find .filling = some b →
    (bs.get b).run = x.run ∧ (bs.get b).frame = if x.mode = .waiting then x.frame + 1 else x.frame) ∧
  (x.mode = .armed → x.frame = 0)

/-- A change keeps the buffers of one timer with its state and its frame. -/
def State.KeepsBuffers (s t : State) (i : TimerId) : Prop :=
  (s.buffers i).Serves (s.timer i).mode →
    (t.buffers i).Serves (t.timer i).mode ∧ ((s.buffers i).Names (s.timer i) → (t.buffers i).Names (t.timer i))

/-- State and identity of a buffer. -/
def Buffer.head (b : Buffer) : BufMode × Half × Time := (b.mode, b.run, b.frame)

theorem Buffer.head_eq {b c : Buffer} (h : c.head = b.head) :
    c.mode = b.mode ∧ c.run = b.run ∧ c.frame = b.frame := by
  simpa [Buffer.head] using h

theorem Three.Serves.congr {bs cs : Three Buffer} {m n : TimerMode} (hs : bs.Serves m)
    (h : ∀ b, (cs.get b).mode = (bs.get b).mode) (hn : n.hasFilling = m.hasFilling) : cs.Serves n := by
  obtain ⟨h1, h2, h3, h4⟩ := hs
  have one : ∀ {n : BufMode}, bs.AtMostOne n → cs.AtMostOne n := fun hn i j hi hj =>
    hn i j ((h i).symm.trans hi) ((h j).symm.trans hj)
  have hfind : cs.find .filling = bs.find .filling := Three.find_congr fun b => by rw [h b]
  exact ⟨one h1, one h2, one h3, by rw [hfind, hn]; exact h4⟩

theorem Three.Names.congr {bs cs : Three Buffer} {x y : Timer} (h : ∀ b, (cs.get b).head = (bs.get b).head)
    (hwait : y.mode = .waiting ↔ x.mode = .waiting) (harmed : y.mode = .armed → x.mode = .armed)
    (hrun : y.run = x.run) (hframe : y.frame = x.frame) (hs : bs.Names x) : cs.Names y := by
  have hfind : cs.find .filling = bs.find .filling :=
    Three.find_congr fun b => by rw [(Buffer.head_eq (h b)).1]
  refine ⟨fun b hb => ?_, fun ha => ?_⟩
  · rw [hfind] at hb
    obtain ⟨-, h2, h3⟩ := Buffer.head_eq (h b)
    rw [h2, h3, hrun, hframe, if_congr hwait rfl rfl]
    exact hs.1 b hb
  · rw [hframe]; exact hs.2 (harmed ha)

/-- Heads of the buffers and the frame of the timer stay, with the timer in a state that asks the same of them. -/
theorem State.KeepsBuffers.of_heads {s t : State} {i : TimerId}
    (h : ∀ b, ((t.buffers i).get b).head = ((s.buffers i).get b).head)
    (hrun : (t.timer i).run = (s.timer i).run) (hframe : (t.timer i).frame = (s.timer i).frame)
    (hfill : (t.timer i).mode.hasFilling = (s.timer i).mode.hasFilling)
    (hwait : (t.timer i).mode = .waiting ↔ (s.timer i).mode = .waiting)
    (harmed : (t.timer i).mode = .armed → (s.timer i).mode = .armed) : s.KeepsBuffers t i := fun hs =>
  ⟨hs.congr (fun b => (Buffer.head_eq (h b)).1) hfill, Three.Names.congr h hwait harmed hrun hframe⟩

/-- A timer with no FILLING buffer before and after may take any state without one. -/
theorem State.KeepsBuffers.of_none {s t : State} {i : TimerId} (hb : t.buffers i = s.buffers i)
    (hs : (s.timer i).mode.hasFilling = false) (ht : (t.timer i).mode.hasFilling = false)
    (hf : (t.timer i).mode = .armed → (t.timer i).frame = 0) : s.KeepsBuffers t i := by
  rintro ⟨h1, h2, h3, h4⟩
  rw [hs] at h4
  unfold Three.Serves Three.Names
  rw [hb, ht]
  exact ⟨⟨h1, h2, h3, h4⟩, fun _ => ⟨fun b hb => (by rw [hb] at h4; cases h4), hf⟩⟩

/-- Without a FILLING buffer nothing is asked of identities but frame number 0 in ARMED. -/
theorem Three.Serves.names {bs : Three Buffer} {x : Timer} (hs : bs.Serves x.mode) (hm : x.mode.hasFilling = false)
    (hf : x.mode = .armed → x.frame = 0) : bs.Names x :=
  ⟨fun b hb => (by have h4 := hs.2.2.2; rw [hb, hm] at h4; cases h4), hf⟩

/-! ### What the operations on the buffers do -/

theorem Three.freeFilling_get (bs : Three Buffer) (b : BufId) :
    (bs.freeFilling.get b).mode = (if bs.find .filling = some b then .free else (bs.get b).mode) ∧
      (bs.freeFilling.get b).status = (bs.get b).status := by
  unfold Three.freeFilling Three.onFilling
  split
  · next c hc =>
    by_cases hb : b = c
    · subst hb; simp [hc]
    · rw [Three.get_set_other _ _ hb]; simp [hc, Ne.symm hb]
  · next hc => simp [hc]

/-- A stop leaves no FILLING buffer (R110). -/
theorem Three.Serves.freeFilling {bs : Three Buffer} {m n : TimerMode} (hs : bs.Serves m)
    (hn : n.hasFilling = false) : bs.freeFilling.Serves n := by
  obtain ⟨h1, h2, h3, -⟩ := hs
  have old : ∀ {p : BufMode} {b : BufId}, p ≠ .free → (bs.freeFilling.get b).mode = p → (bs.get b).mode = p := by
    intro p b hp hb
    rw [(bs.freeFilling_get b).1] at hb
    split at hb
    · exact absurd hb.symm hp
    · exact hb
  have one : ∀ {p : BufMode}, p ≠ .free → bs.AtMostOne p → bs.freeFilling.AtMostOne p := fun hp h i j hi hj =>
    h i j (old hp hi) (old hp hj)
  refine ⟨one (by decide) h1, one (by decide) h2, one (by decide) h3, ?_⟩
  rw [hn, Option.isSome_eq_false_iff, Option.isNone_iff_eq_none, Three.find_none]
  intro b hb
  have hfill := h1.find_eq (old (by decide) hb)
  rw [(bs.freeFilling_get b).1, if_pos hfill] at hb
  cases hb

/-- Everything HOLD can do to the buffers: the READY one becomes HELD, a HELD one FREE, and no other one changes. -/
theorem Three.hold_cases (bs : Three Buffer) :
    (∃ r h, bs.find .ready = some r ∧ bs.find .held = some h ∧
      bs.hold.1 = (bs.set h { bs.get h with mode := .free }).set r { bs.get r with mode := .held }) ∨
    (∃ r, bs.find .ready = some r ∧ bs.find .held = none ∧
      bs.hold.1 = bs.set r { bs.get r with mode := .held }) ∨
    bs.hold.1 = bs := by
  unfold Three.hold
  split
  · next r h hr hh => exact .inl ⟨r, h, hr, hh, rfl⟩
  · next r hr hh => exact .inr (.inl ⟨r, hr, hh, rfl⟩)
  · exact .inr (.inr rfl)
  · exact .inr (.inr rfl)

/-- HOLD and RELEASE leave the FILLING buffer alone. -/
theorem Three.set_keeps_filling {bs : Three Buffer} {b : BufId} {n : BufMode} (hb : (bs.get b).mode ≠ .filling)
    (hn : n ≠ .filling) : (bs.set b { bs.get b with mode := n }).find .filling = bs.find .filling :=
  Three.find_set_other ⟨fun h => absurd h hn, fun h => absurd h hb⟩

theorem Three.hold_filling (bs : Three Buffer) : bs.hold.1.find .filling = bs.find .filling ∧
    ∀ b, (bs.hold.1.get b).run = (bs.get b).run ∧ (bs.hold.1.get b).frame = (bs.get b).frame ∧
      (bs.hold.1.get b).status = (bs.get b).status := by
  obtain ⟨r, h, hr, hh, he⟩ | ⟨r, hr, -, he⟩ | he := bs.hold_cases
  · have hne : r ≠ h := by rintro rfl; simpa [Three.find_some hr] using Three.find_some hh
    have hrget : (bs.set h { bs.get h with mode := .free }).get r = bs.get r := Three.get_set_other _ _ hne
    rw [he]
    refine ⟨?_, fun b => ?_⟩
    · rw [← hrget, Three.set_keeps_filling (by rw [hrget, Three.find_some hr]; decide) (by decide),
        Three.set_keeps_filling (by rw [Three.find_some hh]; decide) (by decide)]
    · simp only [Three.get_set]
      split
      · next hb => subst hb; exact ⟨rfl, rfl, rfl⟩
      · split
        · next hb => subst hb; exact ⟨rfl, rfl, rfl⟩
        · exact ⟨rfl, rfl, rfl⟩
  · rw [he]
    refine ⟨Three.set_keeps_filling (by rw [Three.find_some hr]; decide) (by decide), fun b => ?_⟩
    rw [Three.get_set]
    split
    · next hb => subst hb; exact ⟨rfl, rfl, rfl⟩
    · exact ⟨rfl, rfl, rfl⟩
  · rw [he]; exact ⟨rfl, fun _ => ⟨rfl, rfl, rfl⟩⟩

theorem Three.Serves.hold {bs : Three Buffer} {m : TimerMode} (hs : bs.Serves m) : bs.hold.1.Serves m := by
  have hfill := bs.hold_filling.1
  obtain ⟨h1, h2, h3, h4⟩ := hs
  unfold Three.Serves
  rw [hfill]
  obtain ⟨r, h, hr, hh, he⟩ | ⟨r, hr, hh, he⟩ | he := bs.hold_cases
  · rw [he]
    refine ⟨(h1.set_other (by simp)).set_other (by simp), (h2.set_other (by simp)).set_other (by simp),
      Three.AtMostOne.set_only _ fun c hc hcm => ?_, h4⟩
    rw [Three.get_set] at hcm
    split at hcm
    · cases hcm
    · next hne => exact hne (h3 c h hcm (Three.find_some hh))
  · rw [he]
    exact ⟨h1.set_other (by simp), h2.set_other (by simp),
      Three.AtMostOne.set_only _ fun c _ => Three.find_none.mp hh c, h4⟩
  · rw [he]; exact ⟨h1, h2, h3, h4⟩

/-- RELEASE frees the HELD buffer, if there is one, and changes no other (R116). -/
theorem Three.release_filling (bs : Three Buffer) : bs.release.1.find .filling = bs.find .filling ∧
    ∀ b, (bs.release.1.get b).run = (bs.get b).run ∧ (bs.release.1.get b).frame = (bs.get b).frame ∧
      (bs.release.1.get b).status = (bs.get b).status := by
  unfold Three.release
  split
  · next h hh =>
    refine ⟨Three.set_keeps_filling (by rw [Three.find_some hh]; decide) (by decide), fun b => ?_⟩
    rw [Three.get_set]
    split
    · next hb => subst hb; exact ⟨rfl, rfl, rfl⟩
    · exact ⟨rfl, rfl, rfl⟩
  · exact ⟨rfl, fun _ => ⟨rfl, rfl, rfl⟩⟩

theorem Three.Serves.release {bs : Three Buffer} {m : TimerMode} (hs : bs.Serves m) : bs.release.1.Serves m := by
  have hfill := bs.release_filling.1
  obtain ⟨h1, h2, h3, h4⟩ := hs
  unfold Three.Serves
  rw [hfill]
  unfold Three.release
  split
  · exact ⟨h1.set_other (by simp), h2.set_other (by simp), h3.set_other (by simp), h4⟩
  · exact ⟨h1, h2, h3, h4⟩

/-- HOLD and RELEASE keep the FILLING buffer's identity. -/
theorem Three.Names.of_filling {bs cs : Three Buffer} {x : Timer} (hs : bs.Names x)
    (h : cs.find .filling = bs.find .filling ∧
      ∀ b, (cs.get b).run = (bs.get b).run ∧ (cs.get b).frame = (bs.get b).frame ∧
        (cs.get b).status = (bs.get b).status) : cs.Names x := by
  refine ⟨fun b hb => ?_, hs.2⟩
  obtain ⟨hr, hf, -⟩ := h.2 b
  rw [h.1] at hb
  rw [hr, hf]
  exact hs.1 b hb

/-- The first FILLING buffer of a run is there to be taken while none is (R18, R102). -/
theorem Three.Serves.prepareFirst {bs : Three Buffer} {m : TimerMode} (hs : bs.Serves m)
    (hm : m.hasFilling = false) (run : Half) :
    ∃ b, bs.find .free = some b ∧
      bs.prepareFirst run = some (bs.set b { Buffer.reset with mode := .filling, run := run, frame := 0 }) := by
  obtain ⟨-, h2, h3, h4⟩ := hs
  rw [hm] at h4
  have hno : ∀ b, (bs.get b).mode ≠ .filling := Three.find_none.mp (by simpa using h4)
  obtain ⟨b, hb⟩ := Three.exists_free h2 h3 fun b => by
    have := hno b
    revert this
    cases (bs.get b).mode <;> simp
  exact ⟨b, hb, by simp [Three.prepareFirst, hb]⟩

/-- A FREE buffer becomes the FILLING one of a timer that has none. -/
theorem Three.Serves.set_filling {bs : Three Buffer} {m n : TimerMode} {b : BufId} {v : Buffer} (hs : bs.Serves m)
    (hm : m.hasFilling = false) (hn : n.hasFilling = true) (hv : v.mode = .filling) :
    (bs.set b v).Serves n ∧ (bs.set b v).find .filling = some b := by
  obtain ⟨-, h2, h3, h4⟩ := hs
  rw [hm] at h4
  have hno : ∀ c, c ≠ b → (bs.get c).mode ≠ .filling := fun c _ => Three.find_none.mp (by simpa using h4) c
  have hfind := Three.find_set_only hv hno
  exact ⟨⟨.set_only _ hno, h2.set_other (by rw [hv]; decide), h3.set_other (by rw [hv]; decide),
    by rw [hfind, hn]; rfl⟩, hfind⟩

/-- Step 3 of a frame close on buffers of which `f` is FILLING: it becomes READY, dropped when a READY one stood
before, which becomes FREE (R106). -/
theorem Three.Serves.close_eq {bs : Three Buffer} {m : TimerMode} (hs : bs.Serves m) {f : BufId}
    (hf : bs.find .filling = some f) :
    bs.close.get f = { bs.get f with mode := .ready, dropped := (bs.find .ready).isSome } ∧
      ∀ b, b ≠ f → bs.close.get b =
        if (bs.get b).mode = .ready then { bs.get b with mode := .free } else bs.get b := by
  obtain ⟨-, h2, -, -⟩ := hs
  unfold Three.close
  rw [hf]
  dsimp only
  split
  · next r hr =>
    have hne : f ≠ r := by rintro rfl; simpa [Three.find_some hf] using Three.find_some hr
    rw [Three.get_set_same, hr]
    refine ⟨rfl, fun b hb => ?_⟩
    rw [Three.get_set_other _ _ hb, Three.get_set]
    split
    · next hbr => subst hbr; rw [if_pos (Three.find_some hr)]
    · next hbr => rw [if_neg fun h => hbr (h2 b r h (Three.find_some hr))]
  · next hr =>
    rw [Three.get_set_same, hr]
    refine ⟨rfl, fun b hb => ?_⟩
    rw [Three.get_set_other _ _ hb, if_neg (Three.find_none.mp hr b)]

/-- After step 3 no buffer is FILLING, and the closed one is the READY one. -/
theorem Three.Serves.close {bs : Three Buffer} {m n : TimerMode} (hs : bs.Serves m) {f : BufId}
    (hf : bs.find .filling = some f) (hn : n.hasFilling = false) :
    bs.close.Serves n ∧ bs.close.find .ready = some f := by
  obtain ⟨hcf, hother⟩ := hs.close_eq hf
  obtain ⟨h1, -, h3, -⟩ := hs
  have hfm := Three.find_some hf
  have ready : ∀ b, (bs.close.get b).mode = .ready → b = f := fun b hb => by
    by_contra hne
    rw [hother b hne] at hb
    split at hb
    · cases hb
    · next hr => exact hr hb
  have filling : ∀ b, (bs.close.get b).mode ≠ .filling := fun b hb => by
    by_cases hbf : b = f
    · subst hbf; rw [hcf] at hb; cases hb
    · rw [hother b hbf] at hb
      split at hb
      · cases hb
      · exact hbf (h1 b f hb hfm)
  have held : ∀ b, (bs.close.get b).mode = .held → (bs.get b).mode = .held := fun b hb => by
    by_cases hbf : b = f
    · subst hbf; rw [hcf] at hb; cases hb
    · rw [hother b hbf] at hb
      split at hb
      · cases hb
      · exact hb
  have oneReady : bs.close.AtMostOne .ready := fun i j hi hj => (ready i hi).trans (ready j hj).symm
  exact ⟨⟨fun i _ hi => absurd hi (filling i), oneReady, fun i j hi hj => h3 i j (held i hi) (held j hj),
    by rw [Three.find_none.mpr filling, hn]; rfl⟩, oneReady.find_eq (by rw [hcf])⟩

/-- Step 5 of a frame close finds a FREE buffer: only the closed one is READY, none is FILLING, at most one HELD. -/
theorem Three.Serves.prepare {bs : Three Buffer} {m : TimerMode} (hs : bs.Serves m) (hm : m.hasFilling = false)
    {f : BufId} (hf : bs.find .ready = some f) (run : Half) (frame : Time) :
    ∃ g, bs.find .free = some g ∧ bs.prepare run frame = some (bs.set g ((bs.get f).next run frame)) := by
  obtain ⟨g, hg, -⟩ := hs.prepareFirst hm run
  exact ⟨g, hg, by simp [Three.prepare, hg, hf]⟩

/-! ### The frame that opens -/

theorem Status.recommit_start (st : Status) (frame : Time) (e : Option ScanEntry) :
    (st.recommit e).start frame e = st.opened frame true e := by
  cases e with
  | none => rfl
  | some e => simp only [Status.recommit, Status.start, Status.opened]; split <;> rfl

theorem Status.start_eq_opened (st : Status) (frame : Time) (e : Option ScanEntry) :
    st.start frame e = st.opened frame false e := by
  cases e with
  | none => rfl
  | some e => simp only [Status.start, Status.opened]; split <;> rfl

theorem zipWith_recommit_start (frame : Time) (status : List Status) (table : Table) :
    List.zipWith (fun st e => Status.start st frame e) (List.zipWith Status.recommit status table) table =
      List.zipWith (fun st e => Status.opened st frame true e) status table := by
  induction status generalizing table with
  | nil => rfl
  | cons st status ih =>
    cases table with
    | nil => rfl
    | cons e table => simp [ih, Status.recommit_start]

theorem Three.onFilling_eq {bs : Three Buffer} {b : BufId} (hb : bs.find .filling = some b) (f : Buffer → Buffer) :
    bs.onFilling f = bs.set b (f (bs.get b)) := by
  unfold Three.onFilling; rw [hb]

/-- Two changes of the FILLING buffer, the first of which leaves it FILLING, are one. -/
theorem Three.onFilling_onFilling {bs : Three Buffer} {b : BufId} (hb : bs.find .filling = some b)
    {f : Buffer → Buffer} (hf : (f (bs.get b)).mode = (bs.get b).mode) (g : Buffer → Buffer) :
    (bs.onFilling f).onFilling g = bs.set b (g (f (bs.get b))) := by
  have hb' : (bs.set b (f (bs.get b))).find .filling = some b := by
    rw [Three.find_set_other (by rw [hf]), hb]
  rw [Three.onFilling_eq hb, Three.onFilling_eq hb', Three.get_set_same, Three.set_set]

theorem Buffer.start_eq_opened (b : Buffer) (frame : Time) (active : Table) :
    b.start frame active = { b with status := b.status.zipWith (fun st e => st.opened frame false e) active } := by
  simp only [Buffer.start, Status.start_eq_opened]

theorem Buffer.recommit_start_eq_opened (b : Buffer) (frame : Time) (active : Table) :
    (b.recommit active).start frame active =
      { b with status := b.status.zipWith (fun st e => st.opened frame true e) active } := by
  simp only [Buffer.start, Buffer.recommit, zipWith_recommit_start]

/-- A frame start with its FILLING buffer there is the opening of a frame (R17, R108). -/
theorem State.frameStart_eq_opened {s : State} {i : TimerId} {b : BufId}
    (hb : (s.buffers i).find .filling = some b) :
    s.frameStart i = s.opened i b ((s.buffers i).get b) (s.timer i).frame := by
  have hone := Three.onFilling_eq hb fun x => x.start (s.timer i).frame (s.table i).active
  have htwo := Three.onFilling_onFilling hb (f := fun x => x.recommit (s.table i).staged) rfl
    fun x => x.start (s.timer i).frame (s.table i).staged
  rw [Buffer.start_eq_opened] at hone
  rw [Buffer.recommit_start_eq_opened] at htwo
  cases hc : (s.timer i).pendingCommit <;> cases hp : (s.timer i).pendingPublish
  all_goals
    simp only [State.buffers, State.timer, State.table] at hone htwo hc hp
    simp [State.frameStart, State.startCommit, State.applyPublish, State.markPositions, State.opened, State.onTimer,
      State.onTables, State.onOutputs, State.onBuffers, State.notify, State.timer, State.table, State.output,
      State.buffers, Timer.beginFrame, Tables.apply, hc, hp, hone, htwo]
    rfl

/-- The opening of a frame rewrites the buffer it opens on, whatever was prepared there. -/
theorem State.opened_prepared (s : State) (i : TimerId) (b : BufId) (v fill : Buffer) (frame : Time) :
    (s.onBuffers i fun _ => (s.buffers i).set b v).opened i b fill frame = s.opened i b fill frame := by
  simp [State.opened, State.onBuffers, State.timer, State.table, State.output, State.buffers, Three.set_set]
  trivial

/-- The first frame of a run opens on the lowest FREE buffer (R18, R102). -/
theorem State.firstFrame_eq_opened {s : State} {i : TimerId} {b : BufId}
    (hno : (s.buffers i).find .filling = none) (hb : (s.buffers i).find .free = some b) :
    s.firstFrame i = some (s.opened i b
      { mode := .filling, run := (s.timer i).run, frame := 0, dropped := false, image := []
        status := List.replicate 64 { outcome := .notRun, attempts := 0, age := 255 } } (s.timer i).frame) := by
  unfold State.firstFrame
  rw [Three.prepareFirst, hb]
  dsimp only [Option.map_some]
  have hfind := Three.find_set_only (bs := s.buffers i) (b := b)
    (v := { Buffer.reset with mode := .filling, run := (s.timer i).run, frame := 0 }) rfl
    fun c _ => Three.find_none.mp hno c
  rw [State.frameStart_eq_opened (b := b) (by rw [State.onBuffers_buffers_same]; exact hfind),
    State.onBuffers_buffers_same, Three.get_set_same, State.opened_prepared]
  rfl

end Sys2Proof.Machine
end

section
/-!
SUPPORT. What every happening does to the states and the identities of the result buffers (R99, R100, R107), and the
statements about frames that open and close with their buffer found.
-/

set_option Elab.async false

namespace Sys2Proof.Machine

/-! ### States and identities of the buffers -/

/-- States and identities of the result buffers. -/
def State.heads (s : State) (i : TimerId) (b : BufId) : BufMode × Half × Time := ((s.buffers i).get b).head

theorem State.heads_congr {s t : State} (h : t.results = s.results) : t.heads = s.heads := by
  unfold State.heads State.buffers; rw [h]

theorem State.heads_onBuffer {s : State} {i : TimerId} {b : BufId} {f : Buffer → Buffer}
    (h : (f ((s.buffers i).get b)).head = ((s.buffers i).get b).head) : (s.onBuffer i b f).heads = s.heads := by
  funext j c
  unfold State.heads State.onBuffer
  rw [State.onBuffers_buffers]
  split
  · next hj =>
    subst hj
    rw [Three.get_set]
    split
    · next hc => subst hc; exact h
    · rfl
  · rfl

/-- A delivery writes status and image alone. -/
theorem Buffer.deliver_head (b : Buffer) (e : Option ScanEntry) (position : Nat) (o : Outcome) (n : Nat)
    (d : List Byte) : (b.deliver e position o n d).head = b.head := by
  unfold Buffer.deliver
  dsimp only
  split
  · split <;> rfl
  · rfl

@[simp] theorem State.deliverResult_heads (s : State) (c : CyclicClaim) (o : Outcome) (n : Nat) (d : List Byte) :
    (s.deliverResult c o n d).heads = s.heads := by
  unfold State.deliverResult
  split
  · exact State.heads_onBuffer (Buffer.deliver_head ..)
  · rfl

@[simp] theorem State.recordOverrun_heads (s : State) (c : CyclicClaim) : (s.recordOverrun c).heads = s.heads := by
  unfold State.recordOverrun
  split
  · exact State.heads_onBuffer rfl
  · rfl

@[simp] theorem State.rosterOutcome_heads (s : State) (l : LaneId) (node : Nat) (o : Outcome) :
    (s.rosterOutcome l node o).heads = s.heads := State.heads_congr (by simp)

@[simp] theorem State.onLane_heads (s : State) (l : LaneId) (f : Lane → Lane) : (s.onLane l f).heads = s.heads := rfl

@[simp] theorem State.completeAcyclic_heads (s : State) (tag : Half) (o : Outcome) (n : Nat) (d : List Byte) :
    (s.completeAcyclic tag o n d).heads = s.heads := State.heads_congr (by simp)

@[simp] theorem State.deliverWaiting_heads (s : State) (l : LaneId) (o : Outcome) (c : Claim) :
    (s.deliverWaiting l o c).heads = s.heads := by
  unfold State.deliverWaiting
  split
  · dsimp only; split <;> simp
  · split <;> simp

@[simp] theorem State.deliverAll_heads (s : State) (l : LaneId) (o : Outcome) (cs : List Claim) :
    (s.deliverAll l o cs).heads = s.heads := foldl_same (g := State.heads) (by simp) _ _

@[simp] theorem State.deliverFinal_heads (s : State) (l : LaneId) (f : InFlight) (o : Outcome) (d : List Byte) :
    (s.deliverFinal l f o d).heads = s.heads := by
  unfold State.deliverFinal
  split <;> simp

@[simp] theorem State.withdrawLate_heads (s : State) (i : TimerId) (r : Half) (n : Time) (l : LaneId) :
    (s.withdrawLate i r n l).heads = s.heads := by
  simp [State.withdrawLate]

@[simp] theorem State.overrun_heads (s : State) (i : TimerId) (r : Half) (n : Time) (l : LaneId) :
    (s.overrun i r n l).heads = s.heads := by
  unfold State.overrun
  split
  · split
    · split <;> simp
    · rfl
  · rfl

@[simp] theorem State.endFrame_heads (s : State) (i : TimerId) : (s.endFrame i).heads = s.heads := by
  simp [State.endFrame, allLanes]

@[simp] theorem State.resolveAll_heads (s : State) (l : LaneId) (o : Outcome) :
    (s.resolveAll l o).heads = s.heads := by
  simp [State.resolveAll]

@[simp] theorem State.clearFlight_heads (s : State) (l : LaneId) : (s.clearFlight l).heads = s.heads := by
  unfold State.clearFlight
  dsimp only
  split <;> simp [State.enterSleeping]

@[simp] theorem State.endTransaction_heads (s : State) (l : LaneId) (f : InFlight) (o : Outcome) (d : List Byte) :
    (s.endTransaction l f o d).heads = s.heads := by
  obtain ⟨k, -, -, -, h⟩ | ⟨tag, a, e, -, -, -, h⟩ | h := s.endTransaction_cases l f o d
  · rw [h, ← s.clearFlight_heads l]; exact State.heads_congr (by simp)
  · rw [h, ← s.clearFlight_heads l]; exact State.heads_congr (by simp)
  · rw [h]; simp

@[simp] theorem State.post_heads (s : State) (e : ScanEntry) (c : CyclicClaim) : (s.post e c).heads = s.heads := by
  obtain ⟨-, h⟩ | ⟨-, o, -, h⟩ | h := s.post_cases e c
  · exact State.heads_congr h
  · rw [State.heads_congr h, State.deliverResult_heads]
  · rw [h]

@[simp] theorem State.postAll_heads (s : State) (i : TimerId) : (s.postAll i).heads = s.heads :=
  foldl_same (g := State.heads) (f := fun (u : State) (p : Nat × ScanEntry) => u.post p.2 (u.claimFor i p.1 p.2))
    (fun u _ => u.post_heads _ _) _ s

@[simp] theorem State.commitNow_heads (s : State) (i : TimerId) : (s.commitNow i).heads = s.heads := by
  unfold State.commitNow
  split
  · unfold Three.onFilling
    funext j b
    unfold State.heads
    rw [State.onBuffers_buffers]
    split
    · next hj =>
      subst hj
      split
      · next f hf =>
        rw [Three.get_set]
        split
        · next hb => subst hb; rfl
        · rfl
      · rfl
    · rfl
  · rfl

/-- The active table under which a frame opens (R17 step 2). -/
def State.opensTable (s : State) (i : TimerId) : Table :=
  if (s.timer i).pendingCommit then (s.table i).staged else (s.table i).active

theorem State.opened_buffers_same (s : State) (i : TimerId) (b : BufId) (fill : Buffer) (frame : Time) :
    (s.opened i b fill frame).buffers i = (s.buffers i).set b
      { fill with
        status := fill.status.zipWith (fun st e => st.opened frame (s.timer i).pendingCommit e) (s.opensTable i) } := by
  simp [State.opened, State.buffers, State.opensTable]

theorem State.opened_buffers_other {s : State} {i j : TimerId} (h : j ≠ i) (b : BufId) (fill : Buffer) (frame : Time) :
    (s.opened i b fill frame).buffers j = s.buffers j := by
  simp [State.opened, State.buffers, Two.get_set, h]

theorem State.opened_timer_same (s : State) (i : TimerId) (b : BufId) (fill : Buffer) (frame : Time) :
    ((s.opened i b fill frame).timer i).mode = .running ∧
      ((s.opened i b fill frame).timer i).run = (s.timer i).run ∧
      ((s.opened i b fill frame).timer i).frame = frame := by
  simp [State.opened, State.timer]

theorem State.opened_timer_other {s : State} {i j : TimerId} (h : j ≠ i) (b : BufId) (fill : Buffer) (frame : Time) :
    (s.opened i b fill frame).timer j = s.timer j := by
  simp [State.opened, State.timer, Two.get_set, h]

/-- A next frame opens on the buffer prepared for it. -/
theorem State.nextFrame_eq_opened {s : State} {i : TimerId} {b : BufId}
    (hb : (s.buffers i).find .filling = some b) :
    s.nextFrame i = s.opened i b ((s.buffers i).get b) ((s.timer i).frame + 1) := by
  refine (State.frameStart_eq_opened (s := s.onTimer i fun x => { x with frame := x.frame + 1 }) hb).trans ?_
  simp [State.opened, State.buffers, State.timer, State.table, State.output, State.onTimer]
  trivial

theorem State.BuffersOk.serves {s : State} (hs : s.BuffersOk) (i : TimerId) : (s.buffers i).Serves (s.timer i).mode :=
  hs i

/-! ### The close -/

/-- The frame's buffer is there when the frame closes, and step 3 leaves it the READY one (R106). -/
theorem State.closeFrame_buffers (s : State) (i j : TimerId) :
    (s.closeFrame i).buffers j =
      if j = i then ((s.endFrame i).buffers i).close else (s.endFrame i).buffers j := by
  have h : (s.closeFrame i).buffers j = ((s.endFrame i).closeBuffer i).buffers j := by
    simp only [State.buffers, (s.closeFrame_frame i).2.2.2.2.2.2.2.2.2.2.2.2.2]
  rw [h, State.closeBuffer, State.onBuffers_buffers]
  split
  · next hj => rw [hj]
  · rfl

theorem State.endFrame_serves {s : State} {j : TimerId} {m : TimerMode} (hs : (s.buffers j).Serves m) (i : TimerId) :
    ((s.endFrame i).buffers j).Serves m :=
  hs.congr (fun b => congrArg Prod.fst (congrFun (congrFun (s.endFrame_heads i) j) b)) rfl

theorem TimerMode.hasFilling_of_inFrame {m : TimerMode} (h : m.inFrame = true) : m.hasFilling = true := by
  cases m with
  | running | draining => rfl
  | stopped | armed | waiting => cases h

theorem Three.Serves.filling {bs : Three Buffer} {m : TimerMode} (hs : bs.Serves m) (hm : m.hasFilling = true) :
    ∃ b, bs.find .filling = some b :=
  Option.isSome_iff_exists.mp (hs.2.2.2.trans hm)

/-- After steps 1 to 4 of a close the timer's buffers are those of a timer without a frame, and the closed one is
READY. -/
theorem State.closeFrame_serves {s : State} {i : TimerId} (hs : (s.buffers i).Serves (s.timer i).mode)
    (hm : (s.timer i).mode.inFrame = true) {n : TimerMode} (hn : n.hasFilling = false) :
    ((s.closeFrame i).buffers i).Serves n ∧ ∃ f, ((s.closeFrame i).buffers i).find .ready = some f := by
  have he := State.endFrame_serves hs i
  obtain ⟨f, hf⟩ := he.filling (TimerMode.hasFilling_of_inFrame hm)
  rw [State.closeFrame_buffers, if_pos rfl]
  obtain ⟨hc, hr⟩ := he.close hf hn
  exact ⟨hc, f, hr⟩

/-- Step 5 of a close finds a FREE buffer, which becomes the FILLING one of the next frame (R107). -/
theorem State.prepareNext_eq {s : State} {i : TimerId} {m : TimerMode} (hs : (s.buffers i).Serves m)
    (hm : m.hasFilling = false) {f : BufId} (hf : (s.buffers i).find .ready = some f) :
    ∃ g, (s.buffers i).find .free = some g ∧
      s.prepareNext i = some (s.onBuffers i fun _ =>
        (s.buffers i).set g (((s.buffers i).get f).next (s.timer i).run ((s.timer i).frame + 1))) := by
  obtain ⟨g, hg, hp⟩ := hs.prepare hm hf (s.timer i).run ((s.timer i).frame + 1)
  exact ⟨g, hg, by rw [State.prepareNext, hp]; rfl⟩

/-! ### No command faults -/

theorem State.openFirst_isSome {s : State} (hs : s.BuffersOk) {i : TimerId} (hm : (s.timer i).mode = .armed) :
    ∃ b, (s.buffers i).find .filling = none ∧ (s.buffers i).find .free = some b := by
  have hserves := hs.serves i
  rw [hm] at hserves
  obtain ⟨b, hb, -⟩ := hserves.prepareFirst rfl 0
  exact ⟨b, Option.isSome_eq_false_iff.mp hserves.2.2.2 |> Option.isNone_iff_eq_none.mp, hb⟩

/-- The frame 0 of an ARMED timer opens on the lowest FREE buffer (R18, R102). -/
theorem State.openFirst_eq {s : State} {i : TimerId} {b : BufId} (hno : (s.buffers i).find .filling = none)
    (hb : (s.buffers i).find .free = some b) :
    s.openFirst i = some ((s.opened i b
      { mode := .filling, run := (s.timer i).run, frame := 0, dropped := false, image := []
        status := List.replicate 64 { outcome := .notRun, attempts := 0, age := 255 } }
        (s.timer i).frame).postAll i) := by
  rw [State.openFirst, State.firstFrame_eq_opened hno hb]; rfl

theorem State.close_isSome {s : State} (hs : s.BuffersOk) {i : TimerId} (hm : (s.timer i).mode.inFrame = true) :
    ∃ t, s.close i = some t := by
  obtain ⟨hc, f, hf⟩ := State.closeFrame_serves (hs.serves i) hm (n := .stopped) rfl
  obtain ⟨g, -, hp⟩ := State.prepareNext_eq hc rfl hf
  unfold State.close
  dsimp only
  split
  · exact ⟨_, rfl⟩
  · rw [hp]; exact ⟨_, rfl⟩

theorem State.trigger_isSome {s : State} (hs : s.BuffersOk) (i : TimerId) : ∃ t, s.trigger i = some t := by
  have armed : (s.timer i).mode = .armed → ∃ t, s.openFirst i = some t := fun hm => by
    obtain ⟨b, hno, hb⟩ := State.openFirst_isSome hs hm
    exact ⟨_, State.openFirst_eq hno hb⟩
  unfold State.trigger
  split
  case h_1 hm _ => exact armed hm
  case h_2 hm _ => exact armed hm
  all_goals exact ⟨_, rfl⟩

theorem bufferOrFault_of_isSome {o : Option State} (h : ∃ t, o = some t) : ∃ t, bufferOrFault o = .next t := by
  obtain ⟨t, rfl⟩ := h
  exact ⟨t, rfl⟩

/-- Settles O4: a first frame start and a close find a FREE buffer (R99); no other command can fault. -/
theorem noCommandFaults : Obligations.NoCommandFaults := by
  intro c s hs
  have first (i : TimerId) : ∃ t, execFirstFrameStart i s = .next t := by
    unfold execFirstFrameStart
    split
    · next h =>
      simp only [State.firstFrameDue, Bool.and_eq_true, beq_iff_eq] at h
      obtain ⟨b, hno, hb⟩ := State.openFirst_isSome hs h.1.1.2
      exact bufferOrFault_of_isSome ⟨_, State.openFirst_eq hno hb⟩
    · exact ⟨_, rfl⟩
  have close (i : TimerId) : ∃ t, execFrameClose i s = .next t := by
    unfold execFrameClose
    split
    · next h =>
      simp only [State.frameCloseDue, Bool.and_eq_true] at h
      exact bufferOrFault_of_isSome (State.close_isSome hs h.1.2)
    · exact ⟨_, rfl⟩
  have trig (i : TimerId) : ∃ t, execTrigEdge i s = .next t := by
    unfold execTrigEdge
    split
    · exact ⟨_, rfl⟩
    · exact bufferOrFault_of_isSome (State.trigger_isSome hs i)
  cases c
  case firstFrameStart i => exact first i
  case frameClose i => exact close i
  case trigEdge i => exact trig i
  all_goals exact ⟨_, rfl⟩

/-! ### Frames that open -/

/-- Settles O18: FIRST_FRAME_START opens frame 0 on the lowest FREE buffer, and SYNC_END drives SYNC low. -/
theorem firstFrameStartsAndSyncEnds : Obligations.FirstFrameStartsAndSyncEnds := by
  refine ⟨fun s i b hr hm hmode hdue hno hb => ?_, fun s i hr hm hc hsync hw => ?_⟩
  · have hgo : s.firstFrameDue i = true := by simp [State.firstFrameDue, hr, hm, hmode, hdue]
    change execFirstFrameStart i s = _
    rw [execFirstFrameStart, if_pos hgo, State.openFirst_eq hno hb]
    rfl
  · have hgo : s.syncOver i = true := by simp [State.syncOver, hr, hm, hc, hsync, hw]
    change execSyncEnd i s = _
    rw [execSyncEnd, if_pos hgo]

theorem execTrigEdge_eq {s t : State} {i : TimerId} (hr : s.resetting = none) (h : s.trigger i = some t) :
    exec (.trigEdge i) s = .next t := by
  change execTrigEdge i s = _
  rw [execTrigEdge, h, hr]
  rfl

/-- Settles O21: the rows of R8's table, with the buffer that R99 leaves to be found. -/
theorem trigEdgeByState : Obligations.TrigEdgeByState := by
  intro s i hr hs
  refine ⟨fun h => execTrigEdge_eq hr ?_, fun hm hmode => ?_, fun hm hmode => ?_⟩
  · unfold State.trigger
    obtain hm | hmode | ⟨hmode, hm⟩ := h
    · rw [hm]
    · rw [hmode]; cases (s.timer i).mode <;> rfl
    · rw [hmode]
      revert hm
      cases (s.timer i).mode <;> simp
  · obtain ⟨b, hno, hb⟩ := State.openFirst_isSome hs hm
    refine ⟨b, hb, execTrigEdge_eq hr ?_⟩
    rw [← State.openFirst_eq hno hb]
    unfold State.trigger
    rw [hm]
    revert hmode
    cases (s.timer i).config.startMode <;> simp
  · obtain ⟨b, hb⟩ := (hs.serves i).filling (by rw [hm]; rfl)
    refine ⟨b, hb, execTrigEdge_eq hr ?_⟩
    unfold State.trigger
    rw [hm, hmode]
    dsimp only
    rw [State.openNext, State.nextFrame_eq_opened hb]

/-- Settles O22: the count saturates, and the record carries it as it then stands. -/
theorem missedTriggerCounted : Obligations.MissedTriggerCounted := by
  intro s i hr hm hmode
  refine execTrigEdge_eq hr ?_
  have hmiss : s.trigger i = some (s.missTrigger i) := by
    unfold State.trigger
    rw [hmode]
    revert hm
    cases (s.timer i).mode <;> simp [TimerMode.inFrame]
  rw [hmiss]
  simp [State.missTrigger, State.onTimer, State.timer]

end Sys2Proof.Machine
end

section
/-!
SUPPORT. Every happening keeps the states of the result buffers with the state of their timer, and the FILLING one under
the identity of its frame (R99, R100, R107).
-/

set_option Elab.async false

namespace Sys2Proof.Machine

/-- A change of one timer's frame asks for a look at that timer alone. -/
theorem State.KeepsBuffers.of_one {s t : State} {i : TimerId} (h : s.KeepsBuffers t i)
    (hother : ∀ j, j ≠ i → t.heads j = s.heads j ∧ t.timer j = s.timer j) (j : TimerId) : s.KeepsBuffers t j := by
  by_cases hj : j = i
  · subst hj; exact h
  · obtain ⟨hb, ht⟩ := hother j hj
    exact .of_heads (fun b => congrFun hb b) (by rw [ht]) (by rw [ht]) (by rw [ht]) (by rw [ht]) (by rw [ht]; exact id)

/-- Buffers and timers as they were. -/
theorem State.KeepsBuffers.of_same {s t : State} (hb : t.heads = s.heads) (ht : t.timers = s.timers) (j : TimerId) :
    s.KeepsBuffers t j := by
  have htimer : t.timer j = s.timer j := by simp only [State.timer, ht]
  exact .of_heads (fun b => congrFun (congrFun hb j) b) (by rw [htimer]) (by rw [htimer]) (by rw [htimer])
    (by rw [htimer]) (by rw [htimer]; exact id)

theorem State.KeepsBuffers.onTimer {s : State} {i : TimerId} {f : Timer → Timer}
    (h : s.KeepsBuffers (s.onTimer i f) i) (j : TimerId) : s.KeepsBuffers (s.onTimer i f) j :=
  h.of_one (fun j hj => ⟨rfl, by rw [State.onTimer_timer, if_neg hj]⟩) j

/-- A timer that stops with no FILLING buffer left. -/
theorem State.KeepsBuffers.stopped {s u : State} {i : TimerId}
    (h : (s.buffers i).Serves (s.timer i).mode → (u.buffers i).Serves .stopped) (ht : u.timers = s.timers)
    (hother : ∀ j, j ≠ i → u.heads j = s.heads j) (j : TimerId) : s.KeepsBuffers (u.stopped i) j := by
  have hb : ∀ j, (u.stopped i).buffers j = u.buffers j := fun _ => rfl
  refine State.KeepsBuffers.of_one (i := i) (fun hs => ?_) (fun j hj => ⟨?_, ?_⟩) j
  · have hserves := h hs
    rw [hb, State.stopped_timer_same]
    exact ⟨hserves, fun _ => hserves.names (x := { u.timer i with
        mode := .stopped, round := 0, tick := 0, pendingCommit := false, pendingPublish := false
        sync := false, closeDue := false, firstDue := false, posted := false }) rfl (by simp)⟩
  · exact hother j hj
  · rw [State.stopped_timer_other _ hj]; simp only [State.timer, ht]

theorem State.onBuffers_heads_other {s : State} {i j : TimerId} (hj : j ≠ i) (f : Three Buffer → Three Buffer) :
    (s.onBuffers i f).heads j = s.heads j := by
  funext b
  unfold State.heads
  rw [State.onBuffers_buffers, if_neg hj]

theorem State.opened_heads_other {s : State} {i j : TimerId} (hj : j ≠ i) (b : BufId) (fill : Buffer) (frame : Time) :
    (s.opened i b fill frame).heads j = s.heads j := by
  funext c
  unfold State.heads
  rw [State.opened_buffers_other hj]

/-- A frame that opens on its prepared buffer leaves states and identities. -/
theorem State.opened_heads (s : State) (i : TimerId) (b : BufId) (frame : Time) (c : BufId) :
    (((s.opened i b ((s.buffers i).get b) frame).buffers i).get c).head = ((s.buffers i).get c).head := by
  rw [State.opened_buffers_same, Three.get_set]
  split
  · next hc => rw [hc]; rfl
  · rfl

theorem State.opened_find (s : State) (i : TimerId) (b : BufId) (frame : Time) :
    ((s.opened i b ((s.buffers i).get b) frame).buffers i).find .filling = (s.buffers i).find .filling :=
  Three.find_congr fun c => by rw [(Buffer.head_eq (s.opened_heads i b frame c)).1]

theorem State.onTimer_heads (s : State) (i : TimerId) (f : Timer → Timer) : (s.onTimer i f).heads = s.heads := rfl

theorem State.closeFrame_heads_other {s : State} {i j : TimerId} (hj : j ≠ i) :
    (s.closeFrame i).heads j = s.heads j := by
  funext b
  unfold State.heads
  rw [State.closeFrame_buffers, if_neg hj]
  exact congrFun (congrFun (s.endFrame_heads i) j) b

theorem State.frameStart_buffers_other {i j : TimerId} (s : State) (hj : j ≠ i) :
    (s.frameStart i).buffers j = s.buffers j := by
  cases hc : (s.timer i).pendingCommit <;> cases hp : (s.timer i).pendingPublish <;>
    simp [State.frameStart, State.startCommit, State.applyPublish, State.markPositions, hc, hp,
      State.onBuffers_buffers, hj]

theorem State.nextFrame_heads_other {s : State} {i j : TimerId} (hj : j ≠ i) :
    (s.nextFrame i).heads j = s.heads j := by
  funext b
  unfold State.heads State.nextFrame
  rw [State.frameStart_buffers_other _ hj]
  rfl

theorem State.nextFrame_timer_other {s : State} {i j : TimerId} (hj : j ≠ i) : (s.nextFrame i).timer j = s.timer j := by
  rw [State.nextFrame, State.frameStart_timer_other _ hj, State.onTimer_timer, if_neg hj]

theorem Three.serves_of_free {bs : Three Buffer} {m : TimerMode} (h : ∀ b, (bs.get b).mode = .free)
    (hm : m.hasFilling = false) : bs.Serves m := by
  have none {n : BufMode} (hn : n ≠ .free) (b : BufId) : (bs.get b).mode ≠ n := by rw [h b]; exact hn.symm
  have one {n : BufMode} (hn : n ≠ .free) : bs.AtMostOne n := fun i _ hi => absurd hi (none hn i)
  exact ⟨one (by decide), one (by decide), one (by decide),
    by rw [Three.find_none.mpr (none (by decide)), hm]; rfl⟩

/-- Within a reset every result buffer is at its reset values. -/
theorem State.cleared_buffers (pins : Pins) (q : List Instr) (r : Option Resetting) (i : TimerId) :
    (State.cleared pins q r).buffers i = ⟨.reset, .reset, .reset⟩ := by
  cases i <;> rfl

/-- Everything step 5 of a close can do: a FREE buffer, prepared from the READY one, is the FILLING one (R107). -/
theorem State.closed_prepared {s u : State} {i : TimerId} (hs : (s.buffers i).Serves (s.timer i).mode)
    (hm : (s.timer i).mode.inFrame = true) (h : (s.closeFrame i).prepareNext i = some u) :
    ∃ f g, ((s.closeFrame i).buffers i).find .ready = some f ∧ ((s.closeFrame i).buffers i).find .free = some g ∧
      u = (s.closeFrame i).onBuffers i (fun _ => ((s.closeFrame i).buffers i).set g
        ((((s.closeFrame i).buffers i).get f).next (s.timer i).run ((s.timer i).frame + 1))) ∧
      (u.buffers i).find .filling = some g ∧ ∀ n : TimerMode, n.hasFilling = true → (u.buffers i).Serves n := by
  obtain ⟨hc, f, hf⟩ := State.closeFrame_serves hs hm (n := .stopped) rfl
  obtain ⟨g, hg, hp⟩ := State.prepareNext_eq hc rfl hf
  rw [hp] at h
  cases h
  have htimer : (s.closeFrame i).timer i = s.timer i := by simp [State.timer]
  refine ⟨f, g, hf, hg, by rw [htimer], ?_, fun n hn => ?_⟩
  · rw [State.onBuffers_buffers_same]
    exact (hc.set_filling (n := .running) rfl rfl rfl).2
  · rw [State.onBuffers_buffers_same]
    exact (hc.set_filling rfl hn rfl).1

theorem State.closeFrame_timer (s : State) (i j : TimerId) : (s.closeFrame i).timer j = s.timer j := by
  simp [State.timer]

/-- A timer that waits once its frame is closed. -/
theorem State.KeepsBuffers.waits {s u : State} {i : TimerId} (hm : (s.timer i).mode = .running)
    (h : (s.closeFrame i).prepareNext i = some u) (j : TimerId) :
    s.KeepsBuffers (u.onTimer i fun x => x.rest .waiting) j := by
  obtain ⟨bs, -, hu⟩ := State.prepareNext_some h
  refine State.KeepsBuffers.of_one (i := i) (fun hs => ?_) (fun j hj => ⟨?_, ?_⟩) j
  · obtain ⟨f, g, -, -, rfl, hfill, hserves⟩ := State.closed_prepared hs (by rw [hm]; rfl) h
    rw [State.onTimer_timer_same]
    refine ⟨hserves .waiting rfl, fun _ => ⟨fun b hb => ?_, fun ha => (by cases ha)⟩⟩
    have hbg : b = g := Option.some.inj (hb.symm.trans hfill)
    subst hbg
    rw [State.onTimer_buffers_eq, State.onBuffers_buffers_same, Three.get_set_same, State.onBuffers_timer_eq,
      State.closeFrame_timer]
    exact ⟨rfl, rfl⟩
  · rw [State.onTimer_heads, hu]
    exact (State.onBuffers_heads_other hj _).trans (State.closeFrame_heads_other hj)
  · rw [State.onTimer_timer, if_neg hj, hu]
    exact s.closeFrame_timer i j

/-- A timer whose next frame opens at the tick of the close. -/
theorem State.KeepsBuffers.goesOn {s u : State} {i : TimerId} (hm : (s.timer i).mode = .running)
    (h : (s.closeFrame i).prepareNext i = some u) (j : TimerId) : s.KeepsBuffers (u.nextFrame i) j := by
  obtain ⟨bs, -, hu⟩ := State.prepareNext_some h
  have htimers : u.timers = s.timers := by rw [hu]; simp
  refine State.KeepsBuffers.of_one (i := i) (fun hs => ?_) (fun j hj => ⟨?_, ?_⟩) j
  · obtain ⟨f, g, -, -, hu', hfill, hserves⟩ := State.closed_prepared hs (by rw [hm]; rfl) h
    rw [State.nextFrame_eq_opened hfill]
    obtain ⟨hmode, hrun, hframe⟩ := u.opened_timer_same i g ((u.buffers i).get g) ((u.timer i).frame + 1)
    have hheads := u.opened_heads i g ((u.timer i).frame + 1)
    rw [hmode]
    have hopen := (hserves .running rfl).congr (n := .running) (fun b => (Buffer.head_eq (hheads b)).1) rfl
    refine ⟨hopen, fun _ => ⟨fun b hb => ?_, fun ha => (by rw [hmode] at ha; cases ha)⟩⟩
    have hbg : b = g := by
      rw [State.opened_find, hfill] at hb
      exact (Option.some.inj hb).symm
    subst hbg
    obtain ⟨-, h2, h3⟩ := Buffer.head_eq (hheads b)
    rw [h2, h3, hmode, hrun, hframe, hu', State.onBuffers_buffers_same, Three.get_set_same, State.onBuffers_timer_eq,
      State.closeFrame_timer]
    exact ⟨rfl, rfl⟩
  · rw [State.nextFrame_heads_other hj, hu]
    exact (State.onBuffers_heads_other hj _).trans (State.closeFrame_heads_other hj)
  · rw [State.nextFrame_timer_other hj]
    simp only [State.timer, htimers]

/-- A WAITING timer whose prepared frame opens. -/
theorem State.KeepsBuffers.opensNext {s : State} {i : TimerId} (hm : (s.timer i).mode = .waiting) (j : TimerId) :
    s.KeepsBuffers (s.nextFrame i) j := by
  refine State.KeepsBuffers.of_one (i := i) (fun hs => ?_)
    (fun j hj => ⟨State.nextFrame_heads_other hj, State.nextFrame_timer_other hj⟩) j
  obtain ⟨b, hb⟩ := hs.filling (by rw [hm]; rfl)
  rw [State.nextFrame_eq_opened hb]
  obtain ⟨hmode, hrun, hframe⟩ := s.opened_timer_same i b ((s.buffers i).get b) ((s.timer i).frame + 1)
  have hheads := s.opened_heads i b ((s.timer i).frame + 1)
  refine ⟨by rw [hmode]; exact hs.congr (fun c => (Buffer.head_eq (hheads c)).1) (by rw [hm]; rfl),
    fun hn => ⟨fun c hc => ?_, fun ha => (by rw [hmode] at ha; cases ha)⟩⟩
  rw [State.opened_find] at hc
  obtain ⟨-, h2, h3⟩ := Buffer.head_eq (hheads c)
  obtain ⟨hr, hf⟩ := hn.1 c hc
  rw [if_pos hm] at hf
  rw [h2, h3, hmode, hrun, hframe, hr, hf]
  exact ⟨rfl, rfl⟩

/-- An ARMED timer whose first frame opens on a FREE buffer. -/
theorem State.KeepsBuffers.opensFirst {s u : State} {i : TimerId} (hm : (s.timer i).mode = .armed)
    (h : s.firstFrame i = some u) (j : TimerId) : s.KeepsBuffers u j := by
  obtain ⟨bs, -, hu⟩ := State.firstFrame_some h
  refine State.KeepsBuffers.of_one (i := i) (fun hs => ?_) (fun j hj => ?_) j
  · have hno : (s.buffers i).find .filling = none := by
      have h4 := hs.2.2.2
      rw [hm] at h4
      simpa using h4.trans (show TimerMode.hasFilling .armed = false from rfl)
    obtain ⟨b, hb, -⟩ := hs.prepareFirst (by rw [hm]; rfl) 0
    rw [State.firstFrame_eq_opened hno hb] at h
    cases h
    obtain ⟨hmode, hrun, hframe⟩ := s.opened_timer_same i b
      { mode := .filling, run := (s.timer i).run, frame := 0, dropped := false, image := []
        status := List.replicate 64 { outcome := .notRun, attempts := 0, age := 255 } } (s.timer i).frame
    rw [State.opened_buffers_same]
    obtain ⟨hserves, hfind⟩ := hs.set_filling (b := b) (n := .running)
      (v := ({
        mode := .filling, run := (s.timer i).run, frame := 0, dropped := false, image := []
        status := (List.replicate 64 { outcome := .notRun, attempts := 0, age := 255 }).zipWith
          (fun (st : Status) e => st.opened (s.timer i).frame (s.timer i).pendingCommit e) (s.opensTable i) } : Buffer))
      (by rw [hm]; rfl) rfl rfl
    rw [hmode]
    refine ⟨hserves, fun hn => ⟨fun c hc => ?_, fun ha => (by rw [hmode] at ha; cases ha)⟩⟩
    have hcb : c = b := Option.some.inj (hc.symm.trans hfind)
    subst hcb
    rw [Three.get_set_same, hmode, hrun, hframe, hn.2 hm]
    exact ⟨rfl, rfl⟩
  · rw [hu]
    refine ⟨?_, ?_⟩
    · funext c
      unfold State.heads
      rw [State.frameStart_buffers_other _ hj, State.onBuffers_buffers, if_neg hj]
    · rw [State.frameStart_timer_other _ hj]; rfl

/-- Every happening keeps the buffers of each timer with its state and its frame. -/
theorem State.Effect.keepsBuffers {s t : State} (h : s.Effect t) (j : TimerId) : s.KeepsBuffers t j := by
  cases h with
  | none => exact .of_same rfl rfl j
  | configures =>
    exact State.KeepsBuffers.onTimer (.of_heads (fun _ => rfl) (by simp) (by simp) (by simp) (by simp) (by simp)) j
  | starts hm =>
    exact State.KeepsBuffers.onTimer (.of_none rfl (by rw [hm]; rfl) (by rw [State.onTimer_timer_same]; rfl)
      (by simp)) j
  | drains hm =>
    exact State.KeepsBuffers.onTimer (.of_heads (fun _ => rfl) (by simp) (by simp)
      (by rw [State.onTimer_timer_same, hm]; rfl) (by simp [hm]) (by simp)) j
  | @disarms i hm =>
    refine State.KeepsBuffers.onTimer (f := fun x => x.rest .stopped) (i := i) ?_ j
    exact .of_none rfl (by rw [hm]; rfl) (by rw [State.onTimer_timer_same]; rfl) (by simp [Timer.rest])
  | @stopsWaiting i hm =>
    rw [State.stopWaiting_eq_stopped]
    refine .stopped (s := s) (u := s.onBuffers i Three.freeFilling) (fun hs => ?_) rfl
      (fun j hj => State.onBuffers_heads_other hj _) j
    rw [State.onBuffers_buffers_same]
    exact hs.freeFilling rfl
  | @stopsRunning i hm =>
    have hbuf : ∀ j, (s.withdrawn i).buffers j = (s.onBuffers i Three.freeFilling).buffers j := fun j => by
      simp only [State.buffers, State.withdrawn_frame]
    rw [State.stopRunning_eq_stopped]
    refine .stopped (fun hs => ?_) (by simp) (fun j hj => ?_) j
    · rw [hbuf, State.onBuffers_buffers_same]
      exact hs.freeFilling rfl
    · funext b
      unfold State.heads
      rw [hbuf, State.onBuffers_buffers, if_neg hj]
  | commits => exact .of_same (by simp) (by simp) j
  | @holds i =>
    refine State.KeepsBuffers.of_one (i := i) (fun hs => ?_)
      (fun j hj => ⟨State.onBuffers_heads_other hj _, rfl⟩) j
    rw [State.onBuffers_buffers_same]
    exact ⟨hs.hold, fun hn => hn.of_filling (s.buffers i).hold_filling⟩
  | @releases i =>
    refine State.KeepsBuffers.of_one (i := i) (fun hs => ?_)
      (fun j hj => ⟨State.onBuffers_heads_other hj _, rfl⟩) j
    rw [State.onBuffers_buffers_same]
    exact ⟨hs.release, fun hn => hn.of_filling (s.buffers i).release_filling⟩
  | accepts => exact .of_same rfl rfl j
  | drops => exact .of_same (State.heads_congr (by simp)) (by simp) j
  | resolves => exact .of_same (by simp) (by simp) j
  | resets =>
    intro _
    rw [State.cleared_timer]
    rw [State.cleared_buffers]
    exact ⟨Three.serves_of_free (fun b => by cases b <;> rfl) rfl, fun _ =>
      ⟨fun b hb => (by cases hb), fun ha => (by cases ha)⟩⟩
  | opensFirst hm hu => exact .opensFirst hm hu j
  | opensNext hm => exact .opensNext hm j
  | @drained i hm =>
    rw [State.drain_eq_stopped]
    exact .stopped (fun hs => (State.closeFrame_serves hs (by rw [hm]; rfl) rfl).1) (by simp)
      (fun j hj => State.closeFrame_heads_other hj) j
  | waits hm hu => exact .waits hm hu j
  | goesOn hm hu => exact .goesOn hm hu j
  | grants => exact .of_same (State.heads_congr (by simp)) (by simp) j
  | expires => exact .of_same (by simp) (by simp) j
  | ends => exact .of_same (by simp) (by simp) j
  | ticks =>
    obtain ⟨h1, h2, h3, -⟩ := (s.timer j).advance_frame
    refine .of_heads (fun _ => rfl) ?_ ?_ ?_ ?_ ?_ <;> rw [State.ticked_timer]
    · exact h2
    · exact h3
    · rw [h1]
    · rw [h1]
    · rw [h1]; exact id

theorem State.KeepsBuffers.trans {s t u : State} {i : TimerId} (h : s.KeepsBuffers t i) (k : t.KeepsBuffers u i) :
    s.KeepsBuffers u i := fun hs =>
  have ⟨ht, hn⟩ := h hs
  have ⟨hu, hn'⟩ := k ht
  ⟨hu, hn' ∘ hn⟩

theorem State.Calm.keepsBuffers {s t : State} (h : s.Calm t) (i : TimerId) : s.KeepsBuffers t i :=
  .of_heads (fun b => congrFun (congrFun (State.heads_congr h.results) i) b) (h.timers i).run (h.timers i).frame
    (by rw [(h.timers i).mode]) (by rw [(h.timers i).mode]) (by rw [(h.timers i).mode]; exact id)

theorem State.Posts.keepsBuffers {s t : State} (h : s.Posts t) (j : TimerId) : s.KeepsBuffers t j := by
  obtain rfl | ⟨i, -, -, -, rfl⟩ := h
  · exact .of_same rfl rfl j
  · have htimer : (s.postAll i).timer j = (s.onTimer i fun x => { x with posted := true }).timer j := by
      simp only [State.timer, State.postAll_frame]
    have hframe : ((s.postAll i).timer j).mode = (s.timer j).mode ∧ ((s.postAll i).timer j).run = (s.timer j).run ∧
        ((s.postAll i).timer j).frame = (s.timer j).frame := by
      rw [htimer, State.onTimer_timer]
      split
      · next hj => subst hj; exact ⟨rfl, rfl, rfl⟩
      · exact ⟨rfl, rfl, rfl⟩
    obtain ⟨h1, h2, h3⟩ := hframe
    exact .of_heads (fun b => congrFun (congrFun (s.postAll_heads i) j) b) h2 h3 (by rw [h1]) (by rw [h1])
      (by rw [h1]; exact id)

theorem State.Does.keepsBuffers {s t : State} (h : s.Does t) (i : TimerId) : s.KeepsBuffers t i :=
  have ⟨_, _, _, hu, hv, hw, ht⟩ := h
  (hu.keepsBuffers i).trans ((hv.keepsBuffers i).trans ((hw.keepsBuffers i).trans (ht.keepsBuffers i)))

end Sys2Proof.Machine
end

section
/-!
SUPPORT. In every status element age is 0 exactly when the outcome is OK or NODE_FAULT (R101): what ends without
response data leaves elements without a delivery, and each position is delivered to once in a frame.
-/

set_option Elab.async false

namespace Sys2Proof.Machine

/-! ### Elements without a delivery -/

/-- Age 0 exactly with response data (R101). -/
def Status.AgeOk (e : Status) : Prop := e.age = 0 ↔ e.outcome.isGood = true

/-- No response data, and an age above 0. -/
def Status.Blank (e : Status) : Prop := e.outcome.isGood = false ∧ e.age ≠ 0

theorem Outcome.isGood_iff {o : Outcome} : o.isGood = true ↔ o = .ok ∨ o = .nodeFault := by
  cases o <;> simp [Outcome.isGood]

theorem Outcome.isGood_false_iff {o : Outcome} : o.isGood = false ↔ o ≠ .ok ∧ o ≠ .nodeFault := by
  cases o <;> simp [Outcome.isGood]

theorem Status.Blank.ageOk {e : Status} (h : e.Blank) : e.AgeOk := by
  simp [Status.AgeOk, h.1, h.2]

theorem Status.AgeOk.blank {e : Status} (h : e.AgeOk) (hg : e.outcome.isGood = false) : e.Blank :=
  ⟨hg, fun h0 => (by rw [h.mp h0] at hg; cases hg)⟩

/-- Every element of a status list stays or is without a delivery. -/
def Buffer.Fades (b c : Buffer) : Prop :=
  ∀ (position : Nat) (e : Status), c.status[position]? = some e → e.Blank ∨ b.status[position]? = some e

theorem Buffer.Fades.refl (b : Buffer) : b.Fades b := fun _ _ => .inr

theorem Buffer.Fades.trans {b c d : Buffer} (h : b.Fades c) (k : c.Fades d) : b.Fades d := fun p e he =>
  (k p e he).elim .inl (h p e)

/-- Every buffer keeps its state and identity, and every status element stays or is without a delivery. -/
structure State.Fades (s t : State) : Prop where
  heads : t.heads = s.heads
  status : ∀ i b, ((s.buffers i).get b).Fades ((t.buffers i).get b)

theorem State.Fades.of_results {s t : State} (h : t.results = s.results) : s.Fades t :=
  ⟨State.heads_congr h, fun i b => by simp only [State.buffers, h]; exact .refl _⟩

theorem State.Fades.trans {s t u : State} (h : s.Fades t) (k : t.Fades u) : s.Fades u :=
  ⟨k.heads.trans h.heads, fun i b => (h.status i b).trans (k.status i b)⟩

theorem State.Fades.onBuffer {s : State} {i : TimerId} {b : BufId} {f : Buffer → Buffer}
    (hhead : (f ((s.buffers i).get b)).head = ((s.buffers i).get b).head)
    (h : ((s.buffers i).get b).Fades (f ((s.buffers i).get b))) : s.Fades (s.onBuffer i b f) where
  heads := State.heads_onBuffer hhead
  status j c := by
    unfold State.onBuffer
    rw [State.onBuffers_buffers]
    split
    · next hj =>
      subst hj
      rw [Three.get_set]
      split
      · next hc => subst hc; exact h
      · exact .refl _
    · exact .refl _

/-- The element a claim's outcome would be written to is without a delivery. -/
def State.Undelivered (s : State) (k : CyclicClaim) : Prop :=
  ∀ b e, s.fillingFor k = some b → ((s.buffers k.timer).get b).status[k.position]? = some e → e.Blank

theorem State.find_of_heads {s t : State} (h : t.heads = s.heads) (i : TimerId) (m : BufMode) :
    (t.buffers i).find m = (s.buffers i).find m :=
  Three.find_congr fun b => by rw [(Buffer.head_eq (congrFun (congrFun h i) b)).1]

theorem State.fillingFor_of_heads {s t : State} (h : t.heads = s.heads) (k : CyclicClaim) :
    t.fillingFor k = s.fillingFor k := by
  unfold State.fillingFor
  rw [State.find_of_heads h]
  split
  · next b _ =>
    obtain ⟨-, hr, hf⟩ := Buffer.head_eq (congrFun (congrFun h k.timer) b)
    rw [hr, hf]
  · rfl

theorem State.Undelivered.fades {s t : State} {k : CyclicClaim} (hs : s.Undelivered k) (h : s.Fades t) :
    t.Undelivered k := fun b e hb he => by
  rw [State.fillingFor_of_heads h.heads] at hb
  exact (h.status k.timer b k.position e he).elim id (hs b e hb)

/-- An element is changed at one position, from without a delivery to without one. -/
theorem Buffer.fades_modify {b c : Buffer} {position : Nat} {f : Status → Status}
    (hc : c.status = b.status.modify position f)
    (h : ∀ e, b.status[position]? = some e → (f e).Blank) : b.Fades c := fun p e he => by
  rw [hc, List.getElem?_modify, Option.map_eq_map, Option.map_eq_some_iff] at he
  obtain ⟨e', he', hee⟩ := he
  split at hee
  · next hp => subst hp; subst hee; exact .inl (h e' he')
  · subst hee; exact .inr he'

theorem Buffer.deliver_status (b : Buffer) (e : Option ScanEntry) (position : Nat) (o : Outcome) (n : Nat)
    (d : List Byte) : (b.deliver e position o n d).status =
      b.status.modify position fun st =>
        { outcome := o, attempts := n, age := if o.isGood then 0 else st.age } := by
  unfold Buffer.deliver
  dsimp only
  split
  · split <;> rfl
  · rfl

/-- An outcome without response data, at a position without a delivery (R104). -/
theorem State.Undelivered.deliverResult {s : State} {k : CyclicClaim} (hs : s.Undelivered k) {o : Outcome}
    (ho : o.isGood = false) (n : Nat) (d : List Byte) : s.Fades (s.deliverResult k o n d) := by
  unfold State.deliverResult
  split
  · next b hb =>
    refine .onBuffer (Buffer.deliver_head ..) (Buffer.fades_modify (Buffer.deliver_status ..) fun e he => ?_)
    have hblank := hs b e hb he
    exact ⟨ho, by rw [ho]; exact hblank.2⟩
  · exact .of_results rfl

theorem State.Undelivered.recordOverrun {s : State} {k : CyclicClaim} (hs : s.Undelivered k) :
    s.Fades (s.recordOverrun k) := by
  unfold State.recordOverrun
  split
  · next b hb => exact .onBuffer rfl (Buffer.fades_modify rfl fun e he => ⟨rfl, (hs b e hb he).2⟩)
  · exact .of_results rfl

theorem State.Undelivered.deliverWaiting {s : State} {c : Claim} (hs : ∀ k, c = .cyclic k → s.Undelivered k)
    {o : Outcome} (ho : o.isGood = false) (l : LaneId) : s.Fades (s.deliverWaiting l o c) := by
  cases c with
  | cyclic k =>
    exact ((hs k rfl).deliverResult ho _ _).trans (.of_results (s.deliverWaiting_cyclic_results l o k))
  | acyclic tag a => exact .of_results (by unfold State.deliverWaiting; dsimp only; split <;> simp)

theorem State.Undelivered.deliverAll {s : State} {cs : List Claim} (hs : ∀ k, Claim.cyclic k ∈ cs → s.Undelivered k)
    {o : Outcome} (ho : o.isGood = false) (l : LaneId) : s.Fades (s.deliverAll l o cs) := by
  refine List.foldlRecOn (motive := fun u => s.Fades u) cs _ (.of_results rfl) fun u hu c hc => ?_
  exact hu.trans (State.Undelivered.deliverWaiting (fun k hk => (hs k (hk ▸ hc)).fades hu) ho l)

/-- Every claim that waits on a lane is to a position without a delivery. -/
theorem State.Undelivered.resolveAll {s : State} {l : LaneId}
    (hs : ∀ k, Claim.cyclic k ∈ (s.lane l).claims → s.Undelivered k) {o : Outcome} (ho : o.isGood = false) :
    s.Fades (s.resolveAll l o) := by
  have h : s.Fades (s.onLane l fun x => { x with claims := [] }) := .of_results rfl
  exact h.trans (State.Undelivered.deliverAll (fun k hk => (hs k hk).fades h) ho l)

theorem State.Undelivered.clearFlight {s : State} {l : LaneId}
    (hs : ∀ k, Claim.cyclic k ∈ (s.lane l).claims → s.Undelivered k) : s.Fades (s.clearFlight l) := by
  unfold State.clearFlight
  dsimp only
  split
  · have h : s.Fades ((s.onLane l fun x => { x with mode := .ready, inFlight := none }).onLane l fun x =>
        { x with mode := .sleeping, sleepPending := false, sleep := some .waiting }) := .of_results rfl
    refine h.trans (State.Undelivered.resolveAll (fun k hk => ?_) rfl)
    rw [State.onLane_lane_same, State.onLane_lane_same] at hk
    exact (hs k hk).fades h
  · exact .of_results rfl

/-- A claim that waits, or is that of the transaction in flight, on some lane. -/
def State.Carries (s : State) (k : CyclicClaim) : Prop :=
  ∃ l, Claim.cyclic k ∈ (s.lane l).claims ∨ ∃ f, (s.lane l).inFlight = some f ∧ f.claim = .cyclic k

theorem State.Shrinks.carries {s t : State} (h : s.Shrinks t) {k : CyclicClaim} (hk : t.Carries k) : s.Carries k := by
  obtain ⟨l, hk | ⟨g, hg, hc⟩⟩ := hk
  · exact ⟨l, .inl ((h l).claims.subset hk)⟩
  · obtain ⟨f, hf, hfc, -⟩ := (h l).flight g hg
    exact ⟨l, .inr ⟨f, hf, hfc ▸ hc⟩⟩

/-- Steps 1 and 2 of a close, on claims to positions without a delivery (R14, R105). -/
theorem State.Undelivered.endFrame {s : State} {i : TimerId}
    (hs : ∀ k, s.Carries k → k.isOf i (s.timer i).run (s.timer i).frame = true → s.Undelivered k) :
    s.Fades (s.endFrame i) := by
  have late : ∀ u l, s.Fades u → s.Shrinks u →
      s.Fades (u.withdrawLate i (s.timer i).run (s.timer i).frame l) ∧
        s.Shrinks (u.withdrawLate i (s.timer i).run (s.timer i).frame l) := fun u l hf hsh => by
    refine ⟨?_, ?_⟩
    · have h : s.Fades (u.onLane l fun x =>
          { x with claims := x.claims.filter fun c => !c.isOfFrame i (s.timer i).run (s.timer i).frame }) :=
        hf.trans (.of_results rfl)
      refine h.trans (State.Undelivered.deliverAll (fun k hk => ?_) rfl l)
      obtain ⟨hk, hof⟩ := List.mem_filter.mp hk
      exact (hs k (hsh.carries ⟨l, .inl hk⟩) hof).fades h
    · exact hsh.trans fun m => by
        rw [State.withdrawLate_lane]
        split
        · exact ⟨List.filter_sublist, fun g hg => ⟨g, hg, rfl, id⟩⟩
        · exact .refl _
  have ends : ∀ u l, s.Fades u → s.Shrinks u →
      s.Fades (u.overrun i (s.timer i).run (s.timer i).frame l) ∧
        s.Shrinks (u.overrun i (s.timer i).run (s.timer i).frame l) := fun u l hf hsh => by
    refine ⟨?_, ?_⟩
    · unfold State.overrun
      split
      · next f hfl =>
        split
        · next k hk =>
          split
          · next hof =>
            have hun := (hs k (hsh.carries ⟨l, .inr ⟨f, hfl, hk⟩⟩) hof).fades hf
            exact hf.trans (hun.recordOverrun.trans (.of_results rfl))
          · exact hf
        · exact hf
      · exact hf
    · exact hsh.trans fun m => by
        rw [State.overrun_lane]
        split
        · refine ⟨.refl _, fun g hg => ?_⟩
          simp only [Lane.orphanIf, Option.map_eq_some_iff] at hg
          obtain ⟨f, hf, rfl⟩ := hg
          refine ⟨f, hf, ?_, ?_⟩ <;> split <;> simp
        · exact .refl _
  have h1 := List.foldlRecOn (motive := fun u => s.Fades u ∧ s.Shrinks u) allLanes
    (fun u l => u.withdrawLate i (s.timer i).run (s.timer i).frame l) ⟨.of_results rfl, .of_lanes rfl⟩
    fun u hu l _ => late u l hu.1 hu.2
  exact (List.foldlRecOn (motive := fun u => s.Fades u ∧ s.Shrinks u) allLanes
    (fun u l => u.overrun i (s.timer i).run (s.timer i).frame l) h1 fun u hu l _ => ends u l hu.1 hu.2).1

/-! ### How many claims a position has -/

theorem State.claimsAt_le {s t : State} {i : TimerId} {p : Nat}
    (h : ∀ l, (t.lane l).claimsAt i p ≤ (s.lane l).claimsAt i p) : t.claimsAt i p ≤ s.claimsAt i p := by
  have h0 := h .l0
  have h1 := h .l1
  have h2 := h .l2
  have h3 := h .l3
  simp only [State.claimsAt, allLanes, List.map_cons, List.map_nil, List.sum_cons, List.sum_nil]
  omega

theorem State.claimsAt_zero_iff {s : State} {i : TimerId} {p : Nat} :
    s.claimsAt i p = 0 ↔ ∀ l, (s.lane l).claimsAt i p = 0 := by
  simp only [State.claimsAt, allLanes, List.map_cons, List.map_nil, List.sum_cons, List.sum_nil]
  refine ⟨fun h l => ?_, fun h => ?_⟩
  · cases l <;> omega
  · simp [h]

/-- What counts of a transaction in flight. -/
theorem Lane.claimsAt_none {x : Lane} (h : x.inFlight = none) (i : TimerId) (p : Nat) :
    x.claimsAt i p = x.claims.countP fun c => c.isAt i p := by
  rw [Lane.claimsAt, h]; rfl

theorem Lane.claimsAt_some {x : Lane} {f : InFlight} (h : x.inFlight = some f) (i : TimerId) (p : Nat) :
    x.claimsAt i p = x.claims.countP (fun c => c.isAt i p) + if f.claim.isAt i p && !f.orphan then 1 else 0 := by
  rw [Lane.claimsAt, h]

theorem Lane.Shrinks.claimsAt_le {x y : Lane} (h : x.Shrinks y) (i : TimerId) (p : Nat) :
    y.claimsAt i p ≤ x.claimsAt i p := by
  have hc : y.claims.countP (fun c => c.isAt i p) ≤ x.claims.countP fun c => c.isAt i p := h.claims.countP_le
  cases hy : y.inFlight with
  | none =>
    rw [Lane.claimsAt_none hy]
    exact hc.trans (Nat.le_add_right _ _)
  | some g =>
    obtain ⟨f, hf, hfc, hfo⟩ := h.flight g hy
    rw [Lane.claimsAt_some hy, Lane.claimsAt_some hf, hfc]
    refine Nat.add_le_add hc ?_
    cases ho : g.orphan with
    | true => simp
    | false => rw [hfo ho]

theorem State.Shrinks.claimsAt_le {s t : State} (h : s.Shrinks t) (i : TimerId) (p : Nat) :
    t.claimsAt i p ≤ s.claimsAt i p := State.claimsAt_le fun l => (h l).claimsAt_le i p

theorem Claim.isAt_iff {c : Claim} {i : TimerId} {p : Nat} :
    c.isAt i p = true ↔ ∃ k, c = .cyclic k ∧ k.timer = i ∧ k.position = p := by
  cases c <;> simp [Claim.isAt]

/-- A claim counts at its position. -/
theorem State.Bears.claimsAt_ne {s : State} {l : LaneId} {k : CyclicClaim} (h : s.Bears l k) :
    s.claimsAt k.timer k.position ≠ 0 := fun h0 => by
  have hat : (Claim.cyclic k).isAt k.timer k.position = true := Claim.isAt_iff.mpr ⟨k, rfl, rfl, rfl⟩
  have hl := State.claimsAt_zero_iff.mp h0 l
  obtain hk | ⟨f, hf, hc, ho⟩ := h
  · have hpos : 0 < (s.lane l).claims.countP fun c => c.isAt k.timer k.position :=
      List.countP_pos_iff.mpr ⟨_, hk, hat⟩
    unfold Lane.claimsAt at hl
    omega
  · rw [Lane.claimsAt_some hf, hc, ho, hat] at hl
    simp at hl

/-- A timer without claims has none at any position. -/
theorem State.Unclaimed.claimsAt {s : State} {i : TimerId} (h : s.Unclaimed i) (p : Nat) : s.claimsAt i p = 0 := by
  refine State.claimsAt_zero_iff.mpr fun l => ?_
  have hc : (s.lane l).claims.countP (fun c => c.isAt i p) = 0 := by
    refine List.countP_eq_zero.mpr fun c hc hat => ?_
    obtain ⟨k, rfl, hi, -⟩ := Claim.isAt_iff.mp hat
    exact (h l).1 k hc hi
  cases hf : (s.lane l).inFlight with
  | none => rw [Lane.claimsAt_none hf, hc]
  | some f =>
    rw [Lane.claimsAt_some hf, hc, if_neg]
    intro hat
    simp only [Bool.and_eq_true, Bool.not_eq_true'] at hat
    obtain ⟨k, hk, hi, -⟩ := Claim.isAt_iff.mp hat.1
    exact (h l).2 f k hf hk hat.2 hi

end Sys2Proof.Machine
end

section
/-!
SUPPORT. What the ages rest on (R20, R78, R79, R101, R104), timer by timer, and what keeps it.
-/

set_option Elab.async false

namespace Sys2Proof.Machine

/-- What the ages of one timer rest on, with `fresh` the positions for which the present tick's posting has not placed a
claim yet. -/
structure State.AgesAt (s : State) (i : TimerId) (fresh : Nat → Prop) : Prop where
  ages : ∀ b, ∀ e ∈ ((s.buffers i).get b).status, e.AgeOk
  once : ∀ p, s.claimsAt i p ≤ 1
  unposted : ∀ p, fresh p → s.Unposted i p → s.claimsAt i p = 0
  blank : ∀ (b : BufId) (p : Nat) (e : Status), (s.buffers i).find .filling = some b →
    ((s.buffers i).get b).status[p]? = some e →
    (s.timer i).mode = .waiting ∨ s.claimsAt i p ≠ 0 ∨ s.Unposted i p → e.Blank

/-- Orphans are of the past (R78, R79). -/
def State.OrphansOk (s : State) : Prop :=
  ∀ l f k, (s.lane l).inFlight = some f → f.claim = .cyclic k → f.orphan = true → s.OrphanPast k

theorem State.agesOk_iff {s : State} : s.AgesOk ↔ (∀ i, s.AgesAt i fun _ => True) ∧ s.OrphansOk := by
  refine ⟨fun ⟨h, ho⟩ => ⟨fun i => ?_, ho⟩, fun ⟨h, ho⟩ => ⟨fun i => ?_, ho⟩⟩
  · obtain ⟨h1, h2, h3⟩ := h i
    have hages : ∀ b, ∀ e ∈ ((s.buffers i).get b).status, e.AgeOk := fun b e he =>
      (h1 b e he).trans Outcome.isGood_iff.symm
    exact ⟨hages, fun p => (h2 p).1, fun p _ => (h2 p).2, fun b p e hb he hc =>
      (hages b e (List.mem_of_getElem? he)).blank (Outcome.isGood_false_iff.mpr (h3 b p e hb he hc))⟩
  · obtain ⟨h1, h2, h3, h4⟩ := h i
    exact ⟨fun b e he => (h1 b e he).trans Outcome.isGood_iff, fun p => ⟨h2 p, h3 p trivial⟩,
      fun b p e hb he hc => Outcome.isGood_false_iff.mp (h4 b p e hb he hc).1⟩

theorem Buffer.Fades.ages {b c : Buffer} (h : b.Fades c) (hb : ∀ e ∈ b.status, e.AgeOk) : ∀ e ∈ c.status, e.AgeOk :=
  fun e he => by
    obtain ⟨p, hp⟩ := List.mem_iff_getElem?.mp he
    exact (h p e hp).elim Status.Blank.ageOk fun hb' => hb e (List.mem_of_getElem? hb')

/-- Elements fade, claims become fewer, and nothing more is to be posted. -/
theorem State.AgesAt.of {s t : State} {i : TimerId} {fresh : Nat → Prop} (hs : s.AgesAt i fresh)
    (hstatus : ∀ b, ((s.buffers i).get b).Fades ((t.buffers i).get b))
    (hfind : (t.buffers i).find .filling = (s.buffers i).find .filling)
    (hclaims : ∀ p, t.claimsAt i p ≤ s.claimsAt i p)
    (hwait : (t.timer i).mode = .waiting → (s.timer i).mode = .waiting)
    (hun : ∀ p, t.Unposted i p → s.Unposted i p) : t.AgesAt i fresh where
  ages b := (hstatus b).ages (hs.ages b)
  once p := (hclaims p).trans (hs.once p)
  unposted p hf hp := Nat.le_zero.mp ((hclaims p).trans (hs.unposted p hf (hun p hp)).le)
  blank b p e hb he hc := by
    refine (hstatus b p e he).elim id fun he' => hs.blank b p e (hfind ▸ hb) he' ?_
    refine hc.imp hwait fun hc => hc.imp (fun h0 => ?_) (hun p)
    have := hclaims p
    omega

/-- A timer without claims, whose FILLING buffer, if there is one, is without a delivery. -/
theorem State.AgesAt.of_unclaimed {t : State} {i : TimerId} {fresh : Nat → Prop}
    (hages : ∀ b, ∀ e ∈ ((t.buffers i).get b).status, e.AgeOk) (hun : t.Unclaimed i)
    (hblank : ∀ b, (t.buffers i).find .filling = some b → ∀ e ∈ ((t.buffers i).get b).status, e.Blank) :
    t.AgesAt i fresh where
  ages := hages
  once p := by rw [hun.claimsAt p]; exact Nat.zero_le 1
  unposted p _ _ := hun.claimsAt p
  blank b p e hb he _ := hblank b hb e (List.mem_of_getElem? he)

/-! ### What is still to be posted -/

theorem State.Unposted.inFrame {s : State} {i : TimerId} {p : Nat} (h : s.Unposted i p) :
    (s.timer i).mode.inFrame = true := h.1

/-- The timer's position, frame and table as they were. -/
theorem State.Unposted.of_calm {s t : State} {i : TimerId} {p : Nat} (h : t.Unposted i p)
    (ht : (s.timer i).mode.inFrame = (t.timer i).mode.inFrame ∧ (s.timer i).closeDue = (t.timer i).closeDue ∧
      (s.timer i).frame = (t.timer i).frame ∧ (s.timer i).round = (t.timer i).round ∧
      (s.timer i).tick = (t.timer i).tick ∧ (s.timer i).posted = (t.timer i).posted)
    (ha : (t.table i).active = (s.table i).active) : s.Unposted i p := by
  obtain ⟨h1, h2, h3, h4, h5, h6⟩ := ht
  obtain ⟨hm, hc, e, he, hd, hp⟩ := h
  refine ⟨h1 ▸ hm, h2 ▸ hc, e, ?_, h3 ▸ hd, by rw [h4, h5, h6]; exact hp⟩
  unfold State.entry at he ⊢
  rw [← ha]; exact he

theorem State.Unposted.of_same {s t : State} {i : TimerId} {p : Nat} (h : t.Unposted i p)
    (ht : t.timer i = s.timer i) (ha : (t.table i).active = (s.table i).active) : s.Unposted i p :=
  h.of_calm (by rw [ht]; exact ⟨rfl, rfl, rfl, rfl, rfl, rfl⟩) ha

/-- What is unposted after a tick of the timer was so before it (R20). -/
theorem State.Unposted.of_tick {s : State} {i : TimerId} {p : Nat}
    (h : State.Unposted { s with timers := ⟨s.timers.a.advance, s.timers.b.advance⟩ } i p) : s.Unposted i p := by
  obtain ⟨hm, hc, e, he, hd, hp⟩ := h
  rw [State.ticked_timer] at hm hc hd hp
  obtain ⟨h1, -, h3, -⟩ := (s.timer i).advance_frame
  rw [h1] at hm
  rw [h3] at hd
  have hmove : (s.timer i).closeDue = false ∧
      ((s.timer i).round < e.round ∨ ((s.timer i).round = e.round ∧ (s.timer i).tick < e.startTick)) := by
    unfold Timer.advance at hc hp
    split at hc
    · next hgo =>
      rw [if_pos hgo] at hp
      simp only [Bool.and_eq_true, Bool.not_eq_true'] at hgo
      refine ⟨hgo.2, ?_⟩
      split at hc
      · next ht =>
        rw [if_pos ht] at hp
        dsimp only at hp
        omega
      · next ht =>
        rw [if_neg ht] at hp
        split at hc
        · next hr => rw [if_pos hr] at hp; dsimp only at hp; omega
        · cases hc
    · next hgo =>
      dsimp only at hc
      simp [hm, hc] at hgo
  exact ⟨hm, hmove.1, e, he, hd, hmove.2.imp_right fun h => ⟨h.1, .inl h.2⟩⟩

/-! ### Steps of one timer, and of lanes -/

/-- A change of one timer's frame: the other one's claims become fewer at most. -/
theorem State.AgesAt.of_one {s t : State} {i : TimerId} {fresh : Nat → Prop} (hs : ∀ j, s.AgesAt j fresh)
    (hi : t.AgesAt i fresh) (hsh : s.Shrinks t)
    (hother : ∀ j, j ≠ i → (∀ b, ((s.buffers j).get b).Fades ((t.buffers j).get b)) ∧ t.heads j = s.heads j ∧
      t.timer j = s.timer j ∧ (t.table j).active = (s.table j).active) (j : TimerId) : t.AgesAt j fresh := by
  by_cases hj : j = i
  · subst hj; exact hi
  · obtain ⟨hb, hh, ht, ha⟩ := hother j hj
    have hfind : (t.buffers j).find .filling = (s.buffers j).find .filling :=
      Three.find_congr fun b => by rw [(Buffer.head_eq (congrFun hh b)).1]
    exact (hs j).of hb hfind (hsh.claimsAt_le j) (by rw [ht]; exact id) fun p hp => hp.of_same ht ha

/-- Elements fade and claims become fewer, with timers and tables as they were. -/
theorem State.AgesAt.of_fades {s t : State} {fresh : Nat → Prop} (hs : ∀ j, s.AgesAt j fresh) (hf : s.Fades t)
    (hclaims : ∀ j p, t.claimsAt j p ≤ s.claimsAt j p) (htimers : t.timers = s.timers) (htables : t.tables = s.tables)
    (j : TimerId) : t.AgesAt j fresh := by
  have ht : t.timer j = s.timer j := by simp only [State.timer, htimers]
  have ha : (t.table j).active = (s.table j).active := by simp only [State.table, htables]
  exact (hs j).of (hf.status j) (State.find_of_heads hf.heads j _) (hclaims j) (by rw [ht]; exact id)
    fun p hp => hp.of_same ht ha

theorem State.AgesAt.of_lanes {s t : State} {fresh : Nat → Prop} (hs : ∀ j, s.AgesAt j fresh)
    (hclaims : ∀ j p, t.claimsAt j p ≤ s.claimsAt j p) (hresults : t.results = s.results)
    (htimers : t.timers = s.timers) (htables : t.tables = s.tables) (j : TimerId) : t.AgesAt j fresh :=
  .of_fades hs (.of_results hresults) hclaims htimers htables j

theorem State.AgesAt.onTimer {s : State} {i : TimerId} {f : Timer → Timer} {fresh : Nat → Prop}
    (hs : ∀ j, s.AgesAt j fresh) (hwait : (f (s.timer i)).mode = .waiting → (s.timer i).mode = .waiting)
    (hun : ∀ p, (s.onTimer i f).Unposted i p → s.Unposted i p) (j : TimerId) : (s.onTimer i f).AgesAt j fresh := by
  have hi : (s.onTimer i f).AgesAt i fresh :=
    (hs i).of (fun _ => .refl _) rfl (fun _ => Nat.le_refl _) (by rw [State.onTimer_timer_same]; exact hwait) hun
  exact .of_one hs hi (.of_lanes rfl)
    (fun j hj => ⟨fun _ => .refl _, rfl, by rw [State.onTimer_timer, if_neg hj], rfl⟩) j

theorem State.fillingFor_find {s : State} {k : CyclicClaim} {b : BufId} (h : s.fillingFor k = some b) :
    (s.buffers k.timer).find .filling = some b := by
  unfold State.fillingFor at h
  split at h
  · split at h <;> simp_all
  · cases h

/-- A claim on a lane is to a position without a delivery. -/
theorem State.AgesAt.undelivered {s : State} {fresh : Nat → Prop} (hs : ∀ j, s.AgesAt j fresh) {l : LaneId}
    {k : CyclicClaim} (h : s.Bears l k) : s.Undelivered k := fun b e hb he => by
  exact (hs k.timer).blank b k.position e (State.fillingFor_find hb) he (.inr (.inl h.claimsAt_ne))

theorem State.AgesAt.undelivered_waiting {s : State} {fresh : Nat → Prop} (hs : ∀ j, s.AgesAt j fresh) (l : LaneId)
    (k : CyclicClaim) (h : Claim.cyclic k ∈ (s.lane l).claims) : s.Undelivered k :=
  State.AgesAt.undelivered hs (l := l) (.inl h)

/-! ### A frame that ends or opens -/

theorem Status.Blank.opened {st : Status} (h : st.Blank) (frame : Time) (commit : Bool) (e : Option ScanEntry) :
    (st.opened frame commit e).Blank := by
  obtain ⟨hg, ha⟩ := h
  refine ⟨?_, ?_⟩
  · cases e with
    | none => rfl
    | some e =>
      simp only [Status.opened]
      split
      · split
        · rfl
        · exact hg
      · rfl
  · simp only [Status.opened]
    split
    · decide
    · exact ha

theorem blank_zipWith_opened {status : List Status} (h : ∀ e ∈ status, e.Blank) (frame : Time) (commit : Bool)
    (table : Table) : ∀ e ∈ status.zipWith (fun st e => st.opened frame commit e) table, e.Blank := fun e he => by
  obtain ⟨p, hp⟩ := List.mem_iff_getElem?.mp he
  rw [List.getElem?_zipWith] at hp
  split at hp
  · next st _ hst _ =>
    cases hp
    exact (h st (List.mem_of_getElem? hst)).opened _ _ _
  · cases hp

theorem Status.aged_blank (st : Status) : st.aged.Blank := by
  refine ⟨rfl, ?_⟩
  simp only [Status.aged]
  omega

theorem Three.close_status (bs : Three Buffer) (b : BufId) : (bs.close.get b).status = (bs.get b).status := by
  unfold Three.close
  split
  · rfl
  · next f hf =>
    split
    · next r hr =>
      have hne : f ≠ r := by rintro rfl; simpa [Three.find_some hf] using Three.find_some hr
      simp only [Three.get_set]
      split
      · next hb => subst hb; rfl
      · split
        · next hb => subst hb; rfl
        · rfl
    · rw [Three.get_set]
      split
      · next hb => subst hb; rfl
      · rfl

/-- The opening of a frame on a buffer prepared without deliveries, of a timer without claims. -/
theorem State.AgesAt.opened {s : State} {i : TimerId} {b : BufId} {fill : Buffer} {frame : Time} {fresh : Nat → Prop}
    (hfill : ∀ e ∈ fill.status, e.Blank) (hmode : fill.mode = .filling)
    (hone : ∀ c, c ≠ b → ((s.buffers i).get c).mode ≠ .filling)
    (hages : ∀ c, c ≠ b → ∀ e ∈ ((s.buffers i).get c).status, e.AgeOk) (hun : s.Unclaimed i) :
    (s.opened i b fill frame).AgesAt i fresh := by
  have hblank := blank_zipWith_opened hfill frame (s.timer i).pendingCommit (s.opensTable i)
  have hun' : (s.opened i b fill frame).Unclaimed i := hun.shrinks (.of_lanes rfl)
  refine .of_unclaimed (fun c e he => ?_) hun' (fun c hc e he => ?_) <;> rw [State.opened_buffers_same] at he
  · rw [Three.get_set] at he
    split at he
    · exact (hblank e he).ageOk
    · next hcb => exact hages c hcb e he
  · rw [State.opened_buffers_same, Three.find_set_only (by exact hmode) hone] at hc
    cases hc
    rw [Three.get_set_same] at he
    exact hblank e he

end Sys2Proof.Machine
end

section
/-!
SUPPORT. Every happening keeps what the ages rest on, and orphans in the past (R20, R78, R79, R101, R104).
-/

set_option Elab.async false

namespace Sys2Proof.Machine

/-! ### Orphans -/

/-- A frame of the timer's run lies before the one in progress, or is at most the last one. -/
def TimerMode.Past (m : TimerMode) (frame last : Time) : Prop :=
  match m with
  | .armed => False
  | .running | .draining => frame.toNat < last.toNat
  | .stopped | .waiting => frame.toNat ≤ last.toNat

theorem State.orphanPast_iff {s : State} {k : CyclicClaim} :
    s.OrphanPast k ↔ k.run.toNat < (s.timer k.timer).run.toNat ∨
      (k.run = (s.timer k.timer).run ∧ (s.timer k.timer).mode.Past k.frame (s.timer k.timer).frame) := by
  unfold State.OrphanPast TimerMode.Past
  dsimp only
  cases (s.timer k.timer).mode <;> rfl

theorem State.OrphanPast.of_timer {s t : State} {k : CyclicClaim} (h : s.OrphanPast k)
    (hm : (t.timer k.timer).mode = (s.timer k.timer).mode) (hr : (t.timer k.timer).run = (s.timer k.timer).run)
    (hf : (t.timer k.timer).frame = (s.timer k.timer).frame) : t.OrphanPast k := by
  rw [State.orphanPast_iff] at h ⊢
  rw [hm, hr, hf]
  exact h

/-- An orphan is no claim of a frame in progress. -/
theorem State.OrphanPast.not_isOf {s : State} {k : CyclicClaim} (h : s.OrphanPast k)
    (hm : (s.timer k.timer).mode.inFrame = true) :
    k.isOf k.timer (s.timer k.timer).run (s.timer k.timer).frame = false := by
  refine Bool.eq_false_iff.mpr fun hof => ?_
  simp only [CyclicClaim.isOf, Bool.and_eq_true, beq_iff_eq] at hof
  obtain ⟨⟨-, hr⟩, hf⟩ := hof
  rw [State.orphanPast_iff, hr, hf] at h
  obtain h | ⟨-, h⟩ := h
  · exact absurd h (Nat.lt_irrefl _)
  · revert h hm
    cases (s.timer k.timer).mode <;> simp [TimerMode.inFrame, TimerMode.Past]

theorem Time.toNat_succ {n : Time} (h : n ≠ 0xFFFFFFFF) : (n + 1).toNat = n.toNat + 1 := by
  have : n.toNat ≠ 4294967295 := fun h' => h (BitVec.eq_of_toNat_eq h')
  bv_omega

theorem Time.not_succ_le {n : Time} (h : n ≠ 0xFFFFFFFF) : ¬ (n + 1).toNat ≤ n.toNat := by
  rw [Time.toNat_succ h]; omega

/-- The outcome of an orphan is discarded: no buffer is FILLING under its identity (R104). -/
theorem State.OrphanPast.fillingFor {s : State} {k : CyclicClaim} (h : s.OrphanPast k) (hb : s.BuffersOk)
    (hi : s.IdentitiesOk) (hwrap : (s.timer k.timer).frame ≠ 0xFFFFFFFF) : s.fillingFor k = none := by
  unfold State.fillingFor
  split
  · next b hfind =>
    split
    · next heq =>
      exfalso
      obtain ⟨hr, hf⟩ := heq
      obtain ⟨hr', hf'⟩ := (hi k.timer).1 b hfind
      have hfill := (hb.serves k.timer).2.2.2
      rw [hfind] at hfill
      rw [State.orphanPast_iff, ← hr, ← hf, hr', hf'] at h
      obtain h | ⟨-, h⟩ := h
      · exact absurd h (Nat.lt_irrefl _)
      · cases hm : (s.timer k.timer).mode <;> rw [hm] at h hfill
        case waiting =>
          rw [if_pos rfl] at h
          exact absurd h (Time.not_succ_le hwrap)
        case running | draining => exact absurd h (by simp [TimerMode.Past])
        all_goals cases hfill
    · rfl
  · rfl

/-- Orphans stay of the past where no new one is made but of the past. -/
theorem State.OrphansOk.of {s t : State} (hs : s.OrphansOk)
    (hnew : ∀ l g k, (t.lane l).inFlight = some g → g.claim = .cyclic k → g.orphan = true →
      (∃ f, (s.lane l).inFlight = some f ∧ f.claim = .cyclic k ∧ f.orphan = true) ∨ t.OrphanPast k)
    (hpast : ∀ k, s.OrphanPast k → t.OrphanPast k) : t.OrphansOk := fun l g k hg hc ho => by
  obtain ⟨f, hf, hfc, hfo⟩ | h := hnew l g k hg hc ho
  · exact hpast k (hs l f k hf hfc hfo)
  · exact h

/-- No transaction is new, and none becomes an orphan. -/
def State.NoNewOrphans (s t : State) : Prop :=
  ∀ l g, (t.lane l).inFlight = some g → g.orphan = true →
    ∃ f, (s.lane l).inFlight = some f ∧ f.claim = g.claim ∧ f.orphan = true

theorem State.NoNewOrphans.of_lanes {s t : State} (h : t.lanes = s.lanes) : s.NoNewOrphans t := fun l g hg ho => by
  simp only [State.lane, h] at hg
  exact ⟨g, hg, rfl, ho⟩

theorem State.NoNewOrphans.of_lane {s t : State} {l : LaneId} (hother : ∀ m, m ≠ l → t.lane m = s.lane m)
    (h : ∀ g, (t.lane l).inFlight = some g → g.orphan = true → (s.lane l).inFlight = some g) :
    s.NoNewOrphans t := fun m g hg ho => by
  by_cases hm : m = l
  · subst hm; exact ⟨g, h g hg ho, rfl, ho⟩
  · rw [hother m hm] at hg; exact ⟨g, hg, rfl, ho⟩

theorem State.OrphansOk.of_timers {s t : State} (hs : s.OrphansOk) (hnew : s.NoNewOrphans t)
    (hpast : ∀ k, s.OrphanPast k → t.OrphanPast k) : t.OrphansOk :=
  hs.of (fun l g k hg hc ho => by
    obtain ⟨f, hf, hfc, hfo⟩ := hnew l g hg ho
    exact .inl ⟨f, hf, hfc.trans hc, hfo⟩) hpast

theorem State.OrphansOk.of_same {s t : State} (hs : s.OrphansOk) (hnew : s.NoNewOrphans t)
    (htimers : t.timers = s.timers) : t.OrphansOk :=
  hs.of_timers hnew fun k h => by
    have ht : t.timer k.timer = s.timer k.timer := by simp only [State.timer, htimers]
    exact h.of_timer (by rw [ht]) (by rw [ht]) (by rw [ht])

/-- One timer changes its frame: the orphans of the other one stay of the past. -/
theorem State.OrphanPast.of_one {s t : State} {i : TimerId} {k : CyclicClaim} (h : s.OrphanPast k)
    (hi : k.timer = i → t.OrphanPast k) (hother : ∀ j, j ≠ i → t.timer j = s.timer j) : t.OrphanPast k := by
  by_cases hk : k.timer = i
  · exact hi hk
  · have ht := hother _ hk
    exact h.of_timer (by rw [ht]) (by rw [ht]) (by rw [ht])

/-- The withdrawal of a timer's claims makes orphans of its frame in progress alone. -/
theorem Lane.without_orphan {x : Lane} {p : Claim → Bool} {g : InFlight} (h : (x.without p).inFlight = some g)
    (ho : g.orphan = true) : ∃ f, x.inFlight = some f ∧ f.claim = g.claim ∧
      (f.orphan = true ∨ (f.orphan = false ∧ p g.claim = true)) := by
  simp only [Lane.without, Option.map_eq_some_iff] at h
  obtain ⟨f, hf, rfl⟩ := h
  refine ⟨f, hf, ?_, ?_⟩
  · split <;> rfl
  · split at ho
    · next hp => cases hfo : f.orphan <;> simp [hp]
    · exact .inl ho

/-- Claims of one timer are withdrawn, and it goes on from a later frame, or has none (R78, R79). -/
theorem State.OrphansOk.without {s t : State} {i : TimerId} {p : Claim → Bool} (hs : s.OrphansOk) (hc : s.ClaimsOk)
    (hp : ∀ k, p (.cyclic k) = true → k.timer = i)
    (hflight : ∀ l, (t.lane l).inFlight = ((s.lane l).without p).inFlight)
    (hother : ∀ j, j ≠ i → t.timer j = s.timer j)
    (hcurrent : ∀ k, k.timer = i → s.Current k → t.OrphanPast k)
    (hpast : ∀ k, k.timer = i → s.OrphanPast k → t.OrphanPast k) : t.OrphansOk := by
  refine hs.of (fun l g k hg hgc ho => ?_) fun k hk => hk.of_one (hpast k · hk) hother
  rw [hflight] at hg
  obtain ⟨f, hf, hfc, ho' | ⟨ho', hpg⟩⟩ := Lane.without_orphan hg ho
  · exact .inl ⟨f, hf, hfc.trans hgc, ho'⟩
  · rw [hgc] at hpg
    exact .inr (hcurrent k (hp k hpg) ((hc l).2 f k hf (hfc.trans hgc) ho'))

/-- Orphans of a timer that stops. -/
theorem State.OrphanPast.stops {s t : State} {k : CyclicClaim} (hmode : (t.timer k.timer).mode = .stopped)
    (hrun : (t.timer k.timer).run = (s.timer k.timer).run)
    (hframe : (t.timer k.timer).frame = (s.timer k.timer).frame) (h : s.OrphanPast k) : t.OrphanPast k := by
  rw [State.orphanPast_iff] at h ⊢
  rw [hmode, hrun, hframe]
  refine h.imp_right fun ⟨hr, hf⟩ => ⟨hr, ?_⟩
  cases hm : (s.timer k.timer).mode <;> rw [hm] at hf
  case armed => exact hf.elim
  case running | draining => exact Nat.le_of_lt hf
  case stopped | waiting => exact hf

/-- A current claim is an orphan of the past once its timer is without a frame in progress. -/
theorem State.Current.past {s t : State} {k : CyclicClaim} (h : s.Current k)
    (hmode : (t.timer k.timer).mode = .stopped ∨ (t.timer k.timer).mode = .waiting)
    (hrun : (t.timer k.timer).run = (s.timer k.timer).run)
    (hframe : (t.timer k.timer).frame = (s.timer k.timer).frame) : t.OrphanPast k := by
  obtain ⟨-, hr, hf⟩ := h
  rw [State.orphanPast_iff, hrun, hframe, hr, hf]
  refine .inr ⟨rfl, ?_⟩
  obtain hm | hm := hmode <;> rw [hm] <;> exact Nat.le_refl _

theorem TimerMode.Past.lt_succ {m : TimerMode} {frame last : Time} (h : m.Past frame last)
    (hwrap : last ≠ 0xFFFFFFFF) : frame.toNat < (last + 1).toNat := by
  rw [Time.toNat_succ hwrap]
  cases m
  case armed => exact h.elim
  case running | draining => exact Nat.lt_succ_of_lt h
  case stopped | waiting => exact Nat.lt_succ_of_le h

/-- Orphans of a timer whose next frame opens. -/
theorem State.OrphanPast.opens {s t : State} {k : CyclicClaim} (hmode : (t.timer k.timer).mode = .running)
    (hrun : (t.timer k.timer).run = (s.timer k.timer).run)
    (hframe : (t.timer k.timer).frame = (s.timer k.timer).frame + 1)
    (hwrap : (s.timer k.timer).frame ≠ 0xFFFFFFFF) (h : s.OrphanPast k) : t.OrphanPast k := by
  rw [State.orphanPast_iff] at h ⊢
  rw [hmode, hrun, hframe]
  exact h.imp_right fun ⟨hr, hf⟩ => ⟨hr, hf.lt_succ hwrap⟩

theorem State.Current.past_opens {s t : State} {k : CyclicClaim} (h : s.Current k)
    (hmode : (t.timer k.timer).mode = .running) (hrun : (t.timer k.timer).run = (s.timer k.timer).run)
    (hframe : (t.timer k.timer).frame = (s.timer k.timer).frame + 1)
    (hwrap : (s.timer k.timer).frame ≠ 0xFFFFFFFF) : t.OrphanPast k := by
  obtain ⟨-, hr, hf⟩ := h
  rw [State.orphanPast_iff, hmode, hrun, hframe, hr, hf]
  refine .inr ⟨rfl, ?_⟩
  change (s.timer k.timer).frame.toNat < _
  rw [Time.toNat_succ hwrap]
  exact Nat.lt_succ_self _

/-- A START begins a run after all orphans (R11). -/
theorem State.OrphanPast.starts {s t : State} {k : CyclicClaim}
    (hrun : (t.timer k.timer).run = (s.timer k.timer).run + 1) (hwrap : (s.timer k.timer).run ≠ 0xFFFF)
    (h : s.OrphanPast k) : t.OrphanPast k := by
  have hle : k.run.toNat ≤ (s.timer k.timer).run.toNat := by
    obtain h | ⟨h, -⟩ := State.orphanPast_iff.mp h
    · exact h.le
    · rw [h]
  have hne : (s.timer k.timer).run.toNat ≠ 65535 := fun h' => hwrap (BitVec.eq_of_toNat_eq h')
  refine State.orphanPast_iff.mpr (.inl ?_)
  rw [hrun]
  bv_omega

/-- The orphans of an ARMED timer, of earlier runs, are so in any other state of the run. -/
theorem State.OrphanPast.of_armed {s t : State} {k : CyclicClaim} (hm : (s.timer k.timer).mode = .armed)
    (hrun : (t.timer k.timer).run = (s.timer k.timer).run) (h : s.OrphanPast k) : t.OrphanPast k := by
  rw [State.orphanPast_iff, hm] at h
  refine State.orphanPast_iff.mpr (.inl ?_)
  rw [hrun]
  exact h.resolve_right fun hp => hp.2

theorem State.nextFrame_timer_same (s : State) (i : TimerId) :
    ((s.nextFrame i).timer i).mode = .running ∧ ((s.nextFrame i).timer i).run = (s.timer i).run ∧
      ((s.nextFrame i).timer i).frame = (s.timer i).frame + 1 := by
  simp [State.nextFrame, State.frameStart_timer_same]

theorem isOfFrame_timer {i : TimerId} {r : Half} {n : Time} (k : CyclicClaim)
    (h : (Claim.cyclic k).isOfFrame i r n = true) : k.timer = i := by
  simp only [Claim.isOfFrame, CyclicClaim.isOf, Bool.and_eq_true, beq_iff_eq] at h
  exact h.1.1

theorem State.NoNewOrphans.of_flights {s t : State} (h : ∀ l, (t.lane l).inFlight = (s.lane l).inFlight) :
    s.NoNewOrphans t := fun l g hg ho => ⟨g, (h l).symm.trans hg, rfl, ho⟩

theorem State.onLane_inFlight (s : State) (l : LaneId) (g : List Claim → List Claim) (m : LaneId) :
    ((s.onLane l fun x => { x with claims := g x.claims }).lane m).inFlight = (s.lane m).inFlight := by
  rw [State.onLane_lane]
  split <;> rfl

theorem State.clearFlight_noNewOrphans (s : State) (l : LaneId) : s.NoNewOrphans (s.clearFlight l) :=
  .of_lane (l := l) (fun m hm => (s.clearFlight_lane l m).1 hm)
    fun g hg => (by rw [(s.clearFlight_lane l l).2.1] at hg; cases hg)

theorem State.NoNewOrphans.trans {s t u : State} (h : s.NoNewOrphans t) (k : t.NoNewOrphans u) : s.NoNewOrphans u :=
  fun l g hg ho => by
    obtain ⟨f, hf, hfc, hfo⟩ := k l g hg ho
    obtain ⟨e, he, hec, heo⟩ := h l f hf hfo
    exact ⟨e, he, hec.trans hfc, heo⟩

theorem State.endTransaction_noNewOrphans (s : State) (l : LaneId) (f : InFlight) (o : Outcome) (d : List Byte) :
    s.NoNewOrphans (s.endTransaction l f o d) := by
  have onClaims : ∀ (u : State) (g : List Claim → List Claim),
      u.NoNewOrphans (u.onLane l fun x => { x with claims := g x.claims }) := fun u g =>
    .of_flights (u.onLane_inFlight l g)
  refine (s.clearFlight_noNewOrphans l).trans ?_
  obtain ⟨k, -, -, -, h⟩ | ⟨tag, a, e, -, -, -, h⟩ | h := s.endTransaction_cases l f o d
  · rw [h]
    exact onClaims _ fun cs => .cyclic { k with attempt := .retry o } :: cs
  · rw [h]
    exact (onClaims _ fun cs => insertAcyclicRetry (.acyclic tag (.retry o)) cs).trans
      (.of_lanes (by simp [State.placeRetry]))
  · rw [h]
    exact .of_lanes (by simp)

/-- Every happening leaves orphans in the past, but for a run or frame number that wraps (R78, R79, R100). -/
theorem State.OrphansOk.effect {s t : State} (h : s.Effect t) (hs : s.OrphansOk) (hc : s.ClaimsOk)
    (hwrap : ∀ i : TimerId, (s.timer i).run ≠ 0xFFFF ∧ (s.timer i).frame ≠ 0xFFFFFFFF) : t.OrphansOk := by
  have onTimer : ∀ {i : TimerId} {f : Timer → Timer},
      (∀ k, k.timer = i → s.OrphanPast k → (s.onTimer i f).OrphanPast k) → (s.onTimer i f).OrphansOk :=
    fun {i f} hi => hs.of_timers (.of_lanes rfl) fun k hk =>
      hk.of_one (hi k · hk) fun j hj => by rw [State.onTimer_timer, if_neg hj]
  cases h with
  | none => exact hs
  | configures =>
    exact onTimer fun k hk h => by
      subst hk
      exact h.of_timer (by simp) (by simp) (by simp)
  | starts hm =>
    exact onTimer fun k hk h => by
      subst hk
      exact h.starts (by simp) (hwrap _).1
  | drains hm =>
    exact onTimer fun k hk h => by
      subst hk
      rw [State.orphanPast_iff] at h ⊢
      rw [hm] at h
      rw [State.onTimer_timer_same]
      exact h
  | @disarms i hm =>
    exact (onTimer (i := i) (f := fun x => x.rest .stopped) fun k hk h => by
      subst hk
      exact h.stops (by rw [State.onTimer_timer_same]; rfl) (by rw [State.onTimer_timer_same]; rfl)
        (by rw [State.onTimer_timer_same]; rfl)).of_same (.of_lanes rfl) rfl
  | @stopsWaiting i hm =>
    rw [State.stopWaiting_eq_stopped]
    have htimer := (s.onBuffers i Three.freeFilling).stopped_timer_same i
    refine hs.of_timers (.of_lanes rfl) fun k hk => hk.of_one (fun hi => ?_)
      fun j hj => State.stopped_timer_other _ hj
    subst hi
    exact hk.stops (by rw [htimer]) (by rw [htimer]; rfl) (by rw [htimer]; rfl)
  | @stopsRunning i hm =>
    rw [State.stopRunning_eq_stopped]
    have hold : ∀ j, (s.withdrawn i).timer j = s.timer j := fun j => by simp [State.timer]
    have htimer := (s.withdrawn i).stopped_timer_same i
    have hrest : ((((s.withdrawn i).stopped i).timer i).mode = .stopped ∧
        (((s.withdrawn i).stopped i).timer i).run = (s.timer i).run ∧
        (((s.withdrawn i).stopped i).timer i).frame = (s.timer i).frame) := by
      rw [htimer, hold]; exact ⟨rfl, rfl, rfl⟩
    obtain ⟨hmode, hrun, hframe⟩ := hrest
    refine hs.without hc (p := fun c => c.isOfTimer i) (i := i) (fun k hk => by simpa [Claim.isOfTimer] using hk)
      (fun l => ?_) (fun j hj => by rw [State.stopped_timer_other _ hj, hold]) (fun k hk h => ?_) (fun k hk h => ?_)
    · rw [← State.withdrawn_lane]; rfl
    · subst hk; exact h.past (.inl hmode) hrun hframe
    · subst hk; exact h.stops hmode hrun hframe
  | commits => exact hs.of_same (.of_lanes (by simp)) (by simp)
  | holds => exact hs.of_same (.of_lanes rfl) rfl
  | releases => exact hs.of_same (.of_lanes rfl) rfl
  | @accepts e =>
    refine hs.of_same (.of_lane (l := e.lane) (fun m hm => State.onLane_lane _ _ _ _ |>.trans (if_neg hm)) ?_) rfl
    intro g hg _
    rw [State.acceptTransact, State.onLane_lane_same] at hg
    exact hg
  | @drops tag e o =>
    refine hs.of_same (.of_flights fun m => ?_) (by simp)
    rw [State.lane, State.dropAcyclic_lanes]
    exact s.onLane_inFlight e.lane (fun cs => cs.filter fun c => !c.hasTag e.tag) m
  | @resolves l o =>
    refine hs.of_same (.of_flights fun m => ?_) (by simp)
    rw [State.resolveAll_lane]
    split <;> rfl
  | resets =>
    intro l f k hf
    rw [State.cleared_lane] at hf
    cases hf
  | @opensFirst _ i hm hu =>
    obtain ⟨bs, -, rfl⟩ := State.firstFrame_some hu
    refine hs.of_timers (.of_lanes (by simp)) fun k hk => hk.of_one (fun hi => ?_)
      fun j hj => State.frameStart_timer_other _ hj
    subst hi
    exact hk.of_armed hm (by rw [State.frameStart_timer_same]; rfl)
  | @opensNext i hm =>
    obtain ⟨hmode, hrun, hframe⟩ := s.nextFrame_timer_same i
    refine hs.of_timers (.of_lanes (by simp [State.nextFrame])) fun k hk => hk.of_one (fun hi => ?_)
      fun j hj => State.nextFrame_timer_other hj
    subst hi
    exact hk.opens hmode hrun hframe (hwrap _).2
  | @drained i hm =>
    have htimer := (s.closeFrame i).stopped_timer_same i
    rw [State.closeFrame_timer] at htimer
    rw [State.drain_eq_stopped]
    refine hs.without hc (p := fun c => c.isOfFrame i (s.timer i).run (s.timer i).frame) isOfFrame_timer (fun l => ?_)
      (fun j hj => by rw [State.stopped_timer_other _ hj, State.closeFrame_timer]) (fun k hk h => ?_) fun k hk h => ?_
    · rw [← State.closeFrame_lane]; rfl
    · subst hk; exact h.past (.inl (by rw [htimer])) (by rw [htimer]) (by rw [htimer])
    · subst hk; exact h.stops (by rw [htimer]) (by rw [htimer]) (by rw [htimer])
  | @waits _ i hm hu =>
    obtain ⟨bs, -, rfl⟩ := State.prepareNext_some hu
    have htimer := State.onTimer_timer_same ((s.closeFrame i).onBuffers i fun _ => bs) i fun x => x.rest .waiting
    rw [State.onBuffers_timer_eq, State.closeFrame_timer] at htimer
    refine hs.without hc (p := fun c => c.isOfFrame i (s.timer i).run (s.timer i).frame) isOfFrame_timer (fun l => ?_)
      (fun j hj => by rw [State.onTimer_timer, if_neg hj]; exact s.closeFrame_timer i j) (fun k hk h => ?_)
      fun k hk h => ?_
    · rw [← State.closeFrame_lane]; rfl
    · subst hk; exact h.past (.inr (by rw [htimer]; rfl)) (by rw [htimer]; rfl) (by rw [htimer]; rfl)
    · subst hk
      rw [State.orphanPast_iff] at h ⊢
      rw [hm] at h
      rw [htimer]
      exact h.imp_right fun ⟨hr, hf⟩ => ⟨hr, Nat.le_of_lt hf⟩
  | @goesOn _ i hm hu =>
    obtain ⟨bs, -, rfl⟩ := State.prepareNext_some hu
    obtain ⟨hmode, hrun, hframe⟩ := ((s.closeFrame i).onBuffers i fun _ => bs).nextFrame_timer_same i
    rw [State.onBuffers_timer_eq, State.closeFrame_timer] at hrun hframe
    refine hs.without hc (p := fun c => c.isOfFrame i (s.timer i).run (s.timer i).frame) isOfFrame_timer (fun l => ?_)
      (fun j hj => by rw [State.nextFrame_timer_other hj]; exact s.closeFrame_timer i j) (fun k hk h => ?_)
      fun k hk h => ?_
    · rw [← State.closeFrame_lane]
      simp [State.nextFrame, State.lane]
    · subst hk; exact h.past_opens hmode hrun hframe (hwrap _).2
    · subst hk; exact h.opens hmode hrun hframe (hwrap _).2
  | @grants l f rest hg =>
    refine hs.of_same (.of_lane (l := l) (fun m hm => by rw [s.granted_lane, if_neg hm]) fun g hgl ho => ?_) (by simp)
    rw [s.granted_lane, if_pos rfl] at hgl
    cases hgl
    rw [(State.grantable_some hg).2.1] at ho
    cases ho
  | @expires l k =>
    refine hs.of_same (.of_flights fun m => ?_) (by simp)
    simp only [State.lane, State.deliverWaiting_frame]
    exact s.onLane_inFlight l (fun cs => cs.erase (.cyclic k)) m
  | ends hf => exact hs.of_same (s.endTransaction_noNewOrphans _ _ _ _) (by simp)
  | ticks =>
    refine hs.of_timers (.of_lanes rfl) fun k hk => ?_
    obtain ⟨h1, h2, h3, -⟩ := (s.timer k.timer).advance_frame
    exact hk.of_timer (by rw [State.ticked_timer, h1]) (by rw [State.ticked_timer, h2]) (by rw [State.ticked_timer, h3])

end Sys2Proof.Machine
end

section
/-!
SUPPORT. Every happening and every posting keeps what the ages rest on, and the statement about the result buffers.
-/

set_option Elab.async false

namespace Sys2Proof.Machine

/-- Every claim and transaction of the frame in progress is to a position without a delivery. -/
theorem State.AgesAt.undelivered_frame {s : State} {fresh : Nat → Prop} (hs : ∀ j, s.AgesAt j fresh)
    (ho : s.OrphansOk) {i : TimerId} (hm : (s.timer i).mode.inFrame = true) (k : CyclicClaim) (h : s.Carries k)
    (hof : k.isOf i (s.timer i).run (s.timer i).frame = true) : s.Undelivered k := by
  have hk : k.timer = i := isOfFrame_timer k hof
  subst hk
  obtain ⟨l, hk | ⟨f, hf, hc⟩⟩ := h
  · exact State.AgesAt.undelivered_waiting hs l k hk
  · refine State.AgesAt.undelivered hs (l := l) (.inr ⟨f, hf, hc, ?_⟩)
    by_contra horph
    have hpast := ho l f k hf hc (by simpa using horph)
    rw [hpast.not_isOf hm] at hof
    cases hof

/-- Steps 1 to 4 of a close leave ages as R101 has them. -/
theorem State.AgesAt.closeFrame {s : State} {fresh : Nat → Prop} (hs : ∀ j, s.AgesAt j fresh) (ho : s.OrphansOk)
    {i : TimerId} (hm : (s.timer i).mode.inFrame = true) :
    (∀ b, ∀ e ∈ (((s.closeFrame i).buffers i).get b).status, e.AgeOk) ∧
      ∀ j, j ≠ i → ∀ b, ((s.buffers j).get b).Fades (((s.closeFrame i).buffers j).get b) := by
  have hf := State.Undelivered.endFrame (State.AgesAt.undelivered_frame hs ho hm)
  refine ⟨fun b e he => ?_, fun j hj b => ?_⟩
  · rw [State.closeFrame_buffers, if_pos rfl, Three.close_status] at he
    exact (hf.status i b).ages ((hs i).ages b) e he
  · rw [State.closeFrame_buffers, if_neg hj]
    exact hf.status j b

theorem Three.freeFilling_ages {bs : Three Buffer} (h : ∀ b, ∀ e ∈ (bs.get b).status, e.AgeOk) :
    ∀ b, ∀ e ∈ (bs.freeFilling.get b).status, e.AgeOk := fun b e he =>
  h b e ((bs.freeFilling_get b).2 ▸ he)

/-- A timer that stops, without claims and without a FILLING buffer. -/
theorem State.AgesAt.stopped {s u : State} {i : TimerId} {fresh : Nat → Prop} (hs : ∀ j, s.AgesAt j fresh)
    (hages : ∀ b, ∀ e ∈ ((u.buffers i).get b).status, e.AgeOk) (hserves : (u.buffers i).Serves .stopped)
    (hun : u.Unclaimed i) (hsh : s.Shrinks u)
    (hother : ∀ j, j ≠ i → (∀ b, ((s.buffers j).get b).Fades ((u.buffers j).get b)) ∧ u.heads j = s.heads j)
    (htimers : u.timers = s.timers) (htables : u.tables = s.tables) (j : TimerId) : (u.stopped i).AgesAt j fresh := by
  have hi : (u.stopped i).AgesAt i fresh :=
    .of_unclaimed hages (hun.shrinks (.of_lanes rfl)) fun b hb => by
      have hnone := hserves.2.2.2
      have hb' : (u.buffers i).find .filling = some b := hb
      rw [hb'] at hnone
      cases hnone
  refine .of_one hs hi (hsh.trans (.of_lanes rfl)) (fun j hj => ⟨(hother j hj).1, (hother j hj).2, ?_, ?_⟩) j
  · rw [State.stopped_timer_other _ hj]; simp only [State.timer, htimers]
  · rw [State.stopped_active_other _ hj]; simp only [State.table, htables]

theorem State.opened_active_other {s : State} {i j : TimerId} (hj : j ≠ i) (b : BufId) (fill : Buffer) (frame : Time) :
    ((s.opened i b fill frame).table j).active = (s.table j).active := by
  simp only [State.opened, State.table]
  split
  · rw [Two.get_set, if_neg hj]
  · rfl

/-- A frame opens on a buffer prepared without deliveries. -/
theorem State.AgesAt.opens {s u : State} {i : TimerId} {b : BufId} {fill : Buffer} {frame : Time} {fresh : Nat → Prop}
    (hs : ∀ j, s.AgesAt j fresh) (hfill : ∀ e ∈ fill.status, e.Blank) (hmode : fill.mode = .filling)
    (hone : ∀ c, c ≠ b → ((u.buffers i).get c).mode ≠ .filling)
    (hages : ∀ c, c ≠ b → ∀ e ∈ ((u.buffers i).get c).status, e.AgeOk) (hun : u.Unclaimed i) (hsh : s.Shrinks u)
    (hother : ∀ j, j ≠ i → (∀ b, ((s.buffers j).get b).Fades ((u.buffers j).get b)) ∧ u.heads j = s.heads j ∧
      u.timer j = s.timer j)
    (htables : u.tables = s.tables) (j : TimerId) : (u.opened i b fill frame).AgesAt j fresh := by
  refine .of_one hs (.opened hfill hmode hone hages hun) (hsh.trans (.of_lanes rfl)) (fun j hj => ?_) j
  obtain ⟨hb, hh, ht⟩ := hother j hj
  rw [State.opened_buffers_other hj, State.opened_heads_other hj, State.opened_timer_other hj,
    State.opened_active_other hj]
  exact ⟨hb, hh, ht, by simp only [State.table, htables]⟩

/-- The only FILLING buffer. -/
theorem Three.Serves.only_filling {bs : Three Buffer} {m : TimerMode} (hs : bs.Serves m) {b : BufId}
    (hb : bs.find .filling = some b) (c : BufId) (hc : c ≠ b) : (bs.get c).mode ≠ .filling := fun h =>
  hc (hs.1 c b h (Three.find_some hb))

/-! ### The end of a transaction -/

theorem State.deliverResult_status {s : State} {k : CyclicClaim} {o : Outcome} {n : Nat} {d : List Byte} {j : TimerId}
    {b : BufId} {p : Nat} {e : Status}
    (h : (((s.deliverResult k o n d).buffers j).get b).status[p]? = some e) :
    ((s.buffers j).get b).status[p]? = some e ∨
      (j = k.timer ∧ p = k.position ∧ s.fillingFor k = some b ∧ ∃ e', ((s.buffers j).get b).status[p]? = some e' ∧
        e = { outcome := o, attempts := n, age := if o.isGood then 0 else e'.age }) := by
  unfold State.deliverResult at h
  split at h
  · next c hc =>
    unfold State.onBuffer at h
    rw [State.onBuffers_buffers] at h
    split at h
    · next hj =>
      subst hj
      rw [Three.get_set] at h
      split at h
      · next hb =>
        subst hb
        rw [Buffer.deliver_status, List.getElem?_modify, Option.map_eq_map, Option.map_eq_some_iff] at h
        obtain ⟨e', he', heq⟩ := h
        split at heq
        · next hp => exact .inr ⟨rfl, hp.symm, hc, e', he', heq.symm⟩
        · subst heq; exact .inl he'
      · exact .inl h
    · exact .inl h
  · exact .inl h

/-- The delivery to a position that has no claim any more and nothing to be posted. -/
theorem State.AgesAt.deliverResult {s : State} {fresh : Nat → Prop} (hs : ∀ j, s.AgesAt j fresh) {k : CyclicClaim}
    (hun : s.Undelivered k) (hwait : (s.timer k.timer).mode ≠ .waiting) (hclaims : s.claimsAt k.timer k.position = 0)
    (hposted : ¬ s.Unposted k.timer k.position) (o : Outcome) (n : Nat) (d : List Byte) (j : TimerId) :
    (s.deliverResult k o n d).AgesAt j fresh := by
  have hfind : ((s.deliverResult k o n d).buffers j).find .filling = (s.buffers j).find .filling :=
    State.find_of_heads (by simp) j _
  have htimer : (s.deliverResult k o n d).timer j = s.timer j := by simp [State.timer]
  have hactive : ((s.deliverResult k o n d).table j).active = (s.table j).active := by simp [State.table]
  have hcount : ∀ p, (s.deliverResult k o n d).claimsAt j p = s.claimsAt j p := fun p => by
    simp [State.claimsAt, State.lane]
  have hpost : ∀ p, (s.deliverResult k o n d).Unposted j p → s.Unposted j p := fun p hp => hp.of_same htimer hactive
  refine ⟨fun b e he => ?_, fun p => (hcount p).trans_le ((hs j).once p),
    fun p hf hp => (hcount p).trans ((hs j).unposted p hf (hpost p hp)), fun b p e hb he hc => ?_⟩
  · obtain ⟨p, hp⟩ := List.mem_iff_getElem?.mp he
    obtain hp | ⟨rfl, rfl, hfill, e', he', rfl⟩ := State.deliverResult_status hp
    · exact (hs j).ages b e (List.mem_of_getElem? hp)
    · have hblank := hun b e' hfill he'
      unfold Status.AgeOk
      cases o.isGood <;> simp [hblank.2]
  · rw [htimer, hcount] at hc
    have hc' := hc.imp_right (Or.imp_right (hpost p))
    obtain hp | ⟨rfl, rfl, -⟩ := State.deliverResult_status he
    · exact (hs j).blank b p e (hfind ▸ hb) hp hc'
    · obtain h | h | h := hc'
      · exact absurd h hwait
      · exact absurd hclaims h
      · exact absurd h hposted

/-- A transaction whose claim is of a frame in progress leaves its position without a claim. -/
theorem State.clearFlight_claimsAt {s : State} {l : LaneId} {f : InFlight} {k : CyclicClaim}
    (hf : (s.lane l).inFlight = some f) (hc : f.claim = .cyclic k) (ho : f.orphan = false)
    (honce : s.claimsAt k.timer k.position ≤ 1) : (s.clearFlight l).claimsAt k.timer k.position = 0 := by
  have hle := fun m => (s.clearFlight_shrinks l m).claimsAt_le k.timer k.position
  have hat : (Claim.cyclic k).isAt k.timer k.position = true := Claim.isAt_iff.mpr ⟨k, rfl, rfl, rfl⟩
  obtain ⟨-, hnone, -⟩ := s.clearFlight_lane l l
  have hlt : ((s.clearFlight l).lane l).claimsAt k.timer k.position <
      (s.lane l).claimsAt k.timer k.position := by
    rw [Lane.claimsAt_none hnone, Lane.claimsAt_some hf, hc, ho, hat]
    exact Nat.lt_succ_of_le (s.clearFlight_shrinks l l).claims.countP_le
  have h0 := hle .l0
  have h1 := hle .l1
  have h2 := hle .l2
  have h3 := hle .l3
  simp only [State.claimsAt, allLanes, List.map_cons, List.map_nil, List.sum_cons, List.sum_nil] at honce ⊢
  cases l <;> omega

/-- A first attempt that comes back as a retry claim counts as it did on the wire. -/
theorem State.clearFlight_retry_claimsAt {s t : State} {l : LaneId} {f : InFlight} {c : Claim}
    (hf : (s.lane l).inFlight = some f) (hsame : ∀ i p, c.isAt i p = true → (f.claim.isAt i p && !f.orphan) = true)
    (hother : ∀ m, m ≠ l → t.lane m = (s.clearFlight l).lane m) (hnone : (t.lane l).inFlight = none)
    (hperm : (t.lane l).claims.Perm (c :: ((s.clearFlight l).lane l).claims)) (i : TimerId) (p : Nat) :
    t.claimsAt i p ≤ s.claimsAt i p := by
  refine State.claimsAt_le fun m => ?_
  by_cases hm : m = l
  · subst hm
    have hle : ((s.clearFlight m).lane m).claims.countP (fun c => c.isAt i p) ≤
        (s.lane m).claims.countP fun c => c.isAt i p := (s.clearFlight_shrinks m m).claims.countP_le
    rw [Lane.claimsAt_none hnone, Lane.claimsAt_some hf, hperm.countP_eq, List.countP_cons]
    refine Nat.add_le_add hle ?_
    split
    · next h => rw [if_pos (hsame i p h)]
    · exact Nat.zero_le _
  · rw [hother m hm]
    exact (s.clearFlight_shrinks l m).claimsAt_le i p

theorem State.AgesAt.ends {s : State} {fresh : Nat → Prop} (hs : ∀ j, s.AgesAt j fresh) (hfresh : ∀ p, fresh p)
    (ho : s.OrphansOk) (hb : s.BuffersOk) (hi : s.IdentitiesOk) (hc : s.ClaimsOk)
    (hwrap : ∀ i : TimerId, (s.timer i).frame ≠ 0xFFFFFFFF) {l : LaneId} {f : InFlight}
    (hf : (s.lane l).inFlight = some f) (o : Outcome) (d : List Byte) (j : TimerId) :
    (s.endTransaction l f o d).AgesAt j fresh := by
  have hfades := State.Undelivered.clearFlight (State.AgesAt.undelivered_waiting hs l)
  have hclear : ∀ j, (s.clearFlight l).AgesAt j fresh :=
    .of_fades hs hfades ((s.clearFlight_shrinks l).claimsAt_le) (by simp) (by simp)
  obtain ⟨k, hk, hor, -, h⟩ | ⟨tag, a, e, hk, -, -, h⟩ | h := s.endTransaction_cases l f o d
  · rw [h, State.placeRetry_cyclic]
    refine .of_fades (t := (s.clearFlight l).onLane l fun x =>
      { x with claims := .cyclic { k with attempt := .retry o } :: x.claims }) hs
      (hfades.trans (.of_results rfl)) ?_ (by simp) (by simp) j
    refine State.clearFlight_retry_claimsAt hf (c := .cyclic { k with attempt := .retry o }) (fun i p hat => ?_)
      (fun m hm => by rw [State.onLane_lane, if_neg hm]) ?_ ?_
    · obtain ⟨_, heq, ht, hp⟩ := Claim.isAt_iff.mp hat
      cases heq
      rw [hk, hor, Claim.isAt_iff.mpr ⟨k, rfl, ht, hp⟩]; rfl
    · rw [State.onLane_lane_same]; exact (s.clearFlight_lane l l).2.1
    · rw [State.onLane_lane_same]
  · rw [h]
    have hlane : ∀ m, State.lane ((s.clearFlight l).placeRetry l o (.acyclic tag (.retry o))) m =
        ((s.clearFlight l).onLane l fun x =>
          { x with claims := insertAcyclicRetry (.acyclic tag (.retry o)) x.claims }).lane m :=
      fun m => by simp only [State.lane, State.placeRetry_acyclic_lanes]
    refine .of_fades hs (hfades.trans (.of_results (by simp))) ?_ (by simp) (by simp) j
    refine State.clearFlight_retry_claimsAt hf (c := .acyclic tag (.retry o)) (fun i p hat => (by cases hat))
      (fun m hm => by rw [hlane, State.onLane_lane, if_neg hm]) ?_ ?_
    · rw [hlane, State.onLane_lane_same]; exact (s.clearFlight_lane l l).2.1
    · rw [hlane, State.onLane_lane_same]; exact insertAcyclicRetry_perm _ _
  · rw [h]
    unfold State.deliverFinal
    split
    · next k hk =>
      have hdel : ∀ j, ((s.clearFlight l).deliverResult k o k.attempt.sent d).AgesAt j fresh := by
        have htimer : ∀ i, (s.clearFlight l).timer i = s.timer i := fun i => by simp [State.timer]
        cases hor : f.orphan with
        | true =>
          have hnone := (ho l f k hf hk hor).fillingFor hb hi (hwrap _)
          rw [← State.fillingFor_of_heads hfades.heads] at hnone
          unfold State.deliverResult
          rw [hnone]
          exact hclear
        | false =>
          have hbears : s.Bears l k := .inr ⟨f, hf, hk, hor⟩
          have hinFrame := ((hc l).2 f k hf hk hor).1
          refine .deliverResult hclear ((State.AgesAt.undelivered hs hbears).fades hfades) ?_
            (State.clearFlight_claimsAt hf hk hor ((hs k.timer).once k.position)) (fun hun => ?_) o _ d
          · rw [htimer]
            intro hwait
            rw [hwait] at hinFrame
            cases hinFrame
          · have hun' : s.Unposted k.timer k.position := hun.of_same (htimer _) (by simp [State.table])
            exact hbears.claimsAt_ne ((hs k.timer).unposted k.position (hfresh _) hun')
      exact .of_lanes hdel (fun i p => by simp [State.claimsAt, State.lane]) (by simp) (by simp) (by simp) j
    · exact .of_lanes hclear (fun i p => by simp [State.claimsAt, State.lane]) (by simp) (by simp) (by simp) j

/-! ### Happenings -/

theorem Buffer.Fades.of_status {b c : Buffer} (h : c.status = b.status) : b.Fades c := fun _ _ he => .inr (h ▸ he)

theorem Lane.claimsAt_append_acyclic (x : Lane) (tag : Half) (a : Attempt) (i : TimerId) (p : Nat) :
    Lane.claimsAt { x with claims := x.claims ++ [.acyclic tag a] } i p = x.claimsAt i p := by
  simp [Lane.claimsAt, Claim.isAt]

/-- A commit applied in WAITING makes the FILLING buffer stale, which has no delivery (R109). -/
theorem State.commitNow_fades {s : State} {i : TimerId}
    (h : (s.timer i).mode = .waiting → ∀ b, (s.buffers i).find .filling = some b →
      ∀ e ∈ ((s.buffers i).get b).status, e.Blank) (j : TimerId) (b : BufId) :
    ((s.buffers j).get b).Fades (((s.commitNow i).buffers j).get b) := by
  unfold State.commitNow
  split
  · next hm =>
    rw [State.onBuffers_buffers]
    split
    · next hj =>
      subst hj
      unfold Three.onFilling
      split
      · next c hc =>
        rw [Three.get_set]
        split
        · next hbc =>
          subst hbc
          intro p e he
          simp only [Buffer.stale, List.getElem?_map, Option.map_eq_some_iff] at he
          obtain ⟨e', he', rfl⟩ := he
          exact .inl ⟨(h hm b hc e' (List.mem_of_getElem? he')).1, fun h => (by cases h)⟩
        · exact .refl _
      · exact .refl _
    · exact .refl _
  · exact .refl _

/-- HOLD, RELEASE: which buffer is FILLING and all status lists stay. -/
theorem State.AgesAt.onBuffers {s : State} {i : TimerId} {f : Three Buffer → Three Buffer} {fresh : Nat → Prop}
    (hs : ∀ j, s.AgesAt j fresh)
    (h : (f (s.buffers i)).find .filling = (s.buffers i).find .filling ∧
      ∀ b, ((f (s.buffers i)).get b).run = ((s.buffers i).get b).run ∧
        ((f (s.buffers i)).get b).frame = ((s.buffers i).get b).frame ∧
        ((f (s.buffers i)).get b).status = ((s.buffers i).get b).status) (j : TimerId) :
    (s.onBuffers i f).AgesAt j fresh := by
  have hi : (s.onBuffers i f).AgesAt i fresh := by
    refine (hs i).of (fun b => ?_) ?_ (fun _ => Nat.le_refl _) id fun p hp => hp.of_same rfl rfl
    · rw [State.onBuffers_buffers_same]; exact .of_status (h.2 b).2.2
    · rw [State.onBuffers_buffers_same]; exact h.1
  exact .of_one hs hi (.of_lanes rfl) (fun j hj =>
    ⟨fun b => (by rw [State.onBuffers_buffers, if_neg hj]; exact .refl _), State.onBuffers_heads_other hj _, rfl,
      rfl⟩) j

/-- A grant moves the head claim from the list to the wire. -/
theorem State.granted_claimsAt {s : State} {l : LaneId} {f : InFlight} {rest : List Claim}
    (h : s.grantable l = some (f, rest)) (i : TimerId) (p : Nat) :
    State.claimsAt
      ((s.onLane l fun x => { x with mode := .busy, claims := rest, inFlight := some f }).markGranted f.claim) i p ≤
      s.claimsAt i p := by
  obtain ⟨hclaims, ho, -⟩ := State.grantable_some h
  refine State.claimsAt_le fun m => ?_
  rw [s.granted_lane]
  split
  · next hm =>
    subst hm
    have hcount : (s.lane m).claims.countP (fun c => c.isAt i p) =
        rest.countP (fun c => c.isAt i p) + if f.claim.isAt i p && !false then 1 else 0 := by
      rw [hclaims, List.countP_cons]; simp
    rw [Lane.claimsAt_some (f := f) rfl, ho]
    exact hcount.symm.trans_le (Nat.le_add_right _ _)
  · exact Nat.le_refl _

/-- Steps 1 to 5 of a close: the prepared buffer is without a delivery (R107). -/
theorem State.AgesAt.prepared {s u : State} {i : TimerId} {fresh : Nat → Prop} (hs : ∀ j, s.AgesAt j fresh)
    (ho : s.OrphansOk) (hb : s.BuffersOk) (hm : (s.timer i).mode = .running)
    (h : (s.closeFrame i).prepareNext i = some u) :
    ∃ g, (u.buffers i).find .filling = some g ∧ (u.buffers i).Serves .running ∧
      (∀ e ∈ ((u.buffers i).get g).status, e.Blank) ∧
      (∀ c, ∀ e ∈ ((u.buffers i).get c).status, e.AgeOk) ∧
      (∀ j, j ≠ i → (∀ b, ((s.buffers j).get b).Fades ((u.buffers j).get b)) ∧ u.heads j = s.heads j) ∧
      u.timers = s.timers ∧ u.tables = s.tables ∧ u.lanes = (s.closeFrame i).lanes := by
  obtain ⟨f, g, hf, hg, rfl, hfill, hserves⟩ := State.closed_prepared (hb.serves i) (by rw [hm]; rfl) h
  obtain ⟨hages, hother⟩ := State.AgesAt.closeFrame hs ho (i := i) (by rw [hm]; rfl)
  have hblank : ∀ e ∈ ((((s.closeFrame i).buffers i).get f).next (s.timer i).run ((s.timer i).frame + 1)).status,
      e.Blank := fun e he => by
    obtain ⟨st, -, rfl⟩ := List.mem_map.mp he
    exact st.aged_blank
  refine ⟨g, hfill, hserves .running rfl, fun e he => ?_, fun c e he => ?_, fun j hj => ⟨fun b => ?_, ?_⟩, by simp,
    by simp, by simp⟩
  · rw [State.onBuffers_buffers_same, Three.get_set_same] at he
    exact hblank e he
  · rw [State.onBuffers_buffers_same, Three.get_set] at he
    split at he
    · exact (hblank e he).ageOk
    · exact hages c e he
  · rw [State.onBuffers_buffers, if_neg hj]
    exact hother j hj b
  · exact (State.onBuffers_heads_other hj _).trans (State.closeFrame_heads_other hj)

/-- Every happening keeps what the ages rest on, but for a frame number that wraps. -/
theorem State.AgesAt.effect {s t : State} (h : s.Effect t) (hs : ∀ j, s.AgesAt j fun _ => True) (ho : s.OrphansOk)
    (hb : s.BuffersOk) (hi : s.IdentitiesOk) (hc : s.ClaimsOk)
    (hwrap : ∀ i : TimerId, (s.timer i).frame ≠ 0xFFFFFFFF) (j : TimerId) : t.AgesAt j fun _ => True := by
  have onTimer : ∀ {i : TimerId} {f : Timer → Timer},
      (f (s.timer i)).mode.inFrame = false → (f (s.timer i)).mode ≠ .waiting →
      (s.onTimer i f).AgesAt j fun _ => True := fun hm hw =>
    State.AgesAt.onTimer hs (fun h => absurd h hw) (fun p hp => by
      have := hp.inFrame
      rw [State.onTimer_timer_same, hm] at this
      cases this) j
  cases h with
  | none => exact hs j
  | configures hm => exact onTimer (by rw [hm]; rfl) (by simp [hm])
  | starts hm => exact onTimer rfl (by simp)
  | drains hm =>
    refine State.AgesAt.onTimer hs (by simp) (fun p hp => ?_) j
    exact hp.of_calm (by rw [State.onTimer_timer_same, hm]; exact ⟨rfl, rfl, rfl, rfl, rfl, rfl⟩) rfl
  | @disarms i hm =>
    have hrest : ∀ j, (s.onTimer i fun x => x.rest .stopped).AgesAt j fun _ => True :=
      State.AgesAt.onTimer hs (by simp [Timer.rest]) fun p hp => by
        have := hp.inFrame
        rw [State.onTimer_timer_same] at this
        cases this
    exact State.AgesAt.of_lanes (t := s.halt i) hrest (fun _ _ => Nat.le_refl _) rfl rfl rfl j
  | @stopsWaiting i hm =>
    rw [State.stopWaiting_eq_stopped]
    refine .stopped (u := s.onBuffers i Three.freeFilling) hs ?_ ?_
      ((hc.unclaimed (by rw [hm]; rfl)).shrinks (.of_lanes rfl)) (.of_lanes rfl)
      (fun j hj => ⟨fun b => ?_, State.onBuffers_heads_other hj _⟩) rfl rfl j
    · rw [State.onBuffers_buffers_same]; exact Three.freeFilling_ages (hs i).ages
    · rw [State.onBuffers_buffers_same]; exact (hb.serves i).freeFilling rfl
    · rw [State.onBuffers_buffers, if_neg hj]; exact .refl _
  | @stopsRunning i hm =>
    have hbuf : ∀ j, (s.withdrawn i).buffers j = (s.onBuffers i Three.freeFilling).buffers j := fun j => by
      simp only [State.buffers, State.withdrawn_frame]
    rw [State.stopRunning_eq_stopped]
    refine .stopped hs ?_ ?_ (s.withdrawn_unclaimed i) (s.withdrawn_shrinks i) (fun j hj => ⟨fun b => ?_, ?_⟩)
      (by simp) (by simp) j
    · rw [hbuf, State.onBuffers_buffers_same]; exact Three.freeFilling_ages (hs i).ages
    · rw [hbuf, State.onBuffers_buffers_same]; exact (hb.serves i).freeFilling rfl
    · rw [hbuf, State.onBuffers_buffers, if_neg hj]; exact .refl _
    · funext b
      unfold State.heads
      rw [hbuf, State.onBuffers_buffers, if_neg hj]
  | @commits i hm =>
    have hfades := State.commitNow_fades (s := s) (i := i) fun hw b hfind e he => by
      obtain ⟨p, hp⟩ := List.mem_iff_getElem?.mp he
      exact (hs i).blank b p e hfind hp (.inl hw)
    have hat : (s.commitNow i).AgesAt i fun _ => True := by
      refine (hs i).of (hfades i) (State.find_of_heads (by simp) i _)
        (State.Shrinks.claimsAt_le (.of_lanes (by simp)) i) (by simp [State.timer]) fun p hp => ?_
      · have := hp.inFrame
        simp only [State.timer, State.commitNow_frame] at this hm
        rw [hm] at this
        cases this
    exact .of_one hs hat (.of_lanes (by simp)) (fun j hj =>
      ⟨hfades j, by simp, by simp [State.timer], State.commitNow_active_other _ hj⟩) j
  | @holds i => exact .onBuffers hs (s.buffers i).hold_filling j
  | @releases i => exact .onBuffers hs (s.buffers i).release_filling j
  | @accepts e =>
    refine State.AgesAt.of_lanes (t := s.acceptTransact e) hs (fun i p => State.claimsAt_le fun m => ?_) rfl rfl rfl j
    rw [State.acceptTransact, State.onLane_lane]
    split
    · exact (Lane.claimsAt_append_acyclic ..).le
    · exact Nat.le_refl _
  | drops => exact .of_lanes hs (s.dropAcyclic_shrinks _ _).claimsAt_le (by simp) (by simp) (by simp) j
  | resolves hg =>
    exact .of_fades hs (State.Undelivered.resolveAll (State.AgesAt.undelivered_waiting hs _) hg)
      (s.resolveAll_shrinks _ _).claimsAt_le (by simp) (by simp) j
  | resets =>
    refine .of_unclaimed (fun b e he => ?_) (fun l => ?_) fun b hfind => ?_
    · rw [State.cleared_buffers] at he
      have : e = Status.reset := by cases b <;> exact List.eq_of_mem_replicate he
      subst this
      unfold Status.AgeOk; decide
    · rw [State.cleared_lane]
      exact ⟨fun k hk => (by cases hk), fun f k hf => (by cases hf)⟩
    · rw [State.cleared_buffers] at hfind
      cases hfind
  | @opensFirst _ i hm hu =>
    obtain ⟨b, hno, hfree⟩ := State.openFirst_isSome hb hm
    rw [State.firstFrame_eq_opened hno hfree] at hu
    cases hu
    refine .opens hs (fun e he => ?_) rfl (fun c _ => Three.find_none.mp hno c) (fun c _ => (hs i).ages c)
      (hc.unclaimed (by rw [hm]; rfl)) (.of_lanes rfl) (fun j _ => ⟨fun _ => .refl _, rfl, rfl⟩) rfl j
    rw [List.eq_of_mem_replicate he]
    exact ⟨rfl, by decide⟩
  | @opensNext i hm =>
    obtain ⟨b, hfind⟩ := (hb.serves i).filling (by rw [hm]; rfl)
    rw [State.nextFrame_eq_opened hfind]
    refine .opens hs (fun e he => ?_) (Three.find_some hfind) ((hb.serves i).only_filling hfind)
      (fun c _ => (hs i).ages c) (hc.unclaimed (by rw [hm]; rfl)) (.of_lanes rfl)
      (fun j _ => ⟨fun _ => .refl _, rfl, rfl⟩) rfl j
    obtain ⟨p, hp⟩ := List.mem_iff_getElem?.mp he
    exact (hs i).blank b p e hfind hp (.inl hm)
  | @drained i hm =>
    obtain ⟨hages, hother⟩ := State.AgesAt.closeFrame hs ho (i := i) (by rw [hm]; rfl)
    rw [State.drain_eq_stopped]
    exact .stopped hs hages (State.closeFrame_serves (hb.serves i) (by rw [hm]; rfl) rfl).1
      (hc.closeFrame_unclaimed i) (s.closeFrame_shrinks i)
      (fun j hj => ⟨hother j hj, State.closeFrame_heads_other hj⟩) (by simp) (by simp) j
  | @waits u i hm hu =>
    obtain ⟨g, hfill, -, hblank, hages, hother, htimers, htables, hlanes⟩ := State.AgesAt.prepared hs ho hb hm hu
    have hat : (u.onTimer i fun x => x.rest .waiting).AgesAt i fun _ => True := by
      refine .of_unclaimed hages ((hc.closeFrame_unclaimed i).shrinks (.of_lanes hlanes)) fun b hfind => ?_
      have hbg : b = g := Option.some.inj (hfind.symm.trans hfill)
      subst hbg
      exact hblank
    refine .of_one hs hat ((s.closeFrame_shrinks i).trans (.of_lanes hlanes))
      (fun j hj => ⟨(hother j hj).1, (hother j hj).2, ?_, ?_⟩) j
    · rw [State.onTimer_timer, if_neg hj]; simp only [State.timer, htimers]
    · simp only [State.table, State.onTimer_tables, htables]
  | @goesOn u i hm hu =>
    obtain ⟨g, hfill, hserves, hblank, hages, hother, htimers, htables, hlanes⟩ :=
      State.AgesAt.prepared hs ho hb hm hu
    rw [State.nextFrame_eq_opened hfill]
    exact .opens hs hblank (Three.find_some hfill) (hserves.only_filling hfill) (fun c _ => hages c)
      ((hc.closeFrame_unclaimed i).shrinks (.of_lanes hlanes)) ((s.closeFrame_shrinks i).trans (.of_lanes hlanes))
      (fun j hj => ⟨(hother j hj).1, (hother j hj).2, by simp only [State.timer, htimers]⟩) htables j
  | grants hg => exact .of_lanes hs (State.granted_claimsAt hg) (by simp) (by simp) (by simp) j
  | @expires l k hk =>
    have hfades : s.Fades (s.onLane l fun x => { x with claims := x.claims.erase (.cyclic k) }) := .of_results rfl
    exact .of_fades hs (hfades.trans (State.Undelivered.deliverWaiting (fun k' hk' => by
      cases hk'; exact (State.AgesAt.undelivered_waiting hs l k hk).fades hfades) rfl l))
      (s.expires_shrinks l k).claimsAt_le (by simp) (by simp) j
  | ends hf => exact State.AgesAt.ends hs (fun _ => trivial) ho hb hi hc hwrap hf _ _ j
  | ticks =>
    refine (hs j).of (fun _ => .refl _) rfl (fun _ => Nat.le_refl _) ?_ fun p hp => hp.of_tick
    rw [State.ticked_timer, (s.timer j).advance_frame.1]
    exact id

/-! ### Postings -/

theorem State.claimsAt_onLane {s : State} {l : LaneId} {f : Lane → Lane} {i : TimerId} {p n : Nat}
    (h : (f (s.lane l)).claimsAt i p = (s.lane l).claimsAt i p + n) :
    (s.onLane l f).claimsAt i p = s.claimsAt i p + n := by
  simp only [State.claimsAt, allLanes, List.map_cons, List.map_nil, List.sum_cons, List.sum_nil, State.onLane_lane_if]
  cases l <;> simp <;> omega

theorem Lane.claimsAt_insertCyclic (x : Lane) (now : Time) (c : CyclicClaim) (i : TimerId) (p : Nat) :
    Lane.claimsAt { x with claims := insertCyclic now c x.claims } i p =
      x.claimsAt i p + if (Claim.cyclic c).isAt i p = true then 1 else 0 := by
  simp only [Lane.claimsAt, (insertCyclic_perm now c x.claims).countP_eq, List.countP_cons]
  omega

/-- A posted claim of a position without a claim, whose entry is due now. -/
theorem State.AgesAt.post {u : State} {i j : TimerId} {fresh : Nat → Prop} (hs : u.AgesAt j fresh) (e : ScanEntry)
    {c : CyclicClaim} (hi : c.timer = i) (hun : u.Undelivered c) (hclaims : u.claimsAt i c.position = 0)
    (hj : j = i → ¬ fresh c.position ∧ u.Unposted i c.position) : (u.post e c).AgesAt j fresh := by
  have htimer : (u.post e c).timer j = u.timer j := by simp [State.timer]
  have hactive : ((u.post e c).table j).active = (u.table j).active := by simp [State.table]
  have hposted : ∀ p, (u.post e c).Unposted j p → u.Unposted j p := fun p hp => hp.of_same htimer hactive
  obtain ⟨hl, hr⟩ | ⟨hl, o, ho, hr⟩ | h := u.post_cases e c
  · have hcount : ∀ p, (u.post e c).claimsAt j p =
        u.claimsAt j p + if j = i ∧ p = c.position then 1 else 0 := fun p => by
      have hlanes : (u.post e c).claimsAt j p = (u.enlist e.lane c).claimsAt j p := by
        simp only [State.claimsAt, State.lane, hl]
      rw [hlanes, State.enlist]
      refine State.claimsAt_onLane ?_
      rw [Lane.claimsAt_insertCyclic]
      refine congrArg _ (if_congr ?_ rfl rfl)
      rw [Claim.isAt_iff, ← hi]
      constructor
      · rintro ⟨_, heq, rfl, rfl⟩; cases heq; exact ⟨rfl, rfl⟩
      · rintro ⟨rfl, rfl⟩; exact ⟨c, rfl, rfl, rfl⟩
    have hbuf : (u.post e c).buffers = u.buffers := by unfold State.buffers; rw [hr]
    refine ⟨by rw [hbuf]; exact hs.ages, fun p => ?_, fun p hf hp => ?_, fun b p e' hb he hc => ?_⟩
    · rw [hcount]
      split
      · next h => obtain ⟨rfl, rfl⟩ := h; rw [hclaims]
      · exact hs.once p
    · rw [hcount, if_neg, hs.unposted p hf (hposted p hp)]
      rintro ⟨rfl, rfl⟩
      exact (hj rfl).1 hf
    · rw [hbuf] at hb he
      rw [htimer, hcount] at hc
      refine hs.blank b p e' hb he ?_
      split at hc
      · next h => obtain ⟨rfl, rfl⟩ := h; exact .inr (.inr (hj rfl).2)
      · exact hc.imp_right (Or.imp_right (hposted p))
  · have hf : u.Fades (u.post e c) := (hun.deliverResult ho c.attempt.waited []).trans (.of_results hr)
    exact hs.of (hf.status j) (State.find_of_heads hf.heads j _)
      (State.Shrinks.claimsAt_le (.of_lanes hl) j) (by rw [htimer]; exact id) hposted
  · rw [h]; exact hs

/-- The positions of the due entries ascend (R20). -/
theorem dueEntries_pairwise (x : Timer) (n : Nat) (table : Table) :
    ((dueEntries x n table).map Prod.fst).Pairwise (· < ·) ∧ ∀ p ∈ (dueEntries x n table).map Prod.fst, n ≤ p := by
  induction table generalizing n with
  | nil => exact ⟨.nil, fun _ h => by cases h⟩
  | cons a rest ih =>
    obtain ⟨hp, hle⟩ := ih (n + 1)
    have hrest : ((dueEntries x (n + 1) rest).map Prod.fst).Pairwise (· < ·) ∧
        ∀ p ∈ (dueEntries x (n + 1) rest).map Prod.fst, n ≤ p := ⟨hp, fun p h => Nat.le_of_succ_le (hle p h)⟩
    cases a with
    | none => exact hrest
    | some e =>
      unfold dueEntries
      split
      · rw [List.map_cons]
        exact ⟨.cons hle hp, List.forall_mem_cons.mpr ⟨Nat.le_refl n, hrest.2⟩⟩
      · exact hrest

theorem mem_dueEntries_unposted {s : State} {i : TimerId} {position : Nat} {e : ScanEntry}
    (h : (position, e) ∈ dueEntries (s.timer i) 0 (s.table i).active) (hm : (s.timer i).mode.inFrame = true)
    (hc : (s.timer i).closeDue = false) (hp : (s.timer i).posted = false) : s.Unposted i position := by
  obtain ⟨-, -, hst⟩ := mem_dueEntries.mp h
  simp only [Timer.starts, Bool.and_eq_true, beq_iff_eq] at hst
  obtain ⟨⟨hr, ht⟩, hd⟩ := hst
  exact ⟨hm, hc, e, mem_dueEntries_entry h, hd, .inr ⟨hr.symm, .inr ⟨ht.symm, hp⟩⟩⟩

/-- What is unposted once the tick's posting is marked as done was not due at it. -/
theorem State.Unposted.of_mark {s : State} {i : TimerId} {p : Nat}
    (h : (s.onTimer i fun x => { x with posted := true }).Unposted i p) :
    s.Unposted i p ∧ p ∉ (dueEntries (s.timer i) 0 (s.table i).active).map Prod.fst := by
  obtain ⟨hm, hc, e, he, hd, hp⟩ := h
  rw [State.onTimer_timer_same] at hm hc hd hp
  have hp' : (s.timer i).round < e.round ∨ ((s.timer i).round = e.round ∧ (s.timer i).tick < e.startTick) := by
    simpa using hp
  refine ⟨⟨hm, hc, e, he, hd, hp'.imp_right fun h => ⟨h.1, .inl h.2⟩⟩, fun hmem => ?_⟩
  obtain ⟨⟨q, e'⟩, hq, rfl⟩ := List.mem_map.mp hmem
  have he' : s.entry i q = some e' := mem_dueEntries_entry hq
  have hee : e = e' := Option.some.inj ((show s.entry i q = some e from he).symm.trans he')
  obtain ⟨-, -, hst⟩ := mem_dueEntries.mp hq
  simp only [Timer.starts, Bool.and_eq_true, beq_iff_eq] at hst
  subst hee
  omega

theorem State.AgesAt.mono {s : State} {i : TimerId} {fresh fresh' : Nat → Prop} (h : s.AgesAt i fresh)
    (hf : ∀ p, fresh' p → fresh p) : s.AgesAt i fresh' :=
  ⟨h.ages, h.once, fun p hp => h.unposted p (hf p hp), h.blank⟩

/-- The posting of a tick is marked as done. -/
theorem State.AgesAt.mark {s v : State} {i : TimerId} (htimers : v.timers = s.timers) (htables : v.tables = s.tables)
    (ho : ∀ j, j ≠ i → v.AgesAt j fun _ => True)
    (hi : v.AgesAt i fun p => p ∉ (dueEntries (s.timer i) 0 (s.table i).active).map Prod.fst) (j : TimerId) :
    (v.onTimer i fun x => { x with posted := true }).AgesAt j fun _ => True := by
  by_cases hj : j = i
  · subst hj
    refine ⟨hi.ages, hi.once, fun p _ hp => ?_, fun b p e hb he hc => ?_⟩
    · obtain ⟨hun, hdue⟩ := hp.of_mark
      simp only [State.timer, State.table, htimers, htables] at hdue
      exact hi.unposted p hdue hun
    · rw [State.onTimer_timer_same] at hc
      exact hi.blank b p e hb he (hc.imp_right (Or.imp_right fun hp => hp.of_mark.1))
  · have ht : (v.onTimer i fun x => { x with posted := true }).timer j = v.timer j := by
      rw [State.onTimer_timer, if_neg hj]
    exact (ho j hj).of (fun _ => .refl _) rfl (fun _ => Nat.le_refl _) (by rw [ht]; exact id)
      fun p hp => hp.of_same ht rfl

/-- The posting of all due claims: each is the first of its position (R20). -/
theorem State.AgesAt.postAll {s : State} {i : TimerId} (hs : ∀ j, s.AgesAt j fun _ => True)
    (hm : (s.timer i).mode.inFrame = true) (hc : (s.timer i).closeDue = false) (hp : (s.timer i).posted = false)
    (j : TimerId) : (s.postAll i).AgesAt j fun _ => True := by
  have fold : ∀ (due : List (Nat × ScanEntry)) (u : State), u.timers = s.timers → u.tables = s.tables →
      (∀ q ∈ due, q ∈ dueEntries (s.timer i) 0 (s.table i).active) → (due.map Prod.fst).Nodup →
      (∀ j, j ≠ i → u.AgesAt j fun _ => True) →
      u.AgesAt i (fun p => p ∈ due.map Prod.fst ∨ p ∉ (dueEntries (s.timer i) 0 (s.table i).active).map Prod.fst) →
      let v := due.foldl (fun u q => u.post q.2 (u.claimFor i q.1 q.2)) u
      v.timers = s.timers ∧ v.tables = s.tables ∧ (∀ j, j ≠ i → v.AgesAt j fun _ => True) ∧
        v.AgesAt i fun p => p ∉ (dueEntries (s.timer i) 0 (s.table i).active).map Prod.fst := by
    intro due
    induction due with
    | nil => exact fun u ht htab _ _ ho hi => ⟨ht, htab, ho, hi.mono fun p hp => .inr hp⟩
    | cons q due ih =>
      intro u ht htab hdue hnodup ho hi
      have hq : q ∈ dueEntries (s.timer i) 0 (s.table i).active := hdue q (List.mem_cons_self ..)
      rw [List.map_cons, List.nodup_cons] at hnodup
      have htimer : u.timer i = s.timer i := by simp only [State.timer, ht]
      have htable : u.table i = s.table i := by simp only [State.table, htab]
      have hun : u.Unposted i q.1 := mem_dueEntries_unposted (e := q.2) (by rw [htimer, htable]; exact hq)
        (by rw [htimer]; exact hm) (by rw [htimer]; exact hc) (by rw [htimer]; exact hp)
      have hzero : u.claimsAt i q.1 = 0 := hi.unposted _ (.inl (List.mem_cons_self ..)) hun
      have hdel : u.Undelivered (u.claimFor i q.1 q.2) := fun b e hb he =>
        hi.blank b q.1 e (State.fillingFor_find hb) he (.inr (.inr hun))
      refine ih (u.post q.2 (u.claimFor i q.1 q.2)) (by simpa using ht) (by simpa using htab)
        (fun r hr => hdue r (List.mem_cons_of_mem _ hr)) hnodup.2 (fun j hj => ?_) ?_
      · exact (ho j hj).post q.2 rfl hdel hzero fun h => absurd h hj
      · refine State.AgesAt.post (hi.mono fun p hp => hp.imp_left (List.mem_cons_of_mem _)) q.2 rfl hdel hzero
          fun _ => ⟨fun h => ?_, hun⟩
        obtain h | h := h
        · exact hnodup.1 h
        · exact h (List.mem_map_of_mem hq)
  obtain ⟨ht, htab, ho, hi⟩ := fold (dueEntries (s.timer i) 0 (s.table i).active) s rfl rfl (fun _ h => h)
    ((dueEntries_pairwise _ _ _).1.imp fun h => (Nat.ne_of_lt h)) (fun j _ => hs j) ((hs i).mono fun _ _ => trivial)
  exact State.AgesAt.mark ht htab ho hi j

/-- Every posting keeps what the ages rest on. -/
theorem State.AgesAt.posts {s t : State} (h : s.Posts t) (hs : ∀ j, s.AgesAt j fun _ => True) (j : TimerId) :
    t.AgesAt j fun _ => True := by
  obtain rfl | ⟨i, hm, hc, hp, rfl⟩ := h
  · exact hs j
  · exact State.AgesAt.postAll hs hm hc hp j

theorem State.AgesAt.calm {s t : State} (h : s.Calm t) (hs : ∀ j, s.AgesAt j fun _ => True) (j : TimerId) :
    t.AgesAt j fun _ => True := by
  have hf : s.Fades t := .of_results h.results
  have hx := h.timers j
  exact (hs j).of (hf.status j) (State.find_of_heads hf.heads j _) ((State.Shrinks.calm h).claimsAt_le j)
    (by rw [hx.mode]; exact id) fun p hp =>
      hp.of_calm ⟨by rw [hx.mode], hx.closeDue.symm, hx.frame.symm, hx.round.symm, hx.tick.symm, hx.posted.symm⟩
        (h.active j)

/-! ### Every step -/

theorem State.OrphansOk.calm {s t : State} (h : s.Calm t) (hs : s.OrphansOk) : t.OrphansOk :=
  hs.of_timers (fun l g hg ho => by
    have hk := h.flight l
    rw [hg, Option.map_some] at hk
    obtain ⟨f, hf, hkey⟩ := Option.map_eq_some_iff.mp hk.symm
    simp only [InFlight.key, Prod.mk.injEq] at hkey
    exact ⟨f, hf, hkey.1, hkey.2.trans ho⟩)
    fun k hk => hk.of_timer (h.timers _).mode (h.timers _).run (h.timers _).frame

theorem State.OrphansOk.posts {s t : State} (h : s.Posts t) (hs : s.OrphansOk) : t.OrphansOk := by
  obtain rfl | ⟨i, -, -, -, rfl⟩ := h
  · exact hs
  · refine State.postAll_keeps hs (fun u position e ht _ _ hu => ?_) fun u _ hu => ?_
    · refine hu.of_same ?_ (by simp)
      obtain ⟨hl, -⟩ | ⟨hl, -⟩ | h := u.post_cases e (s.claimFor i position e)
      · refine .of_flights fun m => ?_
        rw [State.lane, hl]
        exact u.onLane_inFlight e.lane (fun cs => insertCyclic u.time _ cs) m
      · exact .of_lanes hl
      · rw [h]; exact .of_lanes rfl
    · refine hu.of_timers (.of_lanes rfl) fun k hk => hk.of_one (i := i) (fun hi => ?_)
        fun j hj => by rw [State.onTimer_timer, if_neg hj]
      subst hi
      exact hk.of_timer (by simp) (by simp) (by simp)

/-- Settles O39: what a step does, taken apart into quiet changes, a happening and a posting (`step_does`), keeps the
buffers of each timer and what the ages rest on. -/
theorem buffersKept : Obligations.BuffersKept := by
  intro s t hb h
  obtain hdoes := step_does h
  have hkeep := fun i => hdoes.keepsBuffers i (hb.serves i)
  refine ⟨fun i => (hkeep i).1, fun hi i => (hkeep i).2 (hi i), fun hi hc ha hwrap => ?_⟩
  obtain ⟨hages, horph⟩ := State.agesOk_iff.mp ha
  obtain ⟨u, v, w, hu, hv, hw, ht⟩ := hdoes
  have hub : u.BuffersOk := fun i => (hu.keepsBuffers i (hb.serves i)).1
  have hui : u.IdentitiesOk := fun i => (hu.keepsBuffers i (hb.serves i)).2 (hi i)
  have hwrap' : ∀ i : TimerId, (u.timer i).run ≠ 0xFFFF ∧ (u.timer i).frame ≠ 0xFFFFFFFF := fun i => by
    rw [(hu.timers i).run, (hu.timers i).frame]; exact hwrap i
  have hua := State.AgesAt.calm hu hages
  have huo := horph.calm hu
  have hva := State.AgesAt.effect hv hua huo hub hui (hc.calm hu) fun i => (hwrap' i).2
  have hvo := huo.effect hv (hc.calm hu) hwrap'
  exact State.agesOk_iff.mpr ⟨State.AgesAt.calm ht (State.AgesAt.posts hw hva), (hvo.posts hw).calm ht⟩

end Sys2Proof.Machine
end

section
/-! SUPPORT. The posting of claims (R20, R21, R67, R68, R93). -/

set_option Elab.async false

namespace Sys2Proof.Machine

/-! ### The order of cyclic claims -/

/-- One claim stands before another: an earlier deadline, then timer A before B, then the lower position (R67). -/
theorem CyclicClaim.before_iff {now : Time} {c d : CyclicClaim} :
    c.before now d = true ↔ deadlineRank now c.deadline < deadlineRank now d.deadline ∨
      (deadlineRank now c.deadline = deadlineRank now d.deadline ∧
        ((timerCode c.timer).toNat < (timerCode d.timer).toNat ∨
          ((timerCode c.timer).toNat = (timerCode d.timer).toNat ∧ c.position < d.position))) := by
  unfold CyclicClaim.before
  cases c.timer <;> cases d.timer <;> simp [timerCode]

theorem CyclicClaim.before_asymm {now : Time} {c d : CyclicClaim} (h : c.before now d = true) :
    d.before now c = false := by
  refine Bool.eq_false_iff.mpr fun h' => ?_
  rw [CyclicClaim.before_iff] at h h'
  omega

theorem CyclicClaim.before_trans {now : Time} {c d e : CyclicClaim} (h : c.before now d = true)
    (h' : d.before now e = true) : c.before now e = true := by
  rw [CyclicClaim.before_iff] at h h' ⊢
  omega

theorem Claim.retry_mayPrecede {now : Time} {d : CyclicClaim} {o : Outcome} (h : d.attempt = .retry o) (c : Claim) :
    (Claim.cyclic d).MayPrecede now c := by
  cases c with
  | cyclic k => simp [Claim.MayPrecede, h]
  | acyclic => trivial

theorem Claim.first_mayPrecede {now : Time} {c d : CyclicClaim} (hc : c.attempt = .first) (hd : d.attempt = .first) :
    (Claim.cyclic c).MayPrecede now (.cyclic d) ↔ d.before now c = false := by
  simp [Claim.MayPrecede, hc, hd]

theorem Claim.not_first_mayPrecede {now : Time} {c d : CyclicClaim} {o : Outcome} (hc : c.attempt = .first)
    (hd : d.attempt = .retry o) : ¬ (Claim.cyclic c).MayPrecede now (.cyclic d) := by
  simp [Claim.MayPrecede, hc, hd]

/-- What may stand behind a claim may stand behind one that is before it. -/
theorem Claim.mayPrecede_of_before {now : Time} {c d : CyclicClaim} (hc : c.attempt = .first)
    (hd : d.attempt = .first) (hcd : c.before now d = true) {e : Claim} (h : (Claim.cyclic d).MayPrecede now e) :
    (Claim.cyclic c).MayPrecede now e := by
  cases e with
  | acyclic => trivial
  | cyclic k =>
    cases hk : k.attempt with
    | retry o => exact absurd h (Claim.not_first_mayPrecede hd hk)
    | first =>
      rw [Claim.first_mayPrecede hd hk] at h
      rw [Claim.first_mayPrecede hc hk]
      refine Bool.eq_false_iff.mpr fun hkc => ?_
      rw [CyclicClaim.before_trans hkc hcd] at h
      cases h

/-- A claim of attempt 1 enters a list in order at its place (R67). -/
theorem insertCyclic_pairwise {now : Time} {c : CyclicClaim} (hc : c.attempt = .first) {claims : List Claim}
    (h : claims.Pairwise (Claim.MayPrecede now)) : (insertCyclic now c claims).Pairwise (Claim.MayPrecede now) := by
  induction claims with
  | nil => exact List.pairwise_singleton _ _
  | cons a rest ih =>
    obtain ⟨ha, hrest⟩ := List.pairwise_cons.mp h
    have behind : a.MayPrecede now (.cyclic c) → (a :: insertCyclic now c rest).Pairwise (Claim.MayPrecede now) :=
      fun hac => List.pairwise_cons.mpr ⟨fun b hb => (by
        obtain rfl | hb := mem_insertCyclic.mp hb
        · exact hac
        · exact ha b hb), ih hrest⟩
    have before : (∀ b ∈ a :: rest, (Claim.cyclic c).MayPrecede now b) →
        (.cyclic c :: a :: rest).Pairwise (Claim.MayPrecede now) := fun hb => List.pairwise_cons.mpr ⟨hb, h⟩
    cases a with
    | acyclic tag a =>
      refine before fun b hb => ?_
      obtain rfl | hb := List.mem_cons.mp hb
      · trivial
      · have hab := ha b hb
        cases b with
        | acyclic => trivial
        | cyclic => exact hab.elim
    | cyclic d =>
      unfold insertCyclic
      split
      · next o hd => exact behind (Claim.retry_mayPrecede hd _)
      · next hd =>
        split
        · next hcd =>
          refine before fun b hb => ?_
          obtain rfl | hb := List.mem_cons.mp hb
          · exact (Claim.first_mayPrecede hc hd).mpr (CyclicClaim.before_asymm hcd)
          · exact Claim.mayPrecede_of_before hc hd hcd (ha b hb)
        · next hcd => exact behind ((Claim.first_mayPrecede hd hc).mpr (Bool.eq_false_iff.mpr hcd))

/-! ### The due entries -/

theorem Phase.due_iff {p : Phase} {frame : Time} :
    p.due frame = true ↔
      match p with
      | .every => True
      | .even => frame.toNat % 2 = 0
      | .odd => frame.toNat % 2 = 1
      | .nth d k => frame.toNat % d = k := by
  cases p <;> simp [Phase.due]

/-- The claims a posting places are those of the state it begins in. -/
theorem State.postAll_eq (s : State) (i : TimerId) :
    s.postAll i =
      ((dueEntries (s.timer i) 0 (s.table i).active).foldl (fun u p => u.post p.2 (s.claimFor i p.1 p.2)) s).onTimer i
        fun x => { x with posted := true } := by
  have fold : ∀ (due : List (Nat × ScanEntry)) (u : State), u.timers = s.timers →
      due.foldl (fun u p => u.post p.2 (u.claimFor i p.1 p.2)) u =
        due.foldl (fun u p => u.post p.2 (s.claimFor i p.1 p.2)) u := by
    intro due
    induction due with
    | nil => exact fun _ _ => rfl
    | cons p due ih =>
      intro u hu
      rw [List.foldl_cons, List.foldl_cons, State.claimFor_congr hu]
      exact ih _ (by simpa using hu)
  unfold State.postAll
  rw [fold _ s rfl]

/-! ### The lane's decision -/

theorem State.setNode_self {s : State} {l : LaneId} {node : Nat} (h : node ≤ (s.roster.get l).length)
    (hn : node ≠ 0) : s.setNode l node (s.node l node) = s := by
  have hlt : node - 1 < (s.roster.get l).length := by omega
  have hset : (s.roster.get l).set (node - 1) ((s.roster.get l).getD (node - 1) .reset) = s.roster.get l := by
    rw [List.getD_eq_getElem _ _ hlt, List.set_getElem_self]
  simp only [State.setNode, State.node, hset, Four.set_get]

/-- A node that is not SILENT is polled (R93). -/
theorem NodeRecord.query_of_not_silent {r : NodeRecord} (h : r.mode ≠ .silent) (c : LaneConfig) :
    r.query c = (false, r) := by
  unfold NodeRecord.query
  split
  · next hm _ => exact absurd hm h
  · rfl

theorem NodeRecord.query_of_silent {r : NodeRecord} {k : Nat} (h : r.mode = .silent) (hk : r.countdown = some k)
    (c : LaneConfig) :
    r.query c =
      if 1 < k then (true, { r with countdown := some (k - 1) })
      else (false, { r with countdown := some c.probeInterval }) := by
  unfold NodeRecord.query
  rw [h, hk]

theorem State.post_of_carrying {s : State} {e : ScanEntry} (c : CyclicClaim)
    (h : (s.lane e.lane).mode = .ready ∨ (s.lane e.lane).mode = .busy) : s.post e c = s.postToLane e.lane e.node c := by
  unfold State.post
  obtain h | h := h <;> rw [h]

/-- A lane that carries claims takes one to a node that is not SILENT (R68). -/
theorem State.postToLane_of_not_silent {s : State} {l : LaneId} {node : Nat} (c : CyclicClaim)
    (h : node = 0 ∨ (s.node l node).mode ≠ .silent) (hlen : node ≤ (s.roster.get l).length) :
    s.postToLane l node c = s.enlist l c := by
  unfold State.postToLane
  split
  · rfl
  · next hn =>
    rw [NodeRecord.query_of_not_silent (h.resolve_left hn)]
    simp [State.setNode_self hlen hn]

theorem State.postToLane_of_silent {s : State} {l : LaneId} {node k : Nat} (c : CyclicClaim) (hn : node ≠ 0)
    (h : (s.node l node).mode = .silent) (hk : (s.node l node).countdown = some k) :
    s.postToLane l node c =
      if 1 < k then
        (s.setNode l node { s.node l node with countdown := some (k - 1) }).deliverWaiting l .suppressed (.cyclic c)
      else
        (s.setNode l node { s.node l node with countdown := some (s.lane l).config.probeInterval }).enlist l c := by
  unfold State.postToLane
  rw [if_neg hn, NodeRecord.query_of_silent h hk]
  split <;> rfl

/-- Settles O20: which claims are posted and in which order, where a claim enters its list, and what its lane
decides. -/
theorem postClaimsPostsDueEntries : Obligations.PostClaimsPostsDueEntries := by
  refine ⟨fun s i hr hm hc hp => ?_, fun s i => s.postAll_eq i, fun x table => ⟨?_, fun position e => ?_⟩,
    fun now c claims hc h => ⟨insertCyclic_pairwise hc h, insertCyclic_perm now c claims⟩,
    fun s e c _ => ⟨fun hl hn hlen he => ?_, fun k hl hn hs hk h1 => ?_, fun hl hn hs hk => ?_, fun hl => ?_,
      fun hl => ?_⟩⟩
  · have hgo : s.mayPost i = true := by simp [State.mayPost, hr, hm, hc, hp]
    change execPostClaims i s = _
    rw [execPostClaims, if_pos hgo]
  · exact (dueEntries_pairwise x 0 table).1
  · rw [mem_dueEntries, Nat.sub_zero, Timer.starts, Bool.and_eq_true, Bool.and_eq_true, Phase.due_iff, beq_iff_eq,
      beq_iff_eq, and_assoc]
    exact ⟨fun h => h.2, fun h => ⟨Nat.zero_le _, h⟩⟩
  · rw [State.post_of_carrying c hl, State.postToLane_of_not_silent c hn (by omega)]
    rfl
  · rw [State.post_of_carrying c hl, State.postToLane_of_silent c hn hs hk, if_pos h1]
  · rw [State.post_of_carrying c hl, State.postToLane_of_silent c hn hs hk]
    rfl
  · unfold State.post
    obtain h | h | h := hl <;> rw [h]
  · unfold State.post
    rw [hl]

end Sys2Proof.Machine
end

section
/-!
SUPPORT. How a ready request is answered (R160), what the roster hears of claims that leave a list together (R75, R78,
R79), and STOP.
-/

set_option Elab.async false

namespace Sys2Proof.Machine

/-! ### Requests that are ready -/

/-- The state in which the owner of a taken request acts: the request has left its queue. -/
def State.taken (s : State) : State := { s with link := { s.link with requests := s.link.requests.tail } }

/-- A ready request is answered with what its owner makes of the state, whose message controller it leaves alone. -/
theorem State.serve_replied {s u : State} {seq kind : Byte} {p fields : List Byte} {code : ReplyCode}
    {owner : State → State × Answer} (hr : s.ready (requestOf seq kind p) = true)
    (h : owner s.taken = (u.taken, { code := code, fields := fields })) :
    s.serve seq kind p owner = u.replied (requestOf seq kind p) code fields := by
  rw [State.serve_ready _ hr]
  change (owner s.taken).1.answer _ (owner s.taken).2 = _
  rw [h]
  rfl

@[simp] theorem timerOf_timerCode (t : TimerId) : timerOf (timerCode t).toNat = some t := by
  cases t <;> rfl

theorem timerOf_none {n : Nat} (h : 1 < n) : timerOf n = none := by
  match n with
  | 0 | 1 => omega
  | n + 2 => rfl

@[simp] theorem byteAt_cons_zero (b : Byte) (p : List Byte) : byteAt (b :: p) 0 = b.toNat := rfl

@[simp] theorem byteAt_cons_succ (b : Byte) (p : List Byte) (i : Nat) : byteAt (b :: p) (i + 1) = byteAt p i := rfl

/-! ### What the roster hears -/

/-- The rosters of two states, their notification queues and what these are changed by are the same. -/
structure State.SameRoster (s t : State) : Prop where
  roster : t.roster = s.roster
  notes : t.notes = s.notes
  time : t.time = s.time
  config : ∀ l, (t.lane l).config = (s.lane l).config
  tables : t.tables = s.tables

theorem State.SameRoster.refl (s : State) : s.SameRoster s := ⟨rfl, rfl, rfl, fun _ => rfl, rfl⟩

theorem State.SameRoster.trans {s t u : State} (h : s.SameRoster t) (k : t.SameRoster u) : s.SameRoster u :=
  ⟨k.roster.trans h.roster, k.notes.trans h.notes, k.time.trans h.time, fun l => (k.config l).trans (h.config l),
    k.tables.trans h.tables⟩

theorem State.SameRoster.symm {s t : State} (h : s.SameRoster t) : t.SameRoster s :=
  ⟨h.roster.symm, h.notes.symm, h.time.symm, fun l => (h.config l).symm, h.tables.symm⟩

theorem State.SameRoster.entry {s t : State} (h : s.SameRoster t) (i : TimerId) (position : Nat) :
    t.entry i position = s.entry i position := by
  simp only [State.entry, State.table, h.tables]

theorem State.notifyIf_notes_congr {s t : State} (b : Option NoteBody) (hn : t.notes = s.notes) (ht : t.time = s.time) :
    (t.notifyIf b).notes = (s.notifyIf b).notes := by
  cases b with
  | none => exact hn
  | some body => simp only [State.notifyIf, State.notify, hn, ht]

theorem State.SameRoster.rosterOutcome {s t : State} (h : s.SameRoster t) (l : LaneId) (node : Nat) (o : Outcome) :
    (s.rosterOutcome l node o).SameRoster (t.rosterOutcome l node o) := by
  have hnode : t.node l node = s.node l node := by simp only [State.node, h.roster]
  unfold State.rosterOutcome
  split
  · exact h
  · rw [hnode, h.config l, h.time]
    refine ⟨?_, ?_, by simpa using h.time, fun m => by simpa [State.lane] using h.config m, by simpa using h.tables⟩
    · simp [State.setNode, h.roster]
    · exact State.notifyIf_notes_congr _ h.notes h.time

/-- A cyclic claim that ends while it waits: the roster hears of it. -/
theorem State.SameRoster.deliverWaiting {s t : State} (h : s.SameRoster t) (l : LaneId) (o : Outcome)
    (k : CyclicClaim) : (s.deliverWaiting l o (.cyclic k)).SameRoster (t.hears l (some o) (.cyclic k)) := by
  have hres : s.SameRoster (s.deliverResult k o k.attempt.waited []) :=
    ⟨by simp, by simp, by simp, fun l => by simp [State.lane], by simp⟩
  have h' := hres.symm.trans h
  unfold State.deliverWaiting State.hears
  dsimp only
  rw [h.entry]
  cases s.entry k.timer k.position with
  | none => exact h'
  | some e =>
    cases hk : k.attempt with
    | first => rw [hk] at h'; exact h'.rosterOutcome l e.node o
    | retry wire => rw [hk] at h'; exact h'.rosterOutcome l e.node wire

theorem State.SameRoster.withdrawnToRoster {s t : State} (h : s.SameRoster t) (l : LaneId) (c : Claim) :
    (s.withdrawnToRoster l c).SameRoster (t.hears l none c) := by
  unfold State.withdrawnToRoster State.hears
  cases c with
  | acyclic => exact h
  | cyclic k =>
    dsimp only
    rw [h.entry]
    cases s.entry k.timer k.position with
    | none => cases k.attempt <;> exact h
    | some e =>
      cases k.attempt with
      | first => exact h
      | retry wire => exact h.rosterOutcome l e.node wire

/-- Two changes that agree claim by claim agree on several claims, one after the other. -/
theorem State.SameRoster.foldl {f g : State → Claim → State} {cs : List Claim}
    (hfg : ∀ s t c, c ∈ cs → s.SameRoster t → (f s c).SameRoster (g t c)) {s t : State} (h : s.SameRoster t) :
    (cs.foldl f s).SameRoster (cs.foldl g t) := by
  induction cs generalizing s t with
  | nil => exact h
  | cons c cs ih =>
    exact ih (fun s t d hd => hfg s t d (List.mem_cons_of_mem _ hd)) (hfg s t c (List.mem_cons_self ..) h)

/-- A fold over the lanes, each of which is taken once. -/
theorem foldl_allLanes {P : List LaneId → State → Prop} {step : State → LaneId → State} {s : State} (h0 : P [] s)
    (hstep : ∀ done l u, l ∉ done → P done u → P (done ++ [l]) (step u l)) : P allLanes (allLanes.foldl step s) := by
  have h1 := hstep [] .l0 s (by simp) h0
  have h2 := hstep [.l0] .l1 _ (by simp) h1
  have h3 := hstep [.l0, .l1] .l2 _ (by simp) h2
  exact hstep [.l0, .l1, .l2] .l3 _ (by simp) h3

/-- What the roster hears of the claims of all lanes, when each lane's step tells it of those of that lane. -/
theorem State.SameRoster.hearsAll {s : State} {step : State → LaneId → State} {final : Option Outcome}
    {p : Claim → Bool} (hother : ∀ (u : State) l m, m ≠ l → (step u l).lane m = u.lane m)
    (hstep : ∀ (u v : State) l, (u.lane l).claims = (s.lane l).claims → u.SameRoster v →
      (step u l).SameRoster (((s.lane l).claims.filter p).foldl (fun w c => w.hears l final c) v))
    {u : State} (hu : s.SameRoster u) (hl : ∀ l, (u.lane l).claims = (s.lane l).claims) :
    (allLanes.foldl step u).SameRoster (s.hearsAll final p) := by
  refine (foldl_allLanes (P := fun done v => (∀ l, l ∉ done → (v.lane l).claims = (s.lane l).claims) ∧
    v.SameRoster (done.foldl (fun w l => ((s.lane l).claims.filter p).foldl (fun x c => x.hears l final c) w) s))
    ⟨fun l _ => hl l, hu.symm⟩ fun done l v hdone hv => ?_).2
  obtain ⟨hc, h⟩ := hv
  refine ⟨fun m hm => ?_, ?_⟩
  · obtain ⟨hm, hml⟩ : m ∉ done ∧ m ≠ l := by simpa using hm
    rw [hother v l m hml, hc m hm]
  · rw [List.foldl_append]
    exact hstep v _ l (hc l hdone) h

/-- The roster hears of the retry claims a STOP NOW withdraws (R79). -/
theorem State.SameRoster.withdrawn {s u : State} (h : s.SameRoster u) (hl : u.lanes = s.lanes) (i : TimerId) :
    (u.withdrawn i).SameRoster (s.hearsAll none fun c => c.isOfTimer i) := by
  have hfree : s.SameRoster (u.onBuffers i Three.freeFilling) :=
    h.trans ⟨rfl, rfl, rfl, fun _ => rfl, rfl⟩
  refine State.SameRoster.hearsAll (fun u l m hm => by rw [State.withdrawNow_lane, if_neg hm]) (fun u v l hc h => ?_)
    hfree fun l => by simp [State.lane, hl]
  unfold State.withdrawNow
  rw [hc]
  refine State.SameRoster.foldl (fun s t c _ hst => hst.withdrawnToRoster l c) (.trans ?_ h)
  refine ⟨rfl, rfl, rfl, fun m => ?_, rfl⟩
  rw [State.onLane_lane]
  split <;> rfl

/-! ### STOP -/

/-- A STOP whose mode is that of its row acts. -/
theorem ownStop_acts (t : TimerId) (m : Byte) (act : State → TimerId → State) (s : State) :
    ownStop [timerCode t, m] m.toNat act s = (act s t, .plain .ok) := by
  simp [ownStop]

theorem ownStop_refuses {t : TimerId} {m : Byte} {code : Nat} (h : m.toNat ≠ code) (act : State → TimerId → State)
    (s : State) : ownStop [timerCode t, m] code act s = refuse .badArg s := by
  simp [ownStop, h]

theorem execStopEnd_acts {s u : State} {seq : Byte} {t : TimerId}
    (hr : s.ready (requestOf seq 0x08 [timerCode t, 0]) = true) (h : s.taken.stopAtEnd t = u.taken) :
    exec (.stopEnd seq [timerCode t, 0]) s = .next (u.replied (requestOf seq 0x08 [timerCode t, 0]) .ok []) :=
  congrArg Host.Outcome.next (State.serve_replied hr ((ownStop_acts t 0 _ _).trans (by rw [h]; rfl)))

theorem execStopNow_acts {s u : State} {seq : Byte} {t : TimerId}
    (hr : s.ready (requestOf seq 0x08 [timerCode t, 1]) = true) (h : s.taken.stopAtOnce t = u.taken) :
    exec (.stopNow seq [timerCode t, 1]) s = .next (u.replied (requestOf seq 0x08 [timerCode t, 1]) .ok []) :=
  congrArg Host.Outcome.next (State.serve_replied hr ((ownStop_acts t 1 _ _).trans (by rw [h]; rfl)))

theorem State.stopAtEnd_eq (s : State) (t : TimerId) :
    s.stopAtEnd t = match (s.timer t).mode with
      | .running => s.onTimer t fun x => { x with mode := .draining }
      | .draining | .stopped => s
      | .armed => s.halt t
      | .waiting => (s.onBuffers t Three.freeFilling).stopped t := by
  unfold State.stopAtEnd
  rw [State.stopWaiting_eq_stopped]
  cases (s.timer t).mode <;> rfl

theorem State.stopAtOnce_eq (s : State) (t : TimerId) :
    s.stopAtOnce t = match (s.timer t).mode with
      | .running | .draining => (s.withdrawn t).stopped t
      | .stopped => s
      | .armed => s.halt t
      | .waiting => (s.onBuffers t Three.freeFilling).stopped t := by
  unfold State.stopAtOnce
  rw [State.stopWaiting_eq_stopped, State.stopRunning_eq_stopped]
  cases (s.timer t).mode <;> rfl

theorem State.stopAtOnce_inFrame (s : State) {t : TimerId} (hm : (s.timer t).mode.inFrame = true) :
    s.stopAtOnce t = (s.withdrawn t).stopped t := by
  rw [State.stopAtOnce_eq]
  revert hm
  cases (s.timer t).mode <;> simp [TimerMode.inFrame]

theorem stopModeIs_ne {t : TimerId} {mode : Byte} {code : Nat} (h : mode.toNat ≠ code) :
    stopModeIs [timerCode t, mode] code = false := by
  simp [stopModeIs, h]

/-- A state whose oldest request has left is that of one in which it still stands. -/
theorem State.eq_taken {u : State} {k : Link} (h : u.link = { k with requests := k.requests.tail }) :
    ∃ w : State, u = w.taken ∧ w.link = k ∧ w.lanes = u.lanes ∧ w.results = u.results ∧ w.roster = u.roster ∧
      w.notes = u.notes ∧ w.timers = u.timers ∧ w.tables = u.tables ∧ w.outputs = u.outputs ∧ w.acyclic = u.acyclic ∧
      w.time = u.time ∧ w.half = u.half ∧ w.resetting = u.resetting ∧ w.pins = u.pins ∧
      w.supervisor = u.supervisor ∧ w.pending = u.pending := by
  refine ⟨{ u with link := k }, ?_, rfl, rfl, rfl, rfl, rfl, rfl, rfl, rfl, rfl, rfl, rfl, rfl, rfl, rfl, rfl⟩
  cases u
  cases h
  rfl

/-- Settles O17: STOP END and STOP NOW by the timer's state. -/
theorem stopByModeAndState : Obligations.StopByModeAndState := by
  intro s seq t rqe rqn atEnd now disarmed
  have hmode : ∀ m, (s.timer t).mode = m → (s.taken.timer t).mode = m := fun _ h => h
  refine ⟨fun hr => ⟨fun hm => ?_, fun hm => ?_, fun hm => ?_, fun hm => ?_⟩,
    fun hr => ⟨fun hm => ?_, fun hm => ?_, fun hm => ?_, fun hm => ?_⟩, fun mode hmode => ?_⟩
  · refine execStopEnd_acts hr ?_
    rw [State.stopAtEnd_eq, hmode _ hm]; rfl
  · refine execStopEnd_acts hr ?_
    rw [State.stopAtEnd_eq]
    obtain hm | hm := hm <;> rw [hmode _ hm]
  · refine execStopEnd_acts hr ?_
    rw [State.stopAtEnd_eq, hmode _ hm]; rfl
  · refine execStopEnd_acts hr ?_
    rw [State.stopAtEnd_eq, hmode _ hm]; rfl
  · have hheard := State.SameRoster.withdrawn (s := s) (u := s.taken) ⟨rfl, rfl, rfl, fun _ => rfl, rfl⟩ rfl t
    obtain ⟨htime, hhalf, hres, hpins, htimers, htables, houtputs, hsup, hlink, hpending, hresults, hacyclic⟩ :=
      s.taken.withdrawn_frame t
    obtain ⟨w, hw, h1, h2, h3, h4, h5, h6, h7, h8, h9, h10, h11, h12, h13, h14, h15⟩ := State.eq_taken hlink
    refine ⟨w, execStopNow_acts hr ?_, h3.trans hresults, fun l => ?_, h4.trans hheard.roster.symm,
      h5.trans hheard.notes.symm, h6.trans htimers, h7.trans htables, h8.trans houtputs, h9.trans hacyclic,
      h10.trans htime, h11.trans hhalf, h12.trans hres, h13.trans hpins, h14.trans hsup, h1, h15.trans hpending⟩
    · rw [s.taken.stopAtOnce_inFrame hm, hw]
      rfl
    · have hlane : w.lane l = (s.taken.withdrawn t).lane l := by simp only [State.lane, h2]
      exact hlane.trans (s.taken.withdrawn_lane t l)
  · refine execStopNow_acts hr ?_
    rw [State.stopAtOnce_eq, hmode _ hm]
  · refine execStopNow_acts hr ?_
    rw [State.stopAtOnce_eq, hmode _ hm]; rfl
  · refine execStopNow_acts hr ?_
    rw [State.stopAtOnce_eq, hmode _ hm]; rfl
  · intro rq hr
    refine ⟨?_, ?_⟩
    · change execStopEnd seq _ s = _
      rw [execStopEnd, stopModeIs_ne (by omega)]
      exact congrArg Host.Outcome.next (State.serve_replied (u := s) hr (ownStop_refuses (by omega) _ _))
    · change execStopNow seq _ s = _
      rw [execStopNow, stopModeIs_ne (by omega)]
      exact congrArg Host.Outcome.next (State.serve_replied (u := s) hr (ownStop_refuses (by omega) _ _))

end Sys2Proof.Machine
end

section
/-! SUPPORT. The frame close in full (R14 to R17, R75, R78, R105 to R107). -/

set_option Elab.async false

namespace Sys2Proof.Machine

/-! ### The outcomes a close writes -/

/-- Outcome and attempts written to the status elements of several positions, one after the other, with the ages as
they were. -/
def markAll (status : List Status) (marks : List (Nat × Outcome × Nat)) : List Status :=
  marks.foldl (fun l m => l.modify m.1 fun e => { e with outcome := m.2.1, attempts := m.2.2 }) status

theorem markAll_append (status : List Status) (ms ns : List (Nat × Outcome × Nat)) :
    markAll status (ms ++ ns) = markAll (markAll status ms) ns := List.foldl_append

theorem markAll_length (status : List Status) (marks : List (Nat × Outcome × Nat)) :
    (markAll status marks).length = status.length := by
  induction marks generalizing status with
  | nil => rfl
  | cons m ms ih => exact (ih _).trans (List.length_modify ..)

/-- A position that is not marked keeps its element. -/
theorem markAll_other {marks : List (Nat × Outcome × Nat)} {p : Nat} (h : ∀ m ∈ marks, m.1 ≠ p)
    (status : List Status) : (markAll status marks)[p]? = status[p]? := by
  induction marks generalizing status with
  | nil => rfl
  | cons m ms ih =>
    refine (ih (fun n hn => h n (List.mem_cons_of_mem _ hn)) _).trans ?_
    rw [List.getElem?_modify_ne _ _ (h m (List.mem_cons_self ..))]

/-- A position with one mark, or several that are the same, has its element so marked. -/
theorem markAll_same {marks : List (Nat × Outcome × Nat)} {p n : Nat} {o : Outcome} (hmem : (p, o, n) ∈ marks)
    (h : ∀ m ∈ marks, m.1 = p → m = (p, o, n)) (status : List Status) :
    (markAll status marks)[p]? = status[p]?.map fun e => { e with outcome := o, attempts := n } := by
  induction marks generalizing status with
  | nil => cases hmem
  | cons m ms ih =>
    have hms : ∀ m ∈ ms, m.1 = p → m = (p, o, n) := fun m hm => h m (List.mem_cons_of_mem _ hm)
    have hstep : ∀ l : List Status, (markAll l ms)[p]? = l[p]? ∨
        (markAll l ms)[p]? = l[p]?.map fun e => { e with outcome := o, attempts := n } := fun l => by
      by_cases hin : (p, o, n) ∈ ms
      · exact .inr (ih hin hms l)
      · exact .inl (markAll_other (fun m hm hp => hin (hms m hm hp ▸ hm)) l)
    change (markAll (status.modify m.1 fun e => { e with outcome := m.2.1, attempts := m.2.2 }) ms)[p]? = _
    by_cases hp : m.1 = p
    · have hm := h m (List.mem_cons_self ..) hp
      subst hm
      obtain hs | hs := hstep (status.modify p fun e => { e with outcome := o, attempts := n }) <;>
        rw [hs, List.getElem?_modify_eq] <;> cases status[p]? <;> rfl
    · rw [ih ((List.mem_cons.mp hmem).resolve_left fun heq => hp (by rw [← heq])) hms,
        List.getElem?_modify_ne _ _ hp]

/-- A later mark of a position hides the earlier ones. -/
theorem markAll_override (status : List Status) (marks : List (Nat × Outcome × Nat)) (p n : Nat) (o : Outcome) :
    ((markAll status marks)[p]?.map fun e => { e with outcome := o, attempts := n }) =
      status[p]?.map fun e => { e with outcome := o, attempts := n } := by
  induction marks generalizing status with
  | nil => rfl
  | cons m ms ih =>
    refine (ih _).trans ?_
    rw [List.getElem?_modify]
    cases status[p]? with
    | none => rfl
    | some e => by_cases hp : m.1 = p <;> simp [hp]

/-- From one state to another the status list of one buffer is marked, and no other result is touched. -/
def State.Marks (s u : State) (i : TimerId) (f : BufId) (marks : List (Nat × Outcome × Nat)) : Prop :=
  u.results = (s.onBuffer i f fun b => { b with status := markAll b.status marks }).results

theorem State.Marks.nil {s u : State} (h : u.results = s.results) (i : TimerId) (f : BufId) : s.Marks u i f [] := by
  rw [State.Marks, h]
  change s.results = s.results.set i ((s.results.get i).set f ((s.results.get i).get f))
  rw [Three.set_get, Two.set_get]

theorem State.Marks.trans {s u v : State} {i : TimerId} {f : BufId} {ms ns : List (Nat × Outcome × Nat)}
    (h : s.Marks u i f ms) (k : u.Marks v i f ns) : s.Marks v i f (ms ++ ns) := by
  unfold State.Marks at h k ⊢
  rw [k]
  simp only [State.onBuffer, State.onBuffers, markAll_append]
  rw [h]
  simp only [State.onBuffer, State.onBuffers, Two.get_set_same, Two.set_set, Three.get_set_same, Three.set_set]

theorem State.Marks.congr {s u v : State} {i : TimerId} {f : BufId} {ms : List (Nat × Outcome × Nat)}
    (h : s.Marks u i f ms) (hv : v.results = u.results) : s.Marks v i f ms := hv.trans h

theorem State.Marks.buffers_same {s u : State} {i : TimerId} {f : BufId} {ms : List (Nat × Outcome × Nat)}
    (h : s.Marks u i f ms) : u.buffers i = (s.buffers i).set f
      { (s.buffers i).get f with status := markAll ((s.buffers i).get f).status ms } := by
  simp only [State.buffers]
  rw [h]
  simp [State.onBuffer, State.onBuffers]

theorem State.Marks.buffers_other {s u : State} {i j : TimerId} {f : BufId} {ms : List (Nat × Outcome × Nat)}
    (h : s.Marks u i f ms) (hj : j ≠ i) : u.buffers j = s.buffers j := by
  simp only [State.buffers]
  rw [h]
  simp [State.onBuffer, State.onBuffers, Two.get_set, hj]

theorem State.Marks.deliverResult {s : State} {k : CyclicClaim} {f : BufId} (hf : s.fillingFor k = some f)
    {o : Outcome} (ho : o.isGood = false) (n : Nat) (d : List Byte) :
    s.Marks (s.deliverResult k o n d) k.timer f [(k.position, o, n)] := by
  have hdeliver : ∀ b : Buffer, b.deliver (s.entry k.timer k.position) k.position o n d =
      { b with status := markAll b.status [(k.position, o, n)] } := fun b => by
    unfold Buffer.deliver
    simp only [ho, Bool.false_eq_true, if_false]
    split <;> rfl
  rw [State.Marks, State.deliverResult, hf]
  simp only [hdeliver]

theorem State.Marks.recordOverrun {s : State} {k : CyclicClaim} {f : BufId} (hf : s.fillingFor k = some f) :
    s.Marks (s.recordOverrun k) k.timer f [(k.position, .overrun, k.attempt.sent)] := by
  rw [State.Marks, State.recordOverrun, hf]
  rfl

/-- What a claim of the frame that still waits leaves in its status element (R105). -/
def Claim.lateMark : Claim → Option (Nat × Outcome × Nat)
  | .cyclic k => some (k.position, .late, k.attempt.waited)
  | .acyclic .. => none

/-- What a transaction of the frame in flight leaves in its status element (R105). -/
def Lane.overrunMark (x : Lane) (p : Claim → Bool) : Option (Nat × Outcome × Nat) :=
  match x.inFlight with
  | some g =>
    match g.claim with
    | .cyclic k => if p g.claim then some (k.position, .overrun, k.attempt.sent) else none
    | .acyclic .. => none
  | none => none

theorem Lane.overrunMark_cyclic {x : Lane} {p : Claim → Bool} {g : InFlight} {k : CyclicClaim}
    (hg : x.inFlight = some g) (hk : g.claim = .cyclic k) :
    x.overrunMark p = if p g.claim then some (k.position, .overrun, k.attempt.sent) else none := by
  simp [Lane.overrunMark, hg, hk]

theorem Lane.overrunMark_acyclic {x : Lane} {p : Claim → Bool} {g : InFlight} {tag : Half} {a : Attempt}
    (hg : x.inFlight = some g) (hk : g.claim = .acyclic tag a) : x.overrunMark p = none := by
  simp [Lane.overrunMark, hg, hk]

theorem Lane.overrunMark_none {x : Lane} {p : Claim → Bool} (hg : x.inFlight = none) : x.overrunMark p = none := by
  simp [Lane.overrunMark, hg]

/-- The marks of the claims of all lanes that satisfy a test. -/
def State.lateMarks (s : State) (p : Claim → Bool) (lanes : List LaneId) : List (Nat × Outcome × Nat) :=
  lanes.flatMap fun l => ((s.lane l).claims.filter p).filterMap Claim.lateMark

/-- The marks of the transactions of all lanes that satisfy a test. -/
def State.overrunMarks (s : State) (p : Claim → Bool) (lanes : List LaneId) : List (Nat × Outcome × Nat) :=
  lanes.flatMap fun l => ((s.lane l).overrunMark p).toList

theorem State.mem_lateMarks {s : State} {p : Claim → Bool} {m : Nat × Outcome × Nat} :
    m ∈ s.lateMarks p allLanes ↔
      ∃ k, (∃ l, Claim.cyclic k ∈ (s.lane l).claims ∧ p (.cyclic k) = true) ∧
        m = (k.position, .late, k.attempt.waited) := by
  simp only [State.lateMarks, List.mem_flatMap, List.mem_filterMap, List.mem_filter]
  constructor
  · rintro ⟨l, -, c, ⟨hc, hp⟩, hm⟩
    cases c with
    | cyclic k => cases hm; exact ⟨k, ⟨l, hc, hp⟩, rfl⟩
    | acyclic => cases hm
  · rintro ⟨k, ⟨l, hc, hp⟩, rfl⟩
    exact ⟨l, by cases l <;> decide, .cyclic k, ⟨hc, hp⟩, rfl⟩

theorem State.mem_overrunMarks {s : State} {p : Claim → Bool} {m : Nat × Outcome × Nat} :
    m ∈ s.overrunMarks p allLanes ↔
      ∃ k, (∃ l g, (s.lane l).inFlight = some g ∧ g.claim = .cyclic k ∧ p g.claim = true) ∧
        m = (k.position, .overrun, k.attempt.sent) := by
  simp only [State.overrunMarks, List.mem_flatMap, Option.mem_toList]
  constructor
  · rintro ⟨l, -, hm⟩
    unfold Lane.overrunMark at hm
    split at hm
    · next g hg =>
      split at hm
      · next k hk =>
        split at hm
        · next hp => cases hm; exact ⟨k, ⟨l, g, hg, hk, hp⟩, rfl⟩
        · cases hm
      · cases hm
    · cases hm
  · rintro ⟨k, ⟨l, g, hg, hk, hp⟩, rfl⟩
    exact ⟨l, by cases l <;> decide, by rw [Lane.overrunMark_cyclic hg hk, if_pos hp]⟩

/-- Step 1 of a close on one lane (R14). -/
theorem State.Marks.withdrawLate {s : State} {i : TimerId} {f : BufId} {r : Half} {n : Time}
    (hf : ∀ k : CyclicClaim, k.isOf i r n = true → s.fillingFor k = some f) (l : LaneId) :
    s.Marks (s.withdrawLate i r n l) i f
      (((s.lane l).claims.filter fun c => c.isOfFrame i r n).filterMap Claim.lateMark) := by
  have fold : ∀ (cs : List Claim) (u : State), (∀ c ∈ cs, c.isOfFrame i r n = true) → u.heads = s.heads →
      u.Marks (u.deliverAll l .late cs) i f (cs.filterMap Claim.lateMark) := by
    intro cs
    induction cs with
    | nil => exact fun u _ _ => .nil rfl i f
    | cons c cs ih =>
      intro u hcs hu
      have hc := hcs c (List.mem_cons_self ..)
      have htail := ih (u.deliverWaiting l .late c) (fun d hd => hcs d (List.mem_cons_of_mem _ hd)) (by simp [hu])
      cases c with
      | acyclic => cases hc
      | cyclic k =>
        have hk : u.fillingFor k = some f := (State.fillingFor_of_heads hu k).trans (hf k hc)
        have hone : u.Marks (u.deliverWaiting l .late (.cyclic k)) i f [(k.position, .late, k.attempt.waited)] :=
          (isOfFrame_timer k hc ▸ State.Marks.deliverResult hk rfl _ _).congr (u.deliverWaiting_cyclic_results _ _ _)
        exact hone.trans htail
  exact fold _ _ (fun c hc => (List.mem_filter.mp hc).2) (by simp)

/-- Step 2 of a close on one lane (R14, R105). -/
theorem State.Marks.overrun {s : State} {i : TimerId} {f : BufId} {r : Half} {n : Time}
    (hf : ∀ k : CyclicClaim, k.isOf i r n = true → s.fillingFor k = some f) (l : LaneId) :
    s.Marks (s.overrun i r n l) i f ((s.lane l).overrunMark fun c => c.isOfFrame i r n).toList := by
  unfold State.overrun
  split
  · next g hg =>
    split
    · next k hk =>
      have hmark : (s.lane l).overrunMark (fun c => c.isOfFrame i r n) =
          if k.isOf i r n then some (k.position, .overrun, k.attempt.sent) else none :=
        (Lane.overrunMark_cyclic hg hk).trans (by rw [hk]; rfl)
      rw [hmark]
      split
      · next hof => exact (isOfFrame_timer k hof ▸ State.Marks.recordOverrun (hf k hof)).congr rfl
      · exact .nil rfl i f
    · next hk => rw [Lane.overrunMark_acyclic hg hk]; exact .nil rfl i f
  · next hg => rw [Lane.overrunMark_none hg]; exact .nil rfl i f

/-- Steps 1 and 2 of a close write LATE, then OVERRUN, into the FILLING buffer of the frame. -/
theorem State.Marks.endFrame {s : State} {i : TimerId} {f : BufId}
    (hf : ∀ k : CyclicClaim, k.isOf i (s.timer i).run (s.timer i).frame = true → s.fillingFor k = some f) :
    s.Marks (s.endFrame i) i f
      (s.lateMarks (fun c => c.isOfFrame i (s.timer i).run (s.timer i).frame) allLanes ++
        s.overrunMarks (fun c => c.isOfFrame i (s.timer i).run (s.timer i).frame) allLanes) := by
  have late := foldl_allLanes (s := s)
    (step := fun u l => u.withdrawLate i (s.timer i).run (s.timer i).frame l)
    (P := fun done u => (∀ l, (u.lane l).inFlight = (s.lane l).inFlight) ∧
      (∀ l, l ∉ done → (u.lane l).claims = (s.lane l).claims) ∧ u.heads = s.heads ∧
      s.Marks u i f (s.lateMarks (fun c => c.isOfFrame i (s.timer i).run (s.timer i).frame) done))
    ⟨fun _ => rfl, fun _ _ => rfl, rfl, .nil rfl i f⟩ fun done l u hdone hu => by
      obtain ⟨hfl, hc, hheads, hm⟩ := hu
      refine ⟨fun m => ?_, fun m hmd => ?_, by simp [hheads], ?_⟩
      · rw [State.withdrawLate_lane, ← hfl]; split <;> rfl
      · obtain ⟨hmd, hml⟩ : m ∉ done ∧ m ≠ l := by simpa using hmd
        rw [State.withdrawLate_lane, if_neg hml, hc m hmd]
      · have hone := State.Marks.withdrawLate (s := u) (i := i) (f := f)
          (fun k hk => (State.fillingFor_of_heads hheads k).trans (hf k hk)) l
        rw [hc l hdone] at hone
        simpa [State.lateMarks] using hm.trans hone
  obtain ⟨hfl, -, hheads, hm⟩ := late
  unfold State.endFrame
  refine hm.trans (foldl_allLanes
    (step := fun u l => u.overrun i (s.timer i).run (s.timer i).frame l)
    (P := fun done u => (∀ l, l ∉ done → (u.lane l).inFlight = (s.lane l).inFlight) ∧ u.heads = s.heads ∧
      State.Marks _ u i f (s.overrunMarks (fun c => c.isOfFrame i (s.timer i).run (s.timer i).frame) done))
    ⟨fun l _ => hfl l, hheads, .nil rfl i f⟩ fun done l u hdone hu => ?_).2.2
  obtain ⟨hfl, hheads, hm⟩ := hu
  refine ⟨fun m hmd => ?_, by simp [hheads], ?_⟩
  · obtain ⟨hmd, hml⟩ : m ∉ done ∧ m ≠ l := by simpa using hmd
    rw [State.overrun_lane, if_neg hml, hfl m hmd]
  · have hone := State.Marks.overrun (s := u) (i := i) (f := f)
      (fun k hk => (State.fillingFor_of_heads hheads k).trans (hf k hk)) l
    have hlane : ((u.lane l).overrunMark fun c => c.isOfFrame i (s.timer i).run (s.timer i).frame) =
        (s.lane l).overrunMark fun c => c.isOfFrame i (s.timer i).run (s.timer i).frame := by
      simp only [Lane.overrunMark, hfl l hdone]
    rw [hlane] at hone
    simpa [State.overrunMarks] using hm.trans hone

/-- What the roster hears of the claims withdrawn by a close (R75, R78). -/
theorem State.endFrame_sameRoster (s : State) (i : TimerId) :
    (s.endFrame i).SameRoster (s.hearsAll (some .late) fun c => c.isOfFrame i (s.timer i).run (s.timer i).frame) := by
  have late := State.SameRoster.hearsAll (s := s)
    (step := fun u l => u.withdrawLate i (s.timer i).run (s.timer i).frame l) (final := some .late)
    (p := fun c => c.isOfFrame i (s.timer i).run (s.timer i).frame)
    (fun u l m hm => by rw [State.withdrawLate_lane, if_neg hm]) (fun u v l hc h => by
      unfold State.withdrawLate
      rw [hc]
      refine State.SameRoster.foldl (fun a b c hcm hab => ?_) (.trans ?_ h)
      · cases c with
        | cyclic k => exact hab.deliverWaiting l .late k
        | acyclic => cases (List.mem_filter.mp hcm).2
      · refine ⟨rfl, rfl, rfl, fun m => ?_, rfl⟩
        rw [State.onLane_lane]
        split <;> rfl) (.refl s) fun _ => rfl
  refine (State.SameRoster.symm ?_).trans late
  unfold State.endFrame
  refine List.foldlRecOn (motive := fun u => State.SameRoster _ u) allLanes _ (.refl _) fun u hu l _ =>
    hu.trans ⟨by simp, by simp, by simp, fun m => ?_, by simp⟩
  rw [State.overrun_lane]
  split <;> rfl

end Sys2Proof.Machine
end

section
/-! SUPPORT. What a frame close leaves, and the statement about it (R14 to R17). -/

set_option Elab.async false

namespace Sys2Proof.Machine

/-! ### Counts of a closed buffer -/

theorem Status.executed_eq : Status.executed = fun e => decide (e.outcome ≠ .notDue ∧ e.outcome ≠ .empty) := by
  funext e
  unfold Status.executed
  cases e.outcome <;> rfl

theorem Status.failed_eq :
    Status.failed = fun e => decide (e.outcome ≠ .ok ∧ e.outcome ≠ .notDue ∧ e.outcome ≠ .empty) := by
  funext e
  unfold Status.failed Status.executed
  cases e.outcome <;> rfl

theorem executedCount_eq (st : List Status) :
    executedCount st = (st.filter fun e => decide (e.outcome ≠ .notDue ∧ e.outcome ≠ .empty)).length := by
  rw [executedCount, Status.executed_eq, List.countP_eq_length_filter]

theorem failedCount_eq (st : List Status) :
    failedCount st =
      (st.filter fun e => decide (e.outcome ≠ .ok ∧ e.outcome ≠ .notDue ∧ e.outcome ≠ .empty)).length := by
  rw [failedCount, Status.failed_eq, List.countP_eq_length_filter]

theorem Report.wants_iff {r : Report} {failed : Nat} :
    r.wants failed = true ↔ r = .all ∨ (r = .errors ∧ 0 < failed) := by
  cases r <;> simp [Report.wants]

/-! ### The buffers and the record of a close -/

/-- The lowest-numbered buffer in a state, among the three in their order. -/
theorem Three.find_eq_find? (bs : Three Buffer) (m : BufMode) :
    bs.find m = [BufId.b0, .b1, .b2].find? fun b => decide ((bs.get b).mode = m) := by
  by_cases h0 : bs.b0.mode = m <;> by_cases h1 : bs.b1.mode = m <;> by_cases h2 : bs.b2.mode = m <;>
    simp [Three.find, Three.get, h0, h1, h2]

/-- The marks a close writes. -/
def State.closeMarks (s : State) (i : TimerId) : List (Nat × Outcome × Nat) :=
  s.lateMarks (fun c => c.isOfFrame i (s.timer i).run (s.timer i).frame) allLanes ++
    s.overrunMarks (fun c => c.isOfFrame i (s.timer i).run (s.timer i).frame) allLanes

section
variable {s : State} {i : TimerId} {f : BufId} (hb : s.BuffersOk) (hi : s.IdentitiesOk)
  (hm : (s.timer i).mode.inFrame = true) (hf : (s.buffers i).find .filling = some f)

include hi hm hf in
/-- In a frame in progress the FILLING buffer is the frame's. -/
theorem State.filling_identity :
    ((s.buffers i).get f).run = (s.timer i).run ∧ ((s.buffers i).get f).frame = (s.timer i).frame := by
  obtain ⟨hr, hframe⟩ := (hi i).1 f hf
  refine ⟨hr, ?_⟩
  rw [hframe, if_neg]
  intro hw
  rw [hw] at hm
  cases hm

include hi hm hf in
theorem State.fillingFor_frame (k : CyclicClaim) (hk : k.isOf i (s.timer i).run (s.timer i).frame = true) :
    s.fillingFor k = some f := by
  obtain ⟨hr, hframe⟩ := State.filling_identity hi hm hf
  simp only [CyclicClaim.isOf, Bool.and_eq_true, beq_iff_eq] at hk
  obtain ⟨⟨rfl, hkr⟩, hkf⟩ := hk
  unfold State.fillingFor
  rw [hf]
  simp [hr, hframe, hkr, hkf]

include hb hi hm hf in
/-- Steps 1 to 3 of a close, in the timer's buffers (R105, R106). -/
theorem State.closeFrame_get :
    ((s.closeFrame i).buffers i).get f =
        { (s.buffers i).get f with
          mode := .ready, dropped := ((s.buffers i).find .ready).isSome
          status := markAll ((s.buffers i).get f).status (s.closeMarks i) } ∧
      (∀ b, b ≠ f → ((s.closeFrame i).buffers i).get b =
        if ((s.buffers i).get b).mode = .ready then { (s.buffers i).get b with mode := .free }
        else (s.buffers i).get b) ∧
      ((s.closeFrame i).buffers i).find .ready = some f := by
  have hmarks := State.Marks.endFrame (State.fillingFor_frame hi hm hf)
  have hserves := State.endFrame_serves (hb.serves i) i
  have hfill : ((s.endFrame i).buffers i).find .filling = some f :=
    (State.find_of_heads (s.endFrame_heads i) i _).trans hf
  have hready : ((s.endFrame i).buffers i).find .ready = (s.buffers i).find .ready :=
    State.find_of_heads (s.endFrame_heads i) i _
  obtain ⟨hcf, hother⟩ := hserves.close_eq hfill
  rw [State.closeFrame_buffers, if_pos rfl]
  refine ⟨?_, fun b hb' => ?_, (hserves.close hfill (n := .stopped) rfl).2⟩
  · rw [hcf, hready, hmarks.buffers_same, Three.get_set_same]
    rfl
  · rw [hother b hb', hmarks.buffers_same, Three.get_set_other _ _ hb']

include hb hi hm hf in
/-- Step 4 of a close: FRAME_DONE by the report policy (R15). -/
theorem State.closeFrame_notes :
    (s.closeFrame i).notes =
      let b := ((s.closeFrame i).buffers i).get f
      if (s.timer i).config.report.wants (failedCount b.status) then
        (s.endFrame i).notes.hand s.time (frameDone i b)
      else (s.endFrame i).notes := by
  have hready := (State.closeFrame_get hb hi hm hf).2.2
  have hbuf : (s.closeFrame i).buffers i = ((s.endFrame i).closeBuffer i).buffers i := by
    simp only [State.buffers, (s.closeFrame_frame i).2.2.2.2.2.2.2.2.2.2.2.2.2]
  rw [hbuf] at hready ⊢
  have htimer : ((s.endFrame i).closeBuffer i).timer i = s.timer i := by simp [State.closeBuffer, State.timer]
  unfold State.closeFrame State.reportFrame
  rw [hready]
  dsimp only
  rw [htimer]
  split
  · simp [State.closeBuffer, State.notify]
  · simp [State.closeBuffer]

end

/-! ### Marks of the claims of a frame -/

/-- A claim that ends with LATE alone marks its position (R105). -/
theorem State.closeMarks_late {s : State} {i : TimerId} {k : CyclicClaim} (status : List Status)
    (hk : ∃ l, Claim.cyclic k ∈ (s.lane l).claims ∧
      (Claim.cyclic k).isOfFrame i (s.timer i).run (s.timer i).frame = true)
    (hone : ∀ j, (∃ l, Claim.cyclic j ∈ (s.lane l).claims ∧
      (Claim.cyclic j).isOfFrame i (s.timer i).run (s.timer i).frame = true) → j.position = k.position → j = k)
    (hnone : ∀ j, (∃ l g, (s.lane l).inFlight = some g ∧ g.claim = .cyclic j ∧
      g.claim.isOfFrame i (s.timer i).run (s.timer i).frame = true) → j.position ≠ k.position) :
    (markAll status (s.closeMarks i))[k.position]? =
      status[k.position]?.map fun e => { e with outcome := .late, attempts := k.attempt.waited } := by
  rw [State.closeMarks, markAll_append, markAll_other fun m hm hp => ?_]
  · refine markAll_same (State.mem_lateMarks.mpr ⟨k, hk, rfl⟩) (fun m hm hp => ?_) status
    obtain ⟨j, hj, rfl⟩ := State.mem_lateMarks.mp hm
    rw [hone j hj hp]
  · obtain ⟨j, hj, rfl⟩ := State.mem_overrunMarks.mp hm
    exact hnone j hj hp

/-- A transaction in flight marks its position with OVERRUN, whatever waited for it (R105). -/
theorem State.closeMarks_overrun {s : State} {i : TimerId} {k : CyclicClaim} (status : List Status)
    (hk : ∃ l g, (s.lane l).inFlight = some g ∧ g.claim = .cyclic k ∧
      g.claim.isOfFrame i (s.timer i).run (s.timer i).frame = true)
    (hone : ∀ j, (∃ l g, (s.lane l).inFlight = some g ∧ g.claim = .cyclic j ∧
      g.claim.isOfFrame i (s.timer i).run (s.timer i).frame = true) → j.position = k.position → j = k) :
    (markAll status (s.closeMarks i))[k.position]? =
      status[k.position]?.map fun e => { e with outcome := .overrun, attempts := k.attempt.sent } := by
  rw [State.closeMarks, markAll_append, markAll_same (State.mem_overrunMarks.mpr ⟨k, hk, rfl⟩) fun m hm hp => ?_]
  · exact markAll_override status _ _ _ _
  · obtain ⟨j, hj, rfl⟩ := State.mem_overrunMarks.mp hm
    rw [hone j hj hp]

/-- What the buffers of a close that goes on find: the lowest FREE one beside the closed one (R102, R107). -/
theorem State.closeFrame_free {s : State} {i : TimerId} {f g : BufId} (hb : s.BuffersOk) (hi : s.IdentitiesOk)
    (hm : (s.timer i).mode.inFrame = true) (hf : (s.buffers i).find .filling = some f)
    (hg : ((s.closeFrame i).buffers i).find .free = some g) :
    [BufId.b0, .b1, .b2].find? (fun b => b ≠ f ∧
      (if ((s.buffers i).get b).mode = .ready then { (s.buffers i).get b with mode := BufMode.free }
        else (s.buffers i).get b).mode = .free) = some g := by
  obtain ⟨hcf, hother, -⟩ := State.closeFrame_get hb hi hm hf
  rw [← hg, Three.find_eq_find?]
  congr 1
  funext b
  by_cases hbf : b = f
  · subst hbf
    rw [hcf]
    simp
  · rw [hother b hbf]
    simp [hbf]

/-- FRAME_CLOSE that is due. -/
theorem execFrameClose_eq {s : State} {i : TimerId} (hr : s.resetting = none) (hm : (s.timer i).mode.inFrame = true)
    (hc : (s.timer i).closeDue = true) : exec (.frameClose i) s = bufferOrFault (s.close i) := by
  have hdue : s.frameCloseDue i = true := by simp [State.frameCloseDue, hr, hm, hc]
  change execFrameClose i s = _
  rw [execFrameClose, if_pos hdue]

/-- The record of a close, in terms of the closed frame's status list. -/
theorem State.closeFrame_report {s : State} {i : TimerId} {f : BufId} (hb : s.BuffersOk) (hi : s.IdentitiesOk)
    (hm : (s.timer i).mode.inFrame = true) (hf : (s.buffers i).find .filling = some f) :
    let status := markAll ((s.buffers i).get f).status (s.closeMarks i)
    let heard := s.hearsAll (some .late) fun c => c.isOfFrame i (s.timer i).run (s.timer i).frame
    let runs := fun e : Status => decide (e.outcome ≠ .notDue ∧ e.outcome ≠ .empty)
    let fails := fun e : Status => decide (e.outcome ≠ .ok ∧ e.outcome ≠ .notDue ∧ e.outcome ≠ .empty)
    (s.closeFrame i).notes =
      if (s.timer i).config.report = .all ∨
          ((s.timer i).config.report = .errors ∧ 0 < (status.filter fails).length) then
        heard.notes.hand s.time
          (.frameDone i (s.timer i).run (s.timer i).frame (status.filter runs).length (status.filter fails).length
            (status.findIdx? fails) ((s.buffers i).find .ready).isSome)
      else heard.notes := by
  intro status heard runs fails
  obtain ⟨hrun, hframe⟩ := State.filling_identity hi hm hf
  rw [State.closeFrame_notes hb hi hm hf, (State.closeFrame_get hb hi hm hf).1]
  dsimp only
  rw [← (s.endFrame_sameRoster i).notes]
  refine if_congr ?_ ?_ rfl
  · rw [Report.wants_iff, failedCount_eq]
  · simp only [frameDone, executedCount_eq, failedCount_eq, firstFailed, Status.failed_eq, hrun, hframe]
    rfl

theorem TimerMode.inFrame_cases {m : TimerMode} (h : m.inFrame = true) : m = .draining ∨ m = .running := by
  cases m <;> simp_all [TimerMode.inFrame]

/-- Settles O19: the close in full, for a DRAINING timer, for one that waits and for one whose next frame opens. -/
theorem frameCloseMovesBuffersAndState : Obligations.FrameCloseMovesBuffersAndState := by
  intro s i hr hm hc hb hi x ofFrame waits flies heard runs fails
  obtain ⟨f, hf⟩ := (hb.serves i).filling (TimerMode.hasFilling_of_inFrame hm)
  obtain ⟨hcf, hother, hready⟩ := State.closeFrame_get hb hi hm hf
  have hnotes := State.closeFrame_report hb hi hm hf
  have hroster := (s.endFrame_sameRoster i).roster.symm
  have hmarks := State.Marks.endFrame (State.fillingFor_frame hi hm hf)
  have hbuffers : ∀ u, u ≠ i → (s.closeFrame i).buffers u = s.buffers u := fun u hu => by
    rw [State.closeFrame_buffers, if_neg hu, hmarks.buffers_other hu]
  have hunmarked : ∀ p : Nat, (∀ k, waits k ∨ flies k → k.position ≠ p) →
      (markAll ((s.buffers i).get f).status (s.closeMarks i))[p]? = ((s.buffers i).get f).status[p]? :=
    fun p hp => markAll_other (fun m hmem => by
      obtain hmem | hmem := List.mem_append.mp hmem
      · obtain ⟨k, hk, rfl⟩ := State.mem_lateMarks.mp hmem
        exact hp k (.inl hk)
      · obtain ⟨k, hk, rfl⟩ := State.mem_overrunMarks.mp hmem
        exact hp k (.inr hk)) _
  have hlate : ∀ k, waits k → (∀ j, waits j → j.position = k.position → j = k) →
      (∀ j, flies j → j.position ≠ k.position) →
      (markAll ((s.buffers i).get f).status (s.closeMarks i))[k.position]? =
        ((s.buffers i).get f).status[k.position]?.map fun e =>
          { e with outcome := .late, attempts := if k.attempt = .first then 0 else 1 } := fun k hk hone hnone => by
    rw [State.closeMarks_late _ hk hone hnone]
    cases k.attempt <;> rfl
  have hover : ∀ k, flies k → (∀ j, flies j → j.position = k.position → j = k) →
      (markAll ((s.buffers i).get f).status (s.closeMarks i))[k.position]? =
        ((s.buffers i).get f).status[k.position]?.map fun e =>
          { e with outcome := .overrun, attempts := if k.attempt = .first then 1 else 2 } := fun k hk hone => by
    rw [State.closeMarks_overrun _ hk hone]
    cases k.attempt <;> rfl
  obtain ⟨htime, hhalf, hres, hpins, htimers, htables, houtputs, hsup, hlink, hpending, hacyclic, -, hroster', -⟩ :=
    s.closeFrame_frame i
  rw [← hroster'] at hroster
  obtain hmode | hmode := TimerMode.inFrame_cases hm
  · refine ⟨f, _, s.closeFrame i, hf, markAll_length _ _, hunmarked, hlate, hover, hcf, hbuffers, s.closeFrame_lane i,
      hroster, hnotes, htimers, htables, houtputs, htime, hhalf, hres.trans hr, hpins, hsup, hacyclic, hlink, hpending,
      fun _ => ⟨hother, ?_⟩, fun h => ?_⟩
    · rw [execFrameClose_eq hr hm hc, State.close, if_pos hmode, State.drain_eq_stopped]
      rfl
    · exact absurd (hmode.symm.trans h) (by decide)
  · obtain ⟨hserves, -⟩ := State.closeFrame_serves (hb.serves i) hm (n := .stopped) rfl
    obtain ⟨g, hg, hprepare⟩ := State.prepareNext_eq hserves rfl hready
    have hfill := (hserves.set_filling (b := g) (n := .running)
      (v := (((s.closeFrame i).buffers i).get f).next (s.timer i).run ((s.timer i).frame + 1)) rfl rfl rfl).2
    have hgf : f ≠ g := by
      rintro rfl
      have hready' := Three.find_some hready
      rw [Three.find_some hg] at hready'
      cases hready'
    rw [State.closeFrame_timer] at hprepare
    have hclose : s.close i = some (
        let v := (s.closeFrame i).onBuffers i fun _ => ((s.closeFrame i).buffers i).set g
          ((((s.closeFrame i).buffers i).get f).next (s.timer i).run ((s.timer i).frame + 1))
        if (s.timer i).config.startMode = .triggerEach then v.onTimer i fun x => x.rest .waiting
        else v.openNext i) := by
      rw [State.close, if_neg (by rw [hmode]; decide), hprepare]
      rfl
    have hexec := execFrameClose_eq hr hm hc
    rw [hclose] at hexec
    generalize hv : ((s.closeFrame i).onBuffers i fun _ => ((s.closeFrame i).buffers i).set g
      ((((s.closeFrame i).buffers i).get f).next (s.timer i).run ((s.timer i).frame + 1))) = v at hexec
    have hbuf : v.buffers i = ((s.closeFrame i).buffers i).set g
        ((((s.closeFrame i).buffers i).get f).next (s.timer i).run ((s.timer i).frame + 1)) := by
      rw [← hv, State.onBuffers_buffers_same]
    have hbuf' : ∀ u, u ≠ i → v.buffers u = s.buffers u := fun u hu => by
      rw [← hv, State.onBuffers_buffers, if_neg hu, hbuffers u hu]
    have hlanes : ∀ l, v.lane l = (s.closeFrame i).lane l := fun l => by rw [← hv]; rfl
    have hframe : v.roster = (s.closeFrame i).roster ∧ v.notes = (s.closeFrame i).notes ∧
        v.timers = (s.closeFrame i).timers ∧ v.tables = (s.closeFrame i).tables ∧
        v.outputs = (s.closeFrame i).outputs ∧ v.time = (s.closeFrame i).time ∧ v.half = (s.closeFrame i).half ∧
        v.resetting = (s.closeFrame i).resetting ∧ v.pins = (s.closeFrame i).pins ∧
        v.supervisor = (s.closeFrame i).supervisor ∧ v.acyclic = (s.closeFrame i).acyclic ∧
        v.link = (s.closeFrame i).link ∧ v.pending = (s.closeFrame i).pending := by
      rw [← hv]
      exact ⟨rfl, rfl, rfl, rfl, rfl, rfl, rfl, rfl, rfl, rfl, rfl, rfl, rfl⟩
    obtain ⟨h1, h2, h3, h4, h5, h6, h7, h8, h9, h10, h11, h12, h13⟩ := hframe
    refine ⟨f, _, v, hf, markAll_length _ _, hunmarked, hlate, hover, ?_, hbuf',
      fun l => (hlanes l).trans (s.closeFrame_lane i l), h1.trans hroster, h2.trans hnotes, h3.trans htimers,
      h4.trans htables, h5.trans houtputs, h6.trans htime, h7.trans hhalf, (h8.trans hres).trans hr, h9.trans hpins,
      h10.trans hsup, h11.trans hacyclic, h12.trans hlink, h13.trans hpending, fun h => ?_,
      fun _ => ⟨g, State.closeFrame_free hb hi hm hf hg, ?_, fun b hbf hbg => ?_, fun hw => ?_, fun hw => ?_⟩⟩
    · rw [hbuf, Three.get_set_other _ _ hgf, hcf]
    · exact absurd (hmode.symm.trans h) (by decide)
    · rw [hbuf, Three.get_set_same, hcf]
      rfl
    · rw [hbuf, Three.get_set_other _ _ hbg, hother b hbf]
    · rw [hexec, if_pos hw]
      rfl
    · rw [hexec, if_neg hw, State.openNext, State.nextFrame_eq_opened (b := g) (by rw [hbuf]; exact hfill)]
      have htimer : v.timer i = s.timer i := by simp only [State.timer, h3, htimers]
      rw [htimer]
      rfl

end Sys2Proof.Machine
end

section
/-!
SUPPORT. The fields of a payload as the host lays them out, and the answers to CONFIGURE_TIMER, START, HOLD and the
reads of a HELD buffer.
-/

set_option Elab.async false

namespace Sys2Proof.Machine

/-! ### Fields of payloads -/

theorem toNat_ofNat_byte {x : Nat} (h : x ≤ 255) : (BitVec.ofNat 8 x).toNat = x := by
  rw [BitVec.toNat_ofNat]
  omega

/-- The two bytes of a half-word are read back as that half-word. -/
theorem halfAt_of_bytes {p : List Byte} {i x : Nat} (h : x ≤ 65535) (lo : byteAt p i = (BitVec.ofNat 8 x).toNat)
    (hi : byteAt p (i + 1) = (BitVec.ofNat 8 (x / 256)).toNat) : halfAt p i = x := by
  rw [halfAt, lo, hi, BitVec.toNat_ofNat, BitVec.toNat_ofNat]
  omega

theorem startModeOf_code (m : StartMode) : startModeOf m.code.toNat = some m := by
  cases m <;> rfl

theorem reportOf_code (r : Report) : reportOf r.code.toNat = some r := by
  cases r <;> rfl

theorem startModeOf_none {n : Nat} (h : 2 < n) : startModeOf n = none := by
  match n with
  | 0 | 1 | 2 => omega
  | n + 3 => rfl

theorem reportOf_none {n : Nat} (h : 2 < n) : reportOf n = none := by
  match n with
  | 0 | 1 | 2 => omega
  | n + 3 => rfl

/-! ### CONFIGURE_TIMER and START -/

/-- A configuration in range is read back from its payload (R1, R168). -/
theorem parseTimerConfig_payload {c : TimerConfig} (h : c.Ok) (t : TimerId) :
    parseTimerConfig (c.payload t) = some c := by
  obtain ⟨htpr, htpr', hg, hgs, hs, hrpf, hrpf', hq, hw⟩ := h
  have e1 : halfAt (c.payload t) 1 = c.tpr := halfAt_of_bytes htpr' rfl rfl
  have e3 : halfAt (c.payload t) 3 = c.g := halfAt_of_bytes (by omega) rfl rfl
  have e5 : halfAt (c.payload t) 5 = c.s := halfAt_of_bytes (by omega) rfl rfl
  have e7 : halfAt (c.payload t) 7 = c.rpf := halfAt_of_bytes (by omega) rfl rfl
  have e9 : byteAt (c.payload t) 9 = c.q := toNat_ofNat_byte (by omega)
  have e10 : halfAt (c.payload t) 10 = c.w := halfAt_of_bytes (by omega) rfl rfl
  have e12 : startModeOf (byteAt (c.payload t) 12) = some c.startMode := startModeOf_code _
  have e13 : reportOf (byteAt (c.payload t) 13) = some c.report := reportOf_code _
  simp only [parseTimerConfig, e1, e3, e5, e7, e9, e10, e12, e13]
  exact if_pos ⟨htpr, hg, hgs, hs, hrpf, hrpf', hq, hw⟩

/-- A field outside its range makes no configuration. -/
theorem parseTimerConfig_none {p : List Byte} (h : timerFieldOutside p = true) : parseTimerConfig p = none := by
  unfold parseTimerConfig
  split
  · next mode report hm hr =>
    refine if_neg fun hc => ?_
    dsimp only at hc
    obtain ⟨h1, h2, h3, h4, h5, h6, h7, h8⟩ := hc
    have h12 : byteAt p 12 ≤ 2 := Nat.not_lt.mp fun hn => by simp [startModeOf_none hn] at hm
    have h13 : byteAt p 13 ≤ 2 := Nat.not_lt.mp fun hn => by simp [reportOf_none hn] at hr
    have hout := of_decide_eq_true h
    omega
  · rfl

theorem ownConfigureTimer_of {t : TimerId} {fields : List Byte} (h : fields.length = 13) (s : State) :
    ownConfigureTimer (timerCode t :: fields) s = s.configureTimer t (timerCode t :: fields) := by
  simp [ownConfigureTimer, h]

theorem ownStart_of (t : TimerId) (s : State) : ownStart [timerCode t] s = s.startTimer t := by
  simp [ownStart]

theorem State.configureTimer_badState {s : State} {t : TimerId} (h : (s.timer t).mode ≠ .stopped) (p : List Byte) :
    s.configureTimer t p = refuse .badState s := if_pos h

/-- CONFIGURE_TIMER on a STOPPED timer, by what its payload and the active table make of it. -/
theorem State.configureTimer_stopped {s : State} {t : TimerId} (h : (s.timer t).mode = .stopped) (p : List Byte) :
    s.configureTimer t p =
      match parseTimerConfig p with
      | none => refuse .badArg s
      | some c =>
        match (s.table t).active.validate c s.laneConfigs with
        | some failure => (s, conflictAnswer t 1 failure)
        | none => (s.onTimer t fun x => { x with config := c }, .plain .ok) :=
  if_neg (not_not.mpr h)

theorem execConfigureTimer_answers {s u : State} {seq : Byte} {t : TimerId} {fields rest : List Byte}
    {code : ReplyCode} (hl : fields.length = 13)
    (hr : s.ready (requestOf seq 0x06 (timerCode t :: fields)) = true)
    (h : s.taken.configureTimer t (timerCode t :: fields) = (u.taken, { code := code, fields := rest })) :
    exec (.configureTimer seq (timerCode t :: fields)) s =
      .next (u.replied (requestOf seq 0x06 (timerCode t :: fields)) code rest) :=
  congrArg Host.Outcome.next (State.serve_replied hr ((ownConfigureTimer_of hl _).trans h))

theorem execStart_answers {s u : State} {seq : Byte} {t : TimerId} {code : ReplyCode}
    (hr : s.ready (requestOf seq 0x07 [timerCode t]) = true)
    (h : s.taken.startTimer t = (u.taken, .plain code)) :
    exec (.start seq [timerCode t]) s = .next (u.replied (requestOf seq 0x07 [timerCode t]) code []) :=
  congrArg Host.Outcome.next (State.serve_replied hr ((ownStart_of t _).trans h))

/-- Settles O16: CONFIGURE_TIMER by the timer's state, its fields and the active table, and START. -/
theorem configureTimerAndStart : Obligations.ConfigureTimerAndStart := by
  refine ⟨fun s seq t c hc => ?_, fun s seq t fields hl => ?_, fun s seq t => ?_⟩
  · intro rq hr
    refine ⟨fun hm => ?_, fun position cause hm hv => ?_, fun hm hv => ?_⟩
    · exact execConfigureTimer_answers rfl hr (State.configureTimer_badState (s := s.taken) hm _)
    · refine execConfigureTimer_answers rfl hr ((State.configureTimer_stopped (s := s.taken) hm _).trans ?_)
      rw [show timerCode t :: _ = c.payload t from rfl, parseTimerConfig_payload hc]
      dsimp only
      rw [show (s.taken.table t).active.validate c s.taken.laneConfigs = _ from hv]
      rfl
    · refine execConfigureTimer_answers rfl hr ((State.configureTimer_stopped (s := s.taken) hm _).trans ?_)
      rw [show timerCode t :: _ = c.payload t from rfl, parseTimerConfig_payload hc]
      dsimp only
      rw [show (s.taken.table t).active.validate c s.taken.laneConfigs = _ from hv]
      rfl
  · intro p rq hr hout
    refine ⟨fun hm => ?_, fun hm => ?_⟩
    · exact execConfigureTimer_answers hl hr (State.configureTimer_badState (s := s.taken) hm _)
    · refine execConfigureTimer_answers hl hr ((State.configureTimer_stopped (s := s.taken) hm _).trans ?_)
      rw [parseTimerConfig_none hout]
      rfl
  · intro rq hr
    refine ⟨fun hm => ?_, fun hm => ?_⟩
    · exact execStart_answers hr (if_pos hm)
    · exact execStart_answers hr (if_neg hm)

/-! ### HOLD and the reads of a HELD buffer -/

/-- The bytes an OK to HOLD carries of a buffer (R112). -/
theorem holdAnswer_eq (b : Buffer) :
    holdAnswer b =
      { code := .ok
        fields := bytes2 b.run.toNat ++ bytes4 b.frame.toNat ++
          [flagByte b.dropped,
            BitVec.ofNat 8 (b.status.filter fun e => decide (e.outcome ≠ .notDue ∧ e.outcome ≠ .empty)).length,
            BitVec.ofNat 8
              (b.status.filter fun e =>
                decide (e.outcome ≠ .ok ∧ e.outcome ≠ .notDue ∧ e.outcome ≠ .empty)).length,
            match b.status.findIdx? fun e =>
                decide (e.outcome ≠ .ok ∧ e.outcome ≠ .notDue ∧ e.outcome ≠ .empty) with
              | some i => BitVec.ofNat 8 i
              | none => 0xFF] } := by
  rw [holdAnswer, executedCount_eq, failedCount_eq, firstFailed, Status.failed_eq, runFrame]
  congr 3
  cases b.status.findIdx? _ <;> rfl

theorem Memory.readBytes_eq (m : Memory) (a n : Nat) :
    m.readBytes a n = (List.range n).map fun i => m.read (a + i) := by
  induction n generalizing a with
  | zero => rfl
  | succ n ih =>
    rw [Memory.readBytes, ih, List.range_succ_eq_map, List.map_cons, List.map_map]
    congr 1
    refine List.map_congr_left fun i _ => ?_
    exact congrArg m.read (by omega)

theorem ownHold_of (t : TimerId) (s : State) :
    ownHold [timerCode t] s = (s.onBuffers t fun bs => bs.hold.1, (s.buffers t).hold.2) := by
  simp [ownHold]

theorem State.onBuffers_congr {s : State} {t : TimerId} {f g : Three Buffer → Three Buffer}
    (h : f (s.buffers t) = g (s.buffers t)) : s.onBuffers t f = s.onBuffers t g :=
  congrArg (fun bs => { s with results := s.results.set t bs }) h

theorem State.onBuffers_id (s : State) (t : TimerId) : s.onBuffers t (fun bs => bs) = s := by
  cases t <;> rfl

theorem State.onBuffers_onBuffers (s : State) (t : TimerId) (f g : Three Buffer → Three Buffer) :
    (s.onBuffers t f).onBuffers t g = s.onBuffers t fun bs => g (f bs) := by
  cases t <;> rfl

/-- A HOLD that leaves the buffers as `f` makes them. -/
theorem execHold_answers {s : State} {seq : Byte} {t : TimerId} (f : Three Buffer → Three Buffer) {code : ReplyCode}
    {fields : List Byte} (hr : s.ready (requestOf seq 0x14 [timerCode t]) = true)
    (h : (s.buffers t).hold = (f (s.buffers t), { code := code, fields := fields })) :
    exec (.hold seq [timerCode t]) s =
      .next ((s.onBuffers t f).replied (requestOf seq 0x14 [timerCode t]) code fields) := by
  have hf : s.onBuffers t (fun bs => bs.hold.1) = s.onBuffers t f :=
    State.onBuffers_congr (congrArg Prod.fst h)
  have ha : (s.taken.buffers t).hold.2 = { code := code, fields := fields } := congrArg Prod.snd h
  rw [← hf]
  refine congrArg Host.Outcome.next (State.serve_replied hr ((ownHold_of t _).trans ?_))
  rw [ha]
  rfl

theorem ownReadImage_of {t : TimerId} {offset len : Nat} (ho : offset ≤ 65535) (hl : len ≤ 255) (s : State) :
    ownReadImage (timerCode t :: (bytes2 offset ++ [BitVec.ofNat 8 len])) s =
      if 1 ≤ len ∧ len ≤ 200 ∧ offset ≤ 1023 ∧ offset + len ≤ 1024 then
        match s.heldBuffer t with
        | some b =>
          (s, { code := .ok
                fields := runFrame b.run b.frame ++ BitVec.ofNat 8 len :: b.image.readBytes offset len })
        | none => refuse .none s
      else refuse .badArg s := by
  have e1 : halfAt (timerCode t :: (bytes2 offset ++ [BitVec.ofNat 8 len])) 1 = offset :=
    halfAt_of_bytes ho rfl rfl
  have e3 : byteAt (timerCode t :: (bytes2 offset ++ [BitVec.ofNat 8 len])) 3 = len := toNat_ofNat_byte hl
  rw [ownReadImage, if_pos (by rfl)]
  simp only [e1, e3, byteAt_cons_zero, timerOf_timerCode]
  rfl

theorem ownReadStatus_of {t : TimerId} {first count : Nat} (hf : first ≤ 255) (hc : count ≤ 255) (s : State) :
    ownReadStatus [timerCode t, BitVec.ofNat 8 first, BitVec.ofNat 8 count] s =
      if first ≤ 63 ∧ 1 ≤ count ∧ count ≤ 64 ∧ first + count ≤ 64 then
        match s.heldBuffer t with
        | some b =>
          (s, { code := .ok
                fields := runFrame b.run b.frame ++ BitVec.ofNat 8 first :: BitVec.ofNat 8 count ::
                  ((b.status.drop first).take count).flatMap Status.bytes })
        | none => refuse .none s
      else refuse .badArg s := by
  have e1 : byteAt [timerCode t, BitVec.ofNat 8 first, BitVec.ofNat 8 count] 1 = first := toNat_ofNat_byte hf
  have e2 : byteAt [timerCode t, BitVec.ofNat 8 first, BitVec.ofNat 8 count] 2 = count := toNat_ofNat_byte hc
  rw [ownReadStatus, if_pos (by rfl)]
  simp only [e1, e2, byteAt_cons_zero, timerOf_timerCode]
  rfl

theorem State.heldBuffer_none {s : State} {t : TimerId} (h : (s.buffers t).find .held = none) :
    s.taken.heldBuffer t = none := by
  rw [State.heldBuffer, show (s.taken.buffers t).find .held = none from h]
  rfl

theorem State.heldBuffer_some {s : State} {t : TimerId} {b : BufId} (h : (s.buffers t).find .held = some b) :
    s.taken.heldBuffer t = some ((s.buffers t).get b) := by
  rw [State.heldBuffer, show (s.taken.buffers t).find .held = some b from h]
  rfl

/-- Settles O35: HOLD by the READY and HELD buffers of the timer, and the reads of its HELD buffer. -/
theorem holdAndReads : Obligations.HoldAndReads := by
  refine ⟨fun s seq t => ?_, fun s seq t offset len ho hl => ?_, fun s seq t first count hf hc => ?_⟩
  · intro rq held hr
    have hheld : ∀ b, holdAnswer b = { code := .ok, fields := held b } := holdAnswer_eq
    refine ⟨fun r h1 h2 => ?_, fun r h h1 h2 => ?_, fun h h1 h2 => ?_, fun h1 h2 => ?_⟩
    · exact execHold_answers (fun bs => bs.set r { bs.get r with mode := .held }) hr
        (by simp only [Three.hold, h1, h2, hheld])
    · have hne : r ≠ h := by rintro rfl; simpa [Three.find_some h1] using Three.find_some h2
      have hget : ((s.buffers t).set h { (s.buffers t).get h with mode := .free }).get r = (s.buffers t).get r :=
        Three.get_set_other _ _ hne
      rw [State.onBuffer, State.onBuffer, State.onBuffers_onBuffers]
      exact execHold_answers
        (fun bs => (bs.set h { bs.get h with mode := .free }).set r
          { (bs.set h { bs.get h with mode := .free }).get r with mode := .held }) hr
        (by simp only [Three.hold, h1, h2, hheld, hget])
    · have := execHold_answers (s := s) (seq := seq) (t := t) (fun bs => bs) hr (by simp only [Three.hold, h1, h2]; rfl)
      rwa [State.onBuffers_id] at this
    · have := execHold_answers (s := s) (seq := seq) (t := t) (fun bs => bs) hr (by simp only [Three.hold, h1, h2]; rfl)
      rwa [State.onBuffers_id] at this
  · intro p rq hr
    refine ⟨fun hb => ?_, fun h1 h2 h3 => ⟨fun hn => ?_, fun h hh => ?_⟩⟩
    · refine congrArg Host.Outcome.next (State.serve_replied (u := s) hr ((ownReadImage_of ho hl _).trans ?_))
      exact if_neg (by omega)
    · refine congrArg Host.Outcome.next (State.serve_replied (u := s) hr ((ownReadImage_of ho hl _).trans ?_))
      rw [if_pos (by omega), State.heldBuffer_none hn]
      rfl
    · refine congrArg Host.Outcome.next (State.serve_replied (u := s) hr ((ownReadImage_of ho hl _).trans ?_))
      rw [if_pos (by omega), State.heldBuffer_some hh, ← Memory.readBytes_eq]
      rfl
  · intro p rq hr
    refine ⟨fun hb => ?_, fun h1 h2 => ⟨fun hn => ?_, fun h hh => ?_⟩⟩
    · refine congrArg Host.Outcome.next (State.serve_replied (u := s) hr ((ownReadStatus_of hf hc _).trans ?_))
      exact if_neg (by omega)
    · refine congrArg Host.Outcome.next (State.serve_replied (u := s) hr ((ownReadStatus_of hf hc _).trans ?_))
      rw [if_pos (by omega), State.heldBuffer_none hn]
      rfl
    · refine congrArg Host.Outcome.next (State.serve_replied (u := s) hr ((ownReadStatus_of hf hc _).trans ?_))
      rw [if_pos (by omega), State.heldBuffer_some hh]
      rfl

end Sys2Proof.Machine
end

section
/-!
SUPPORT. The time that passes in a step on an empty queue.
-/

set_option Elab.async false

namespace Sys2Proof.Machine

/-! ### Half a tick, and a tick, of the whole machine -/

theorem State.pass_firstHalf {s : State} (hr : s.resetting = none) (hh : s.half = false) : s.pass = s.halfTick := by
  simp only [State.pass, hr, hh, Bool.false_eq_true, if_false]

theorem State.pass_secondHalf {s : State} (hr : s.resetting = none) (hh : s.half = true) :
    s.pass = s.halfTick.nextTick := by
  simp only [State.pass, hr, hh, if_true]

/-- Of what either half of a tick does, the end of the tick changes only device time, timers and supervisor. -/
theorem State.pass_eq {s : State} (hr : s.resetting = none) :
    ∃ time timers supervisor,
      s.pass = { s.halfTick with time := time, timers := timers, supervisor := supervisor } := by
  cases hh : s.half with
  | false => exact ⟨_, _, _, State.pass_firstHalf hr hh⟩
  | true => exact ⟨_, _, _, State.pass_secondHalf hr hh⟩

theorem Timer.advance_inFrame {x : Timer} (hm : x.mode.inFrame = true) (hc : x.closeDue = false) :
    x.advance =
      if x.tick + 1 < x.config.tpr then { x with tick := x.tick + 1, posted := false }
      else if x.round + 1 < x.config.rpf then { x with round := x.round + 1, tick := 0, posted := false }
      else { x with closeDue := true, posted := false } := by
  simp only [Timer.advance, hm, hc, Bool.not_false, Bool.and_self, if_true]

/-- A timer whose frame has ended, or that has none, keeps its position. -/
theorem Timer.advance_rests {x : Timer} (h : x.mode.inFrame = false ∨ x.closeDue = true) :
    x.advance = { x with firstDue := decide (x.mode = .armed), posted := false } := by
  have hb : (x.mode.inFrame && !x.closeDue) = false := by
    obtain h | h := h <;> simp [h]
  rw [Timer.advance, hb]
  rfl

theorem Supervisor.tick_armed {x : Supervisor} (h : x.mode = .armed) :
    x.tick = { x with remaining := x.remaining - 1 } := by
  simp only [Supervisor.tick, h]

theorem Supervisor.tick_rests {x : Supervisor} (h : x.mode ≠ .armed) : x.tick = x := by
  unfold Supervisor.tick
  split
  · exact absurd ‹_› h
  · rfl

theorem Link.halfTick_eq (k : Link) (rxdBusy : Bool) :
    k.halfTick rxdBusy =
      { k with
        gap := k.gap + if rxdBusy then 0 else 1
        sending := k.sending + if k.replies = [] then 0 else k.rate
        early := k.early && rxdBusy } := by
  have hgap : (if rxdBusy then k.gap else k.gap + 1) = k.gap + if rxdBusy then 0 else 1 := by
    cases rxdBusy <;> rfl
  have hsending : (if k.replies.isEmpty then k.sending else k.sending + k.rate) =
      k.sending + if k.replies = [] then 0 else k.rate := by
    cases k.replies <;> rfl
  rw [Link.halfTick, hgap, hsending]

/-- A line whose rate is OFF is not measured (R46, R47). -/
theorem Lane.halfTick_off {x : Lane} (h : x.config.rate = .off) (v : Level) :
    (x.halfTick v).rx = x.rx ∧ (x.halfTick v).quiet = x.quiet ∧ (x.halfTick v).dominant = x.dominant := by
  rw [Lane.halfTick, if_pos h]
  exact ⟨rfl, rfl, rfl⟩

/-- The receiver and the measures of a line (R46, R47, R48). -/
theorem Lane.halfTick_on {x : Lane} (h : x.config.rate ≠ .off) (v : Level) :
    (x.halfTick v).rx = x.rx.hear (2 * x.config.rate.bitTime) (x.level v) ∧
      (x.halfTick v).dominant = (if x.level v = .dominant then x.dominant + 1 else 0) ∧
      (x.halfTick v).quiet =
        if x.level v = .dominant ∨ x.inCharacter v = true then 0 else x.quiet + 1 := by
  rw [Lane.halfTick, if_neg h]
  exact ⟨rfl, rfl, rfl⟩

/-- Settles O2: what passes with half a tick, with a tick, and within a reset. -/
theorem tickAdvancesClocks : Obligations.TickAdvancesClocks := by
  refine ⟨fun s hr => ?_, fun s r hr => ?_⟩
  · obtain ⟨time, timers, supervisor, he⟩ := State.pass_eq hr
    have hlane : ∀ l, s.pass.lane l = (s.lane l).halfTick (s.pins.lines.get l) := fun l => by
      rw [he]
      exact s.halfTick_lane l
    refine ⟨by rw [he]; rfl, by rw [he]; exact hr, fun hh => ?_, fun hh => ?_, ?_, fun l => ?_, by rw [he]; rfl,
      by rw [he]; rfl, by rw [he]; rfl, by rw [he]; rfl, by rw [he]; rfl, by rw [he]; rfl, by rw [he]; rfl,
      by rw [he]; rfl⟩
    · rw [State.pass_firstHalf hr hh]
      exact ⟨rfl, rfl, rfl⟩
    · rw [State.pass_secondHalf hr hh]
      refine ⟨rfl, fun i => ?_, Supervisor.tick_armed, Supervisor.tick_rests⟩
      intro x
      rw [State.nextTick_timer]
      refine ⟨fun hm hc => ?_, Timer.advance_rests⟩
      have ha := Timer.advance_inFrame hm hc
      refine ⟨fun h1 => ?_, fun h1 h2 => ?_, fun h1 h2 => ?_⟩
      · exact ha.trans (if_pos h1)
      · exact ha.trans ((if_neg (by omega)).trans (if_pos h2))
      · exact ha.trans ((if_neg (by omega)).trans (if_neg (by omega)))
    · rw [he]
      exact s.link.halfTick_eq _
    · rw [hlane]
      intro x y input v
      refine ⟨Lane.halfTick_config .., Lane.halfTick_mode .., Lane.halfTick_claims .., Lane.halfTick_sleepPending ..,
        Lane.halfTick_wakePending .., Lane.halfTick_inFlight .., fun h => ?_, fun h => ?_, fun elapsed cut h => ?_,
        fun h => ?_, fun left h => ?_, fun left h => ?_, fun h => Lane.halfTick_off h _, fun h => ?_⟩
      · exact (Lane.halfTick_sleep ..).trans (congrArg _ h)
      · exact (Lane.halfTick_sleep ..).trans (congrArg _ h)
      · exact (Lane.halfTick_sleep ..).trans (congrArg _ h)
      · exact (Lane.halfTick_wake ..).trans (congrArg _ h)
      · exact (Lane.halfTick_wake ..).trans (congrArg _ h)
      · exact (Lane.halfTick_wake ..).trans (congrArg _ h)
      · obtain ⟨hrx, hdominant, hquiet⟩ := Lane.halfTick_on h input
        refine ⟨hrx, hdominant, fun hv => hquiet.trans (if_pos hv), fun hv hc => hquiet.trans (if_neg ?_)⟩
        rintro (hd | hd)
        · exact absurd (hv.symm.trans hd) (by decide)
        · exact absurd (hc.symm.trans hd) (by decide)
  · simp only [State.pass, hr]
    refine ⟨fun hp hrst => if_pos (by simp [hp, hrst]), fun h => if_neg ?_⟩
    obtain h | h := h <;> simp [h]

end Sys2Proof.Machine
end

section
/-!
SUPPORT. The machine at the end of a reset, block by block, and that it meets the invariants.
-/

set_option Elab.async false

namespace Sys2Proof.Machine

/-! ### The blocks at the end of a reset -/

section
variable (pins : Pins) (q : List Instr) (c : Cause)

theorem State.restarted_timer (i : TimerId) : (State.restarted pins q c).timer i = .reset := by
  cases i <;> rfl

theorem State.restarted_table (i : TimerId) : (State.restarted pins q c).table i = .reset := by
  cases i <;> rfl

theorem State.restarted_buffer (i : TimerId) (b : BufId) :
    ((State.restarted pins q c).buffers i).get b = .reset := by
  cases i <;> cases b <;> rfl

theorem State.restarted_output (i : TimerId) : (State.restarted pins q c).output i = .reset := by
  cases i <;> rfl

theorem State.restarted_lane (l : LaneId) : (State.restarted pins q c).lane l = .reset := by
  cases l <;> rfl

theorem State.restarted_roster (l : LaneId) :
    (State.restarted pins q c).roster.get l = List.replicate 15 .reset := by
  cases l <;> rfl

theorem State.restarted_node (l : LaneId) (node : Nat) : (State.restarted pins q c).node l node = .reset := by
  rw [State.node, State.restarted_roster, List.getD_eq_getElem?_getD, List.getElem?_replicate]
  split <;> rfl

theorem State.restarted_find {m : BufMode} (h : m ≠ .free) (i : TimerId) :
    ((State.restarted pins q c).buffers i).find m = none :=
  Three.find_none.mpr fun b => by rw [State.restarted_buffer]; exact h.symm

end

/-- RESET_END once the 5 ms have passed (R165). -/
theorem execResetEnd_restarts {s : State} {cause : Cause} (hr : s.resetting = some { cause := cause, left := 0 })
    (hp : s.pins.powerGood = true) (hrst : s.pins.rst = false) :
    exec .resetEnd s = .next (State.restarted s.pins s.pending cause) := by
  have hover : s.resetOver = true := by simp [State.resetOver, hr, hp, hrst]
  change execResetEnd s = _
  simp only [execResetEnd, hr, hover, if_true]

/-- Settles O6: every block at its reset values once RESET_END is taken. -/
theorem resetEndGivesResetValues : Obligations.ResetEndGivesResetValues := by
  intro s cause hr hp hrst
  refine ⟨_, execResetEnd_restarts hr hp hrst, rfl, rfl, rfl, rfl, fun x => ?_, fun l => ?_, rfl, rfl, rfl, rfl, rfl,
    rfl, rfl, rfl, ?_, rfl⟩
  · rw [State.restarted_timer, State.restarted_table, State.restarted_output]
    refine ⟨rfl, rfl, rfl, rfl, rfl, rfl, rfl, rfl, rfl, rfl, rfl, rfl, rfl, fun b => ?_, fun a => ⟨rfl, rfl, rfl⟩, rfl⟩
    rw [State.restarted_buffer]
    exact ⟨rfl, rfl, rfl, rfl, fun a => rfl, rfl⟩
  · rw [State.restarted_lane, State.restarted_roster]
    exact ⟨rfl, rfl, rfl, rfl, rfl, rfl, rfl, rfl, rfl, rfl, List.length_replicate, fun j =>
      State.restarted_node ..⟩
  · change Config.linkRate s.pins.rate1 s.pins.rate0 = _
    cases s.pins.rate1 <;> cases s.pins.rate0 <;> rfl

/-! ### The invariants at the power-on reset -/

theorem validateFrom_empty (c : TimerConfig) (lanes : Four LaneConfig) (position : Nat) (lower : List ScanEntry)
    (n : Nat) : validateFrom c lanes position lower (List.replicate n none) = none := by
  induction n generalizing position with
  | zero => rfl
  | succ n ih => exact ih _

theorem Tables.reset_valid (c : TimerConfig) (lanes : Four LaneConfig) :
    Table.valid Tables.reset.active c lanes = true := by
  rw [Table.valid, Table.validate, Tables.reset, validateFrom_empty]
  rfl

theorem Lane.reset_ok : Lane.reset.Ok :=
  ⟨rfl, fun _ => rfl, fun h => (by cases h), rfl, rfl, fun h => (by cases h), fun h => (by cases h),
    ⟨fun _ => rfl, fun _ => rfl⟩⟩

theorem Lane.reset_listOk : Lane.reset.ListOk :=
  ⟨[], [], rfl, fun _ h => (by cases h), fun _ h => (by cases h), fun _ h => (by cases h), fun _ h => (by cases h),
    fun _ h => (by cases h)⟩

section
variable (pins : Pins) (q : List Instr) (c : Cause)

theorem State.restarted_notesOk : (State.restarted pins q c).notes.Ok := by
  have hlen : (State.restarted pins q c).notes.records.length = 1 := rfl
  refine ⟨by omega, fun n hn => (by cases hn), fun _ => by omega, ?_⟩
  change [(0 : Half)] = [1 - BitVec.ofNat 16 1]
  decide

theorem State.restarted_tablesOk : (State.restarted pins q c).TablesOk := by
  intro t
  rw [State.restarted_table, State.restarted_timer]
  exact ⟨List.length_replicate, List.length_replicate, Tables.reset_valid _ _, rfl, fun h => (by cases h)⟩

theorem State.restarted_buffersOk : (State.restarted pins q c).BuffersOk := by
  intro t
  rw [State.restarted_timer]
  exact Three.serves_of_free (fun b => by rw [State.restarted_buffer]; rfl) rfl

theorem State.restarted_identitiesOk : (State.restarted pins q c).IdentitiesOk := by
  intro t
  rw [State.restarted_timer, State.restarted_find _ _ _ (by decide)]
  exact ⟨fun b hb => (by cases hb), fun h => (by cases h)⟩

theorem State.restarted_unclaimed (t : TimerId) : (State.restarted pins q c).Unclaimed t := fun l => by
  rw [State.restarted_lane]
  exact ⟨fun k hk => (by cases hk), fun f k hf => (by cases hf)⟩

theorem State.restarted_agesOk : (State.restarted pins q c).AgesOk := by
  refine State.agesOk_iff.mpr ⟨fun t => .of_unclaimed (fun b e he => ?_)
    (State.restarted_unclaimed pins q c t) fun b hb => ?_, fun l f k hf => ?_⟩
  · rw [State.restarted_buffer] at he
    rw [List.eq_of_mem_replicate he]
    unfold Status.AgeOk
    decide
  · rw [State.restarted_find _ _ _ (by decide)] at hb
    cases hb
  · rw [State.restarted_lane] at hf
    cases hf

theorem State.restarted_claimsOk : (State.restarted pins q c).ClaimsOk := by
  intro l
  rw [State.restarted_lane]
  exact ⟨fun k hk => (by cases hk), fun f k hf => (by cases hf)⟩

theorem State.restarted_claimsPlaced : (State.restarted pins q c).ClaimsPlaced := by
  intro l
  rw [State.restarted_lane]
  exact ⟨fun k hk => (by cases hk), fun g a hk => (by cases hk), fun g => Nat.zero_le 1,
    fun f k hf => (by cases hf), fun f g a hf => (by cases hf)⟩

theorem State.restarted_rosterOk : (State.restarted pins q c).RosterOk := by
  intro l
  rw [State.restarted_lane, State.restarted_roster]
  refine ⟨by unfold LaneConfig.Ok; decide, List.length_replicate, fun r hr => ?_⟩
  rw [List.eq_of_mem_replicate hr]
  exact ⟨by decide, rfl⟩

theorem State.restarted_imagesOk : (State.restarted pins q c).ImagesOk := by
  intro t
  rw [State.restarted_output]
  exact ⟨rfl, rfl, rfl, fun b => by rw [State.restarted_buffer]; rfl⟩

theorem State.restarted_lanesOk : (State.restarted pins q c).LanesOk := fun l => by
  rw [State.restarted_lane]
  exact Lane.reset_ok

theorem State.restarted_listsOk : (State.restarted pins q c).ListsOk := fun l => by
  rw [State.restarted_lane]
  exact Lane.reset_listOk

theorem State.restarted_timersOk : (State.restarted pins q c).TimersOk := fun t => by
  rw [State.restarted_timer]
  exact Timer.reset_ok

end

/-- Settles O5: a power-on reset is a reset that has ended, and every such state meets the invariants. -/
theorem resetMeetsInvariants : Obligations.ResetMeetsInvariants :=
  ⟨State.restarted_notesOk _ _ _, State.restarted_imagesOk _ _ _, State.restarted_tablesOk _ _ _,
    State.restarted_buffersOk _ _ _, State.restarted_identitiesOk _ _ _, State.restarted_agesOk _ _ _, ⟨rfl, rfl⟩,
    State.restarted_lanesOk _ _ _, State.restarted_claimsOk _ _ _, State.restarted_claimsPlaced _ _ _,
    State.restarted_listsOk _ _ _, State.restarted_rosterOk _ _ _, State.restarted_timersOk _ _ _,
    ⟨Nat.zero_le 4, Nat.zero_le 4, Nat.zero_le 16, List.nodup_nil⟩⟩

end Sys2Proof.Machine
end

section
/-!
SUPPORT. What a GRANT takes, the quiet budget, and the ticks left to the next open window.
-/

set_option Elab.async false

namespace Sys2Proof.Machine

/-! ### The next open window (R2) -/

section
variable {x : Timer}

theorem mul_add_le_mul {a b c : Nat} (h : a < b) : a * c + c ≤ b * c := by
  rw [← Nat.succ_mul]
  exact Nat.mul_le_mul_right c h

/-- The present tick lies behind tick G of every round before the present one. -/
theorem Timer.Ok.window_past (hx : x.Ok) {r : Nat} (hr : r < x.round) :
    r * x.config.tpr + x.config.g < x.round * x.config.tpr + x.tick := by
  obtain ⟨⟨-, -, hg, -⟩, -⟩ := hx
  have := mul_add_le_mul (c := x.config.tpr) hr
  omega

/-- No window ahead opens at a tick before that of round `r` when the windows up to there have passed. -/
theorem Timer.OpensIn.least {r left ahead : Nat} (hr : r ≤ x.config.rpf)
    (hleft : x.round * x.config.tpr + x.tick + left = r * x.config.tpr + x.config.g)
    (hpast : ∀ j, j < r → j < x.config.rpf - x.config.q →
      j * x.config.tpr + x.config.g ≤ x.round * x.config.tpr + x.tick)
    (ha : 0 < ahead) (h : x.OpensIn ahead) : left ≤ ahead := by
  obtain ⟨j, hj, he⟩ | ⟨-, he⟩ := h
  · by_cases hjr : j < r
    · have := hpast j hjr hj
      omega
    · have := Nat.mul_le_mul_right x.config.tpr (Nat.le_of_not_lt hjr)
      omega
  · have := Nat.mul_le_mul_right x.config.tpr hr
    omega

/-- From round RPF − Q − 1 on, at tick G or later, every window of the frame has opened. -/
theorem Timer.Ok.windows_past (hx : x.Ok) (h1 : ¬ (x.round < x.config.rpf - x.config.q ∧ x.tick < x.config.g))
    {j : Nat} (hj : j ≤ x.round) (hjo : j < x.config.rpf - x.config.q) :
    j * x.config.tpr + x.config.g ≤ x.round * x.config.tpr + x.tick := by
  rcases Nat.lt_or_eq_of_le hj with hlt | rfl
  · exact (hx.window_past hlt).le
  · have : x.config.g ≤ x.tick := by omega
    omega

theorem Timer.Ok.untilOpen_some (hx : x.Ok) {left : Nat} (h : x.untilOpen = some left) :
    0 < left ∧ x.OpensIn left ∧ ∀ ahead, 0 < ahead → x.OpensIn ahead → left ≤ ahead := by
  obtain ⟨⟨-, -, hg, -⟩, hround, htick, -⟩ := id hx
  unfold Timer.untilOpen at h
  split at h
  · next h1 =>
    obtain ⟨hr, ht⟩ := h1
    cases h
    have he : x.round * x.config.tpr + x.tick + (x.config.g - x.tick) = x.round * x.config.tpr + x.config.g := by
      omega
    exact ⟨by omega, .inl ⟨x.round, hr, he⟩, fun ahead ha ho =>
      ho.least hround.le he (fun j hj _ => (hx.window_past hj).le) ha⟩
  · next h1 =>
    split at h
    · next h2 =>
      cases h
      have he : x.round * x.config.tpr + x.tick + (x.config.tpr - x.tick + x.config.g) =
          (x.round + 1) * x.config.tpr + x.config.g := by
        rw [Nat.succ_mul]
        omega
      exact ⟨by omega, .inl ⟨x.round + 1, h2, he⟩, fun ahead ha ho =>
        ho.least (by omega) he (fun j hj => hx.windows_past h1 (Nat.le_of_lt_succ hj)) ha⟩
    · next h2 =>
      split at h
      · cases h
      · next hm =>
        cases h
        have hpos := mul_add_le_mul (c := x.config.tpr) hround
        have he : x.round * x.config.tpr + x.tick +
            ((x.config.rpf - x.round) * x.config.tpr - x.tick + x.config.g) =
            x.config.rpf * x.config.tpr + x.config.g := by
          rw [Nat.sub_mul]
          omega
        refine ⟨by omega, .inr ⟨hm, he⟩, fun ahead ha ho =>
          ho.least (Nat.le_refl _) he (fun j _ hjo => hx.windows_past h1 (by omega) hjo) ha⟩

theorem Timer.Ok.untilOpen_none (hx : x.Ok) (h : x.untilOpen = none) :
    x.mode = .draining ∧ ∀ ahead, 0 < ahead → ¬ x.OpensIn ahead := by
  unfold Timer.untilOpen at h
  split at h
  · cases h
  · next h1 =>
    split at h
    · cases h
    · next h2 =>
      split at h
      · next hm =>
        refine ⟨hm, fun ahead ha ho => ?_⟩
        obtain ⟨j, hj, he⟩ | ⟨hd, -⟩ := ho
        · have := hx.windows_past h1 (by omega) hj
          omega
        · exact hd hm
      · cases h

theorem Timer.inQuietTime_iff :
    x.inQuietTime = true ↔
      x.closeDue = false ∧ (x.config.rpf - x.config.q ≤ x.round ∨ x.config.s ≤ x.tick) := by
  simp only [Timer.inQuietTime, Bool.and_eq_true, Bool.or_eq_true, Bool.not_eq_true', decide_eq_true_eq]

end

/-! ### The quiet budget (R71) -/

theorem Timer.leaves_iff {x : Timer} {wcd : Nat} :
    x.leaves wcd = true ↔ x.inQuietTime = true ∧ ∀ left, x.untilOpen = some left → wcd ≤ left := by
  rw [Timer.leaves, Bool.and_eq_true]
  refine and_congr_right fun _ => ?_
  cases x.untilOpen <;> simp

theorem Table.uses_iff {t : Table} {l : LaneId} : t.uses l = true ↔ ∃ y, some y ∈ t ∧ y.lane = l := by
  rw [Table.uses, List.any_eq_true]
  constructor
  · rintro ⟨_ | y, hy, h⟩
    · cases h
    · exact ⟨y, hy, beq_iff_eq.mp h⟩
  · rintro ⟨y, hy, h⟩
    exact ⟨some y, hy, beq_iff_eq.mpr h⟩

theorem State.budgetOf_iff {s : State} {l : LaneId} {wcd : Nat} {t : TimerId} :
    s.budgetOf l wcd t = true ↔
      ((s.timer t).mode.inFrame = true → (∃ y, some y ∈ (s.table t).active ∧ y.lane = l) →
        (s.timer t).inQuietTime = true ∧ ∀ left, (s.timer t).untilOpen = some left → wcd ≤ left) := by
  rw [← Table.uses_iff, ← Timer.leaves_iff, State.budgetOf]
  cases (s.timer t).mode.inFrame <;> cases (s.table t).active.uses l <;> simp

theorem State.budgetMet_iff {s : State} {l : LaneId} {e : AcyclicEntry} :
    s.budgetMet l e = true ↔
      ∀ t, s.budgetOf l ((s.lane l).config.wcd e.node e.request.length e.m) t = true := by
  rw [State.budgetMet, Bool.and_eq_true]
  exact ⟨fun ⟨ha, hb⟩ t => by cases t <;> assumption, fun h => ⟨h .a, h .b⟩⟩

/-! ### GRANT (R70, R73) -/

/-- On a READY quiet lane, at a tick, the head claim is granted when it gives a transaction. -/
theorem State.grantable_head {s : State} {l : LaneId} {c : Claim} {rest : List Claim} (hr : s.resetting = none)
    (hh : s.half = false) (hm : (s.lane l).mode = .ready)
    (hq : 2 * (2 * (s.lane l).config.rate.byteTime) ≤ (s.lane l).quiet) (hc : (s.lane l).claims = c :: rest) :
    s.grantable l = (s.flightOf l c).map fun f => (f, rest) := by
  have hquiet : (s.lane l).isQuiet = true := decide_eq_true hq
  simp [State.grantable, hr, hh, hm, hquiet, hc, chooseClaim]

theorem execGrant_takes {s : State} {l : LaneId} {f : InFlight} {rest : List Claim}
    (h : s.grantable l = some (f, rest)) :
    exec (.grant l) s = .next
      ((s.onLane l fun x => { x with mode := .busy, claims := rest, inFlight := some f }).markGranted f.claim) := by
  change execGrant l s = _
  rw [execGrant, h]

theorem execGrant_waits {s : State} {l : LaneId} (h : s.grantable l = none) : exec (.grant l) s = .next s := by
  change execGrant l s = _
  rw [execGrant, h]

theorem State.cyclicFlight_of {s : State} {k : CyclicClaim} {e : ScanEntry}
    (h : s.entry k.timer k.position = some e) :
    s.cyclicFlight k = some
      { claim := .cyclic k, node := e.node, op := e.op, m := e.m
        request := (List.range e.n).map fun i => (s.output k.timer).active.read (e.outOffset + i)
        orphan := false, elapsed := 0, received := [], lastEnd := 0 } := by
  rw [State.cyclicFlight, h, ← Memory.readBytes_eq]
  rfl

theorem State.acyclicFlight_of {s : State} {l : LaneId} {tag : Half} {a : Attempt} {e : AcyclicEntry}
    (h : s.acyclicEntry tag = some e) :
    s.acyclicFlight l tag a =
      if s.budgetMet l e then
        some { claim := .acyclic tag a, node := e.node, op := e.op, m := e.m, request := e.request
               orphan := false, elapsed := 0, received := [], lastEnd := 0 }
      else none := by
  rw [State.acyclicFlight, h]

/-- Settles O48: the claim a GRANT takes, the quiet budget and the ticks it leaves. -/
theorem grantTakesFrontClaim : Obligations.GrantTakesFrontClaim := by
  refine ⟨fun s l c rest hr hh hm hq hc => ?_, fun s l hh => execGrant_waits ?_, fun x => Timer.inQuietTime_iff,
    fun x hx => ⟨fun left h => hx.untilOpen_some h, hx.untilOpen_none⟩⟩
  · have hg := State.grantable_head hr hh hm hq hc
    refine ⟨fun k e hk he => ?_, fun tag a e hk he => ?_⟩
    · subst hk
      rw [State.flightOf, State.cyclicFlight_of he] at hg
      exact execGrant_takes hg
    · subst hk
      rw [State.flightOf, State.acyclicFlight_of he] at hg
      intro byteTime wcd budget
      have hbudget : s.budgetMet l e = true ↔ budget :=
        State.budgetMet_iff.trans (forall_congr' fun t => State.budgetOf_iff)
      refine ⟨fun hb => ?_, fun hb => ?_⟩
      · rw [if_pos (hbudget.mpr hb)] at hg
        exact execGrant_takes hg
      · rw [if_neg (mt hbudget.mp hb)] at hg
        exact execGrant_waits hg
  · simp [State.grantable, hh]

end Sys2Proof.Machine
end

section
/-!
SUPPORT. What every kind makes of a payload that does not fit it (R160 step 3, R168).
-/

set_option Elab.async false

namespace Sys2Proof.Machine

/-! ### Codes outside their sets -/

theorem laneOf_none {n : Nat} (h : 3 < n) : laneOf n = none := by
  match n with
  | 0 | 1 | 2 | 3 => omega
  | n + 4 => rfl

theorem rateOf_none {n : Nat} (h : 4 < n) : rateOf n = none := by
  match n with
  | 0 | 1 | 2 | 3 | 4 => omega
  | n + 5 => rfl

theorem opOf_some {n : Nat} {op : Op} (h : opOf n = some op) : n = op.code.toNat := by
  match n with
  | 0 | 1 | 2 => cases h; rfl
  | n + 3 => cases h

theorem laneOf_some {n : Nat} {l : LaneId} (h : laneOf n = some l) : n ≤ 3 :=
  Nat.not_lt.mp fun hn => by simp [laneOf_none hn] at h

theorem rateOf_some {n : Nat} {r : Rate} (h : rateOf n = some r) : n ≤ 4 :=
  Nat.not_lt.mp fun hn => by simp [rateOf_none hn] at h

/-! ### Malformed payloads -/

/-- The request kinds (R167). -/
def requestKinds : List Kind :=
  [0x01, 0x02, 0x03, 0x04, 0x05, 0x06, 0x07, 0x08, 0x0A, 0x0B, 0x0C, 0x0D, 0x0E, 0x0F, 0x10, 0x11, 0x12, 0x13, 0x14,
    0x15, 0x16, 0x17, 0x18, 0x19, 0x1A, 0x1B, 0x1C]

theorem mem_requestKinds {kind : Kind} (h : isRequestKind kind = true) : kind ∈ requestKinds := by
  revert kind
  decide

/-- The kinds whose payload begins with a timer (R168). -/
def timerKinds : List Kind :=
  [0x06, 0x07, 0x08, 0x0A, 0x0B, 0x0C, 0x0D, 0x0E, 0x0F, 0x10, 0x11, 0x14, 0x15, 0x16, 0x17]

/-- The payload does not fit its kind: its length, its timer, or another field (R160 step 3). -/
def Malformed (kind : Kind) (p : List Byte) : Prop :=
  payloadFits kind p = false ∨ (1 < byteAt p 0 ∧ kind ∈ timerKinds) ∨ fieldOutside kind p = true

/-- The owner of a kind of fixed length, without a timer, refuses a malformed payload when it does so for a field. -/
theorem Malformed.refused {kind : Kind} {n : Nat} {p : List Byte} {s : State} {a : State × Answer}
    (h : Malformed kind p) (hn : payloadFits kind p = (p.length == n)) (ht : kind ∉ timerKinds)
    (ha : fieldOutside kind p = true → a = refuse .badArg s) :
    (if p.length = n then a else refuse .badArg s) = refuse .badArg s := by
  split
  · next hl =>
    obtain hfits | ⟨-, hk⟩ | hf := h
    · simp [hn, hl] at hfits
    · exact absurd hk ht
    · exact ha hf
  · rfl

/-- The owner of a kind of fixed length that begins with a timer refuses a malformed payload when it does so for a
field other than the timer. -/
theorem Malformed.refused_timer {kind : Kind} {n : Nat} {p : List Byte} {s : State} {act : TimerId → State × Answer}
    (h : Malformed kind p) (hn : payloadFits kind p = (p.length == n))
    (hact : fieldOutside kind p = true → ∀ t, act t = refuse .badArg s) :
    (if p.length = n then
      match timerOf (byteAt p 0) with
      | some t => act t
      | none => refuse .badArg s
    else refuse .badArg s) = refuse .badArg s := by
  split
  · next hl =>
    split
    · next t ht =>
      obtain hfits | ⟨h1, -⟩ | hf := h
      · simp [hn, hl] at hfits
      · simp [timerOf_none h1] at ht
      · exact hact hf t
    · rfl
  · rfl

theorem parseWrite_none {kind : Kind} {p : List Byte} (hk : kind = 0x0F ∨ kind = 0x10) (h : Malformed kind p) :
    parseWrite p = none := by
  have hfits : payloadFits kind p = (decide (4 ≤ p.length) && p.length == 4 + byteAt p 3) := by
    obtain rfl | rfl := hk <;> rfl
  have hfield : fieldOutside kind p = false := by
    obtain rfl | rfl := hk <;> rfl
  unfold parseWrite
  split
  · next hl =>
    obtain h | ⟨h1, -⟩ | h := h
    · simp [hfits, hl] at h
    · rw [timerOf_none h1, ite_self]
    · simp [hfield] at h
  · rfl

theorem parseLaneConfig_none {p : List Byte}
    (h : 4 < byteAt p 1 ∨ halfAt p 2 < 20 ∨ 2000 < halfAt p 2 ∨ byteAt p 4 = 0 ∨ 15 < byteAt p 4 ∨ byteAt p 5 = 0) :
    parseLaneConfig p = none := by
  unfold parseLaneConfig
  split
  · next r hr =>
    have := rateOf_some hr
    exact if_neg (by omega)
  · rfl

theorem parseNode_none {p : List Byte} (h : 3 < byteAt p 0 ∨ byteAt p 1 = 0 ∨ 15 < byteAt p 1) :
    parseNode p = none := by
  unfold parseNode
  split
  · next l hl =>
    have := laneOf_some hl
    exact if_neg (by omega)
  · rfl

theorem parseTransact_none {p : List Byte} (h : fieldOutside 0x18 p = true) (now : Time) :
    parseTransact p now = none := by
  have hout := of_decide_eq_true h
  unfold parseTransact
  split
  · next l op hl hop =>
    have hlane := laneOf_some hl
    have hcode := opOf_some hop
    refine if_neg fun ⟨h3, h5, h6, h7, h9, hnode, hlengths⟩ => ?_
    cases op <;> simp [Op.code, nodeFits, lengthsFit] at hcode hnode hlengths <;> omega
  · rfl

theorem Malformed.ne_nil {kind : Kind} {p : List Byte} (h : Malformed kind p)
    (hn : payloadFits kind p = (p.length == 0)) (ht : kind ∉ timerKinds) (hf : fieldOutside kind p = false) :
    p ≠ [] := by
  rintro rfl
  obtain h | ⟨-, h⟩ | h := h
  · simp [hn] at h
  · exact ht h
  · simp [hf] at h

/-! ### The owners of the kinds that check a field -/

section
variable {p : List Byte} (s : State)

theorem ownQuery_malformed (h : Malformed 0x01 p) : ownQuery p s = refuse .badArg s := by
  cases p with
  | nil => exact absurd rfl (h.ne_nil rfl (by decide) rfl)
  | cons b p => rfl

theorem ownResume_malformed (h : Malformed 0x13 p) : ownResume p s = refuse .badArg s := by
  cases p with
  | nil => exact absurd rfl (h.ne_nil rfl (by decide) rfl)
  | cons b p => rfl

theorem ownConfigureLane_malformed (h : Malformed 0x03 p) : ownConfigureLane p s = refuse .badArg s := by
  refine h.refused rfl (by decide) fun hf => ?_
  obtain hlane | hfields := of_decide_eq_true hf
  · rw [laneOf_none hlane]
  · rw [parseLaneConfig_none hfields]
    cases laneOf (byteAt p 0) <;> rfl

theorem ownSleepLane_malformed (h : Malformed 0x04 p) : ownSleepLane p s = refuse .badArg s :=
  h.refused rfl (by decide) fun hf => by rw [laneOf_none (of_decide_eq_true hf)]

theorem ownWakeLane_malformed (h : Malformed 0x05 p) : ownWakeLane p s = refuse .badArg s :=
  h.refused rfl (by decide) fun hf => by rw [laneOf_none (of_decide_eq_true hf)]

theorem ownStop_malformed (h : Malformed 0x08 p) {code : Nat} (hc : code ≤ 1) (act : State → TimerId → State) :
    ownStop p code act s = refuse .badArg s :=
  h.refused_timer rfl fun hf _ => if_neg fun he => by
    have : 1 < byteAt p 1 := of_decide_eq_true hf
    omega

theorem ownStageEntry_malformed (h : Malformed 0x0A p) : ownStageEntry p s = refuse .badArg s :=
  h.refused_timer rfl fun hf _ => if_neg (by have := of_decide_eq_true hf; omega)

theorem ownReadEntry_malformed (h : Malformed 0x0C p) : ownReadEntry p s = refuse .badArg s :=
  h.refused_timer rfl fun hf _ => if_neg (by have := of_decide_eq_true hf; omega)

theorem ownWriteOutput_malformed (h : Malformed 0x0F p) : ownWriteOutput p s = refuse .badArg s := by
  rw [ownWriteOutput, parseWrite_none (.inl rfl) h]

theorem ownWriteFallback_malformed (h : Malformed 0x10 p) : ownWriteFallback p s = refuse .badArg s := by
  rw [ownWriteFallback, parseWrite_none (.inr rfl) h]

theorem ownTransact_malformed (h : Malformed 0x18 p) : ownTransact p s = refuse .badArg s := by
  unfold ownTransact
  split
  · next hl =>
    obtain h | ⟨-, h⟩ | h := h
    · rw [show payloadFits 0x18 p = (decide (10 ≤ p.length) && p.length == 10 + byteAt p 5) from rfl] at h
      simp [hl] at h
    · exact absurd h (by decide)
    · rw [parseTransact_none h]
  · rfl

theorem ownReadNode_malformed (h : Malformed 0x1A p) : ownReadNode p s = refuse .badArg s :=
  h.refused rfl (by decide) fun hf => by rw [parseNode_none (of_decide_eq_true hf)]

theorem ownForgetNode_malformed (h : Malformed 0x1B p) : ownForgetNode p s = refuse .badArg s :=
  h.refused rfl (by decide) fun hf => by rw [parseNode_none (of_decide_eq_true hf)]

end

/-! ### The rows -/

section
variable {s : State} {seq : Byte} {p : List Byte}

/-- A request whose owner refuses its payload. -/
theorem State.serve_badArg {kind : Kind} {owner : State → State × Answer}
    (hr : s.ready (requestOf seq kind p) = true) (h : owner s.taken = refuse .badArg s.taken) :
    (.next (s.serve seq kind p owner) : Host.Outcome State Fault Refusal) =
      .next (s.replied (requestOf seq kind p) .badArg []) :=
  congrArg Host.Outcome.next (State.serve_replied (u := s) hr h)

/-- Either row of STOP answers a malformed payload, whichever its mode names (log 16). -/
theorem exec_rowOf_stop (hr : s.ready (requestOf seq 0x08 p) = true) (h : Malformed 0x08 p) :
    exec (rowOf seq 0x08 p) s = .next (s.replied (requestOf seq 0x08 p) .badArg []) := by
  change exec (if stopModeIs p 1 then .stopNow seq p else .stopEnd seq p) s = _
  split
  · next h1 =>
    have h0 : stopModeIs p 0 = false := by
      simp only [stopModeIs, Bool.and_eq_true, beq_iff_eq] at h1
      simp [stopModeIs, h1]
    change execStopNow seq p s = _
    rw [execStopNow, h0]
    exact State.serve_badArg hr (ownStop_malformed _ h (by decide) _)
  · next h1 =>
    change execStopEnd seq p s = _
    rw [execStopEnd, if_neg h1]
    exact State.serve_badArg hr (ownStop_malformed _ h (by decide) _)

/-- Every kind but RESET answers a malformed payload with BAD_ARG. -/
theorem exec_rowOf_malformed :
    ∀ kind ∈ requestKinds, kind ≠ 0x02 → s.ready (requestOf seq kind p) = true → Malformed kind p →
      exec (rowOf seq kind p) s = .next (s.replied (requestOf seq kind p) .badArg []) := by
  simp only [requestKinds, List.forall_mem_cons, List.not_mem_nil, false_imp_iff, implies_true, and_true]
  refine ⟨fun _ hr h => State.serve_badArg hr (ownQuery_malformed _ h), fun h => absurd rfl h,
    fun _ hr h => State.serve_badArg hr (ownConfigureLane_malformed _ h),
    fun _ hr h => State.serve_badArg hr (ownSleepLane_malformed _ h),
    fun _ hr h => State.serve_badArg hr (ownWakeLane_malformed _ h),
    fun _ hr h => State.serve_badArg (owner := ownConfigureTimer p) hr (h.refused_timer rfl nofun),
    fun _ hr h => State.serve_badArg (owner := ownStart p) hr (h.refused_timer rfl nofun),
    fun _ hr h => exec_rowOf_stop hr h,
    fun _ hr h => State.serve_badArg hr (ownStageEntry_malformed _ h),
    fun _ hr h => State.serve_badArg (owner := ownClearStaged p) hr (h.refused_timer rfl nofun),
    fun _ hr h => State.serve_badArg hr (ownReadEntry_malformed _ h),
    fun _ hr h => State.serve_badArg (owner := ownCommit p) hr (h.refused_timer rfl nofun),
    fun _ hr h => State.serve_badArg (owner := ownWithdraw p) hr (h.refused_timer rfl nofun),
    fun _ hr h => State.serve_badArg hr (ownWriteOutput_malformed _ h),
    fun _ hr h => State.serve_badArg hr (ownWriteFallback_malformed _ h),
    fun _ hr h => State.serve_badArg (owner := ownPublish p) hr (h.refused_timer rfl nofun),
    fun _ hr h => State.serve_badArg (owner := ownSetSupervision p) hr (h.refused rfl (by decide) nofun),
    fun _ hr h => State.serve_badArg hr (ownResume_malformed _ h),
    fun _ hr h => State.serve_badArg (owner := ownHold p) hr (h.refused_timer rfl nofun),
    fun _ hr h => State.serve_badArg (owner := ownReadImage p) hr (h.refused_timer rfl nofun),
    fun _ hr h => State.serve_badArg (owner := ownReadStatus p) hr (h.refused_timer rfl nofun),
    fun _ hr h => State.serve_badArg (owner := ownRelease p) hr (h.refused_timer rfl nofun),
    fun _ hr h => State.serve_badArg hr (ownTransact_malformed _ h),
    fun _ hr h => State.serve_badArg (owner := ownCancel p) hr (h.refused rfl (by decide) nofun),
    fun _ hr h => State.serve_badArg hr (ownReadNode_malformed _ h),
    fun _ hr h => State.serve_badArg hr (ownForgetNode_malformed _ h),
    fun _ hr h => State.serve_badArg (owner := ownFetch p) hr (h.refused rfl (by decide) nofun)⟩

/-- A RESET with a payload is answered outside the last-taken record (log 14). -/
theorem exec_reset_malformed (hr : s.ready (requestOf seq 0x02 p) = true) (h : p ≠ []) :
    exec (.reset seq p) s =
      .next { s with link := s.link.sends ((requestOf seq 0x02 p).reply .badArg []) } := by
  change execReset seq p s = _
  rw [execReset, State.take_ready _ hr]
  cases p with
  | nil => exact absurd rfl h
  | cons b p => rfl

end

/-- Settles O10: a payload that does not fit its kind, in its length, its timer or another field checked first. -/
theorem malformedPayloadGetsBadArg : Obligations.MalformedPayloadGetsBadArg := by
  intro s seq kind p hk hr
  have hmem := mem_requestKinds hk
  refine ⟨fun hl hne => exec_rowOf_malformed kind hmem hne hr (.inl hl), fun hl he => ?_, fun _ h1 ht => ?_,
    fun _ hf => ?_⟩
  · subst he
    exact exec_reset_malformed hr (by rintro rfl; cases hl)
  · exact exec_rowOf_malformed kind hmem (by rintro rfl; revert ht; decide) hr (.inr (.inl ⟨h1, ht⟩))
  · exact exec_rowOf_malformed kind hmem (by rintro rfl; cases hf) hr (.inr (.inr hf))

end Sys2Proof.Machine
end

section
/-!
SUPPORT. Every step keeps the tables valid (section 2.8, R22, R35, R41 to R43): what leaves tables, configurations and
pending commits alone is said once (`State.SameTables`), and each operation that does not is shown to keep them valid.
-/

set_option Elab.async false

namespace Sys2Proof.Machine

/-! ### The tables of one timer -/

/-- What `State.TablesOk` says of the tables of one timer. -/
structure Tables.Ok (x : Tables) (c : Timer) (lanes : Four LaneConfig) : Prop where
  activeLength : x.active.length = 64
  stagedLength : x.staged.length = 64
  active : x.active.valid c.config lanes = true
  frozen : x.frozen = c.pendingCommit
  pending : c.pendingCommit = true →
    x.staged.valid c.config lanes = true ∧ c.mode ≠ .stopped ∧ c.mode ≠ .armed

theorem State.tablesOk_iff {s : State} : s.TablesOk ↔ ∀ i, (s.table i).Ok (s.timer i) s.laneConfigs :=
  ⟨fun h i => have ⟨h1, h2, h3, h4, h5⟩ := h i; ⟨h1, h2, h3, h4, h5⟩,
    fun h i => have ⟨h1, h2, h3, h4, h5⟩ := h i; ⟨h1, h2, h3, h4, h5⟩⟩

/-- No commit is pending while the timer is STOPPED or ARMED (R35). -/
theorem Tables.Ok.not_pending {x : Tables} {c : Timer} {lanes : Four LaneConfig} (h : x.Ok c lanes)
    (hm : c.mode = .stopped ∨ c.mode = .armed) : c.pendingCommit = false :=
  Bool.eq_false_iff.mpr fun hp =>
    have ⟨_, hs, ha⟩ := h.pending hp
    hm.elim hs ha

/-- With no commit pending the state of the timer does not matter. -/
theorem Tables.Ok.of_settled {x : Tables} {c : Timer} {lanes : Four LaneConfig}
    (hactive : x.active.length = 64) (hstaged : x.staged.length = 64) (hv : x.active.valid c.config lanes = true)
    (hf : x.frozen = false) (hp : c.pendingCommit = false) : x.Ok c lanes :=
  ⟨hactive, hstaged, hv, hf.trans hp.symm, fun h => by rw [hp] at h; cases h⟩

/-- A pending commit, if there is one, is applied, and none is pending any more (R19, R35). -/
theorem Tables.Ok.applied {x : Tables} {c d : Timer} {lanes : Four LaneConfig} (h : x.Ok c lanes)
    (hconfig : d.config = c.config) (hd : d.pendingCommit = false) :
    (if c.pendingCommit then x.apply else x).Ok d lanes := by
  split
  · next hp => exact .of_settled h.stagedLength h.stagedLength (hconfig ▸ (h.pending hp).1) rfl hd
  · next hp =>
    exact .of_settled h.activeLength h.stagedLength (hconfig ▸ h.active) (h.frozen.trans (Bool.eq_false_iff.mpr hp)) hd

/-! ### Changes in which no table takes part -/

/-- A timer keeps its configuration and its pending commit, and a state in which a commit may be pending. -/
structure Timer.KeepsCommit (x y : Timer) : Prop where
  config : y.config = x.config
  pending : y.pendingCommit = x.pendingCommit
  mode : x.mode.hasFilling = true → y.mode.hasFilling = true

theorem Timer.KeepsCommit.refl (x : Timer) : x.KeepsCommit x := ⟨rfl, rfl, id⟩

theorem Timer.KeepsCommit.trans {x y z : Timer} (h : x.KeepsCommit y) (k : y.KeepsCommit z) : x.KeepsCommit z :=
  ⟨k.config.trans h.config, k.pending.trans h.pending, k.mode ∘ h.mode⟩

theorem TimerMode.hasFilling_iff {m : TimerMode} : m.hasFilling = true ↔ m ≠ .stopped ∧ m ≠ .armed := by
  cases m <;> decide

theorem Tables.Ok.of_timer {x : Tables} {c d : Timer} {lanes : Four LaneConfig} (h : x.Ok c lanes)
    (k : c.KeepsCommit d) : x.Ok d lanes :=
  ⟨h.activeLength, h.stagedLength, k.config ▸ h.active, h.frozen.trans k.pending.symm, fun hp =>
    have ⟨hv, hm⟩ := h.pending (k.pending ▸ hp)
    ⟨k.config ▸ hv, TimerMode.hasFilling_iff.mp (k.mode (TimerMode.hasFilling_iff.mpr hm))⟩⟩

/-- A change in which no table, no configuration and no pending commit takes part. -/
structure State.SameTables (s t : State) : Prop where
  tables : t.tables = s.tables
  timers : ∀ i, (s.timer i).KeepsCommit (t.timer i)
  lanes : ∀ l, (t.lane l).config = (s.lane l).config

theorem State.SameTables.trans {s t u : State} (h : s.SameTables t) (k : t.SameTables u) : s.SameTables u :=
  ⟨k.tables.trans h.tables, fun i => (h.timers i).trans (k.timers i), fun l => (k.lanes l).trans (h.lanes l)⟩

theorem State.SameTables.of_configs {s t : State} (hlanes : ∀ l, (t.lane l).config = (s.lane l).config)
    (htables : t.tables = s.tables := by simp) (htimers : t.timers = s.timers := by simp) : s.SameTables t where
  tables := htables
  timers i := by simp only [State.timer, htimers]; exact .refl _
  lanes := hlanes

theorem State.SameTables.of_same {s t : State} (htables : t.tables = s.tables := by simp)
    (htimers : t.timers = s.timers := by simp) (hlanes : t.lanes = s.lanes := by simp) : s.SameTables t :=
  .of_configs (fun l => by simp only [State.lane, hlanes]) htables htimers

theorem State.SameTables.refl (s : State) : s.SameTables s := .of_same

theorem State.SameTables.onTimer {s : State} {i : TimerId} {f : Timer → Timer}
    (h : (s.timer i).KeepsCommit (f (s.timer i))) : s.SameTables (s.onTimer i f) where
  tables := rfl
  timers j := by
    rw [State.onTimer_timer]
    split
    · next hj => subst hj; exact h
    · exact .refl _
  lanes _ := rfl

theorem State.SameTables.onLane {s : State} {l : LaneId} {f : Lane → Lane}
    (h : (f (s.lane l)).config = (s.lane l).config := by rfl) : s.SameTables (s.onLane l f) :=
  .of_configs (fun m => by
    rw [State.onLane_lane]
    split
    · next hm => subst hm; exact h
    · rfl) rfl rfl

/-- A lane's own change that at most notifies. -/
theorem State.SameTables.onLane_notify {s : State} {l : LaneId} {f : Lane → Lane} {body : NoteBody}
    (h : (f (s.lane l)).config = (s.lane l).config := by rfl) : s.SameTables ((s.onLane l f).notify body) :=
  .trans (.onLane h) .of_same

theorem State.laneConfigs_congr {s t : State} (h : ∀ l, (t.lane l).config = (s.lane l).config) :
    t.laneConfigs = s.laneConfigs := by
  have h0 := h .l0
  have h1 := h .l1
  have h2 := h .l2
  have h3 := h .l3
  simp_all [State.laneConfigs, Four.map, State.lane, Four.get]

/-- A change that keeps the tables valid. -/
def State.KeepsTables (s t : State) : Prop := s.TablesOk → t.TablesOk

theorem State.KeepsTables.refl (s : State) : s.KeepsTables s := id

/-- What leaves the tables and what they are checked against alone keeps them valid. -/
theorem State.SameTables.keeps {s t : State} (h : s.SameTables t) : s.KeepsTables t := fun hs =>
  State.tablesOk_iff.mpr fun i => by
    rw [State.laneConfigs_congr h.lanes, State.table, h.tables]
    exact (State.tablesOk_iff.mp hs i).of_timer (h.timers i)

theorem State.KeepsTables.after {s t u : State} (h : s.SameTables t) (k : t.KeepsTables u) : s.KeepsTables u :=
  k ∘ h.keeps

theorem State.KeepsTables.same {s t u : State} (h : s.KeepsTables t) (k : t.SameTables u) : s.KeepsTables u :=
  k.keeps ∘ h

/-! ### The lanes keep their configurations -/

theorem State.resolveAll_sameTables (s : State) (l : LaneId) (o : Outcome) : s.SameTables (s.resolveAll l o) :=
  .of_configs fun m => by rw [State.resolveAll_lane]; split <;> rfl

theorem State.enterSleeping_sameTables (s : State) (l : LaneId) : s.SameTables (s.enterSleeping l) :=
  .trans .onLane (State.resolveAll_sameTables _ _ _)

theorem State.clearFlight_sameTables (s : State) (l : LaneId) : s.SameTables (s.clearFlight l) := by
  unfold State.clearFlight
  dsimp only
  split
  · exact .trans .onLane (State.enterSleeping_sameTables _ _)
  · exact .onLane

theorem State.placeRetry_sameTables (s : State) (l : LaneId) (o : Outcome) (c : Claim) :
    s.SameTables (s.placeRetry l o c) := by
  cases c with
  | cyclic k => exact .onLane (f := fun x => { x with claims := .cyclic k :: x.claims })
  | acyclic tag a =>
    exact .trans (t := s.onLane l fun x => { x with claims := insertAcyclicRetry (.acyclic tag a) x.claims }) .onLane
      (.of_same rfl rfl rfl)

theorem State.endTransaction_sameTables (s : State) (l : LaneId) (f : InFlight) (o : Outcome) (d : List Byte) :
    s.SameTables (s.endTransaction l f o d) := by
  unfold State.endTransaction
  split
  · exact (s.clearFlight_sameTables l).trans (State.placeRetry_sameTables _ _ _ _)
  · exact (s.clearFlight_sameTables l).trans .of_same

theorem State.dropAcyclic_sameTables (s : State) (e : AcyclicEntry) (o : Outcome) : s.SameTables (s.dropAcyclic e o) :=
  .trans (t := s.onLane e.lane fun x => { x with claims := x.claims.filter fun c => !c.hasTag e.tag }) .onLane
    (.of_same (hlanes := s.dropAcyclic_lanes e o))

theorem State.closeFrame_sameTables (s : State) (i : TimerId) : s.SameTables (s.closeFrame i) :=
  .of_configs fun l => by rw [State.closeFrame_lane]; rfl

theorem State.withdrawn_sameTables (s : State) (i : TimerId) : s.SameTables (s.withdrawn i) :=
  .of_configs fun l => by rw [State.withdrawn_lane]; rfl

theorem State.post_sameTables (s : State) (e : ScanEntry) (c : CyclicClaim) : s.SameTables (s.post e c) := by
  obtain ⟨hl, -⟩ | ⟨hl, -⟩ | h := s.post_cases e c
  · exact .trans (t := s.enlist e.lane c) .onLane (.of_same (hlanes := hl))
  · exact .of_same (hlanes := hl)
  · rw [h]; exact .refl s

theorem State.postAll_sameTables (s : State) (i : TimerId) : s.SameTables (s.postAll i) :=
  State.postAll_keeps (P := s.SameTables) (.refl s)
    (fun u _ e _ _ _ h => h.trans (u.post_sameTables e _)) fun _ _ h => h.trans (.onTimer ⟨rfl, rfl, id⟩)

/-! ### Frame start and stop apply a pending commit -/

theorem State.stopped_table (s : State) (i j : TimerId) :
    (s.stopped i).table j =
      if j = i ∧ (s.timer i).pendingCommit = true then (s.table j).apply else s.table j := by
  unfold State.stopped State.table
  dsimp only
  split
  · next h =>
    rw [Two.get_set]
    split
    · next hj => subst hj; rw [if_pos ⟨rfl, h⟩]; rfl
    · next hj => rw [if_neg fun hn => hj hn.1]
  · next h => rw [if_neg fun hn => h hn.2]

theorem State.frameStart_table (s : State) (i j : TimerId) :
    (s.frameStart i).table j =
      if j = i ∧ (s.timer i).pendingCommit = true then (s.table j).apply else s.table j := by
  cases hc : (s.timer i).pendingCommit <;> cases hp : (s.timer i).pendingPublish <;>
    simp [State.frameStart, State.startCommit, State.applyPublish, State.markPositions, hc, hp, State.onTables_table]

/-- An operation that applies a timer's pending commit, if there is one, keeps the tables valid. -/
theorem State.TablesOk.applies {s t : State} {i : TimerId} (hs : s.TablesOk)
    (htable : ∀ j, t.table j = if j = i ∧ (s.timer i).pendingCommit = true then (s.table j).apply else s.table j)
    (hother : ∀ j, j ≠ i → t.timer j = s.timer j) (hconfig : (t.timer i).config = (s.timer i).config)
    (hpending : (t.timer i).pendingCommit = false) (hlanes : t.lanes = s.lanes) : t.TablesOk :=
  State.tablesOk_iff.mpr fun j => by
    have hj := State.tablesOk_iff.mp hs j
    rw [htable, State.laneConfigs_congr (s := s) fun l => by simp only [State.lane, hlanes]]
    by_cases h : j = i
    · subst h
      simp only [true_and]
      exact hj.applied hconfig hpending
    · rw [if_neg fun hn => h hn.1, hother j h]
      exact hj

theorem State.TablesOk.stopped {s : State} (hs : s.TablesOk) (i : TimerId) : (s.stopped i).TablesOk :=
  hs.applies (s.stopped_table i) (fun _ h => s.stopped_timer_other h) (by rw [State.stopped_timer_same])
    (by rw [State.stopped_timer_same]) (by simp)

theorem State.TablesOk.frameStart {s : State} (hs : s.TablesOk) (i : TimerId) : (s.frameStart i).TablesOk :=
  hs.applies (s.frameStart_table i) (fun _ h => s.frameStart_timer_other h) (by rw [State.frameStart_timer_same])
    (by rw [State.frameStart_timer_same]) (by simp)

theorem State.TablesOk.openFirst {s t : State} {i : TimerId} (hs : s.TablesOk) (h : s.openFirst i = some t) :
    t.TablesOk := by
  unfold State.openFirst at h
  rw [Option.map_eq_some_iff] at h
  obtain ⟨u, hu, rfl⟩ := h
  obtain ⟨bs, -, rfl⟩ := State.firstFrame_some hu
  have hbuffers : (s.onBuffers i fun _ => bs).TablesOk := State.SameTables.keeps .of_same hs
  exact (State.postAll_sameTables _ i).keeps (hbuffers.frameStart i)

theorem State.TablesOk.openNext {s : State} (hs : s.TablesOk) (i : TimerId) : (s.openNext i).TablesOk :=
  have hframe : (s.onTimer i fun x => { x with frame := x.frame + 1 }).TablesOk :=
    (State.SameTables.onTimer ⟨rfl, rfl, id⟩).keeps hs
  (State.postAll_sameTables _ i).keeps (hframe.frameStart i)

theorem State.TablesOk.close {s t : State} {i : TimerId} (hs : s.TablesOk) (h : s.close i = some t) : t.TablesOk := by
  have hclosed : (s.closeFrame i).TablesOk := (s.closeFrame_sameTables i).keeps hs
  unfold State.close at h
  dsimp only at h
  split at h
  · cases h
    rw [State.drain_eq_stopped]
    exact hclosed.stopped i
  · rw [Option.map_eq_some_iff] at h
    obtain ⟨u, hu, rfl⟩ := h
    obtain ⟨bs, -, rfl⟩ := State.prepareNext_some hu
    have hprepared : ((s.closeFrame i).onBuffers i fun _ => bs).TablesOk := State.SameTables.keeps .of_same hclosed
    split
    · exact (State.SameTables.onTimer ⟨rfl, rfl, fun _ => rfl⟩).keeps hprepared
    · exact hprepared.openNext i

theorem State.TablesOk.stopWaiting {s : State} (hs : s.TablesOk) (i : TimerId) : (s.stopWaiting i).TablesOk := by
  rw [State.stopWaiting_eq_stopped]
  exact State.TablesOk.stopped (State.SameTables.keeps .of_same hs) i

theorem State.TablesOk.stopRunning {s : State} (hs : s.TablesOk) (i : TimerId) : (s.stopRunning i).TablesOk := by
  rw [State.stopRunning_eq_stopped]
  exact State.TablesOk.stopped ((s.withdrawn_sameTables i).keeps hs) i

/-! ### Changes of one timer and its tables -/

/-- A change of one timer and its tables, the lanes as they were. -/
theorem State.TablesOk.of_one {s t : State} {i : TimerId} (hs : s.TablesOk)
    (hi : (t.table i).Ok (t.timer i) s.laneConfigs) (htable : ∀ j, j ≠ i → t.table j = s.table j)
    (htimer : ∀ j, j ≠ i → t.timer j = s.timer j) (hlanes : t.lanes = s.lanes := by simp) : t.TablesOk :=
  State.tablesOk_iff.mpr fun j => by
    rw [State.laneConfigs_congr (s := s) fun l => by simp only [State.lane, hlanes]]
    by_cases h : j = i
    · subst h; exact hi
    · rw [htable j h, htimer j h]; exact State.tablesOk_iff.mp hs j

/-- A change of a timer with no commit pending that leaves its configuration. -/
theorem State.TablesOk.onTimer {s : State} {i : TimerId} {f : Timer → Timer} (hs : s.TablesOk)
    (hi : (s.table i).Ok (f (s.timer i)) s.laneConfigs) : (s.onTimer i f).TablesOk :=
  hs.of_one (i := i) (by simpa using hi) (fun _ _ => rfl) fun j h => by rw [State.onTimer_timer, if_neg h]

theorem State.TablesOk.onTables {s : State} {i : TimerId} {f : Tables → Tables} (hs : s.TablesOk)
    (hi : (f (s.table i)).Ok (s.timer i) s.laneConfigs) : (s.onTables i f).TablesOk :=
  hs.of_one (i := i) (by simpa using hi) (fun j h => by rw [State.onTables_table, if_neg h]) fun _ _ => rfl

/-- A staged table that is not frozen may be replaced by any other of 64 positions (R38, R39). -/
theorem State.TablesOk.stages {s : State} {i : TimerId} {f : Tables → Table} (hs : s.TablesOk)
    (hf : (s.table i).frozen = false) (hlen : (s.table i).staged.length = 64 → (f (s.table i)).length = 64) :
    (s.onTables i fun x => { x with staged := f x }).TablesOk :=
  have hi := State.tablesOk_iff.mp hs i
  hs.onTables (.of_settled hi.activeLength (hlen hi.stagedLength) hi.active hf (hi.frozen.symm.trans hf))

/-- A STOPPED timer takes a configuration its active table is valid under (R10, R42). -/
theorem State.TablesOk.configures {s : State} {i : TimerId} {c : TimerConfig} (hs : s.TablesOk)
    (hm : (s.timer i).mode = .stopped) (hv : (s.table i).active.validate c s.laneConfigs = none) :
    (s.onTimer i fun x => { x with config := c }).TablesOk := by
  have hi := State.tablesOk_iff.mp hs i
  have hp := hi.not_pending (.inl hm)
  have hv' : (s.table i).active.valid c s.laneConfigs = true := Option.isNone_iff_eq_none.mpr hv
  exact hs.onTimer (.of_settled hi.activeLength hi.stagedLength hv' (hi.frozen.trans hp) hp)

/-- A STOPPED or ARMED timer, with no commit pending, may go to any state. -/
theorem State.TablesOk.rests {s : State} {i : TimerId} {f : Timer → Timer} (hs : s.TablesOk)
    (hm : (s.timer i).mode = .stopped ∨ (s.timer i).mode = .armed)
    (hconfig : (f (s.timer i)).config = (s.timer i).config := by rfl)
    (hpending : (f (s.timer i)).pendingCommit = (s.timer i).pendingCommit := by rfl) : (s.onTimer i f).TablesOk := by
  have hi := State.tablesOk_iff.mp hs i
  have hp := hi.not_pending hm
  exact hs.onTimer
    (.of_settled hi.activeLength hi.stagedLength (hconfig ▸ hi.active) (hi.frozen.trans hp) (hpending.trans hp))

/-- A valid COMMIT applied at once (R34). -/
theorem State.TablesOk.commitNow {s : State} {i : TimerId} (hs : s.TablesOk) (hp : (s.timer i).pendingCommit = false)
    (hv : (s.table i).staged.validate (s.timer i).config s.laneConfigs = none) : (s.commitNow i).TablesOk := by
  have hi := State.tablesOk_iff.mp hs i
  have hv' : (s.table i).staged.valid (s.timer i).config s.laneConfigs = true := Option.isNone_iff_eq_none.mpr hv
  have happly : (s.onTables i Tables.apply).TablesOk :=
    hs.onTables (.of_settled hi.stagedLength hi.stagedLength hv' rfl hp)
  unfold State.commitNow
  split
  · exact State.SameTables.keeps .of_same happly
  · exact happly

/-- A valid COMMIT made pending (R35). -/
theorem State.TablesOk.commitLater {s : State} {i : TimerId} (hs : s.TablesOk)
    (hm : (s.timer i).mode.inFrame = true)
    (hv : (s.table i).staged.validate (s.timer i).config s.laneConfigs = none) : (s.commitLater i).TablesOk := by
  have hi := State.tablesOk_iff.mp hs i
  have hmode := TimerMode.hasFilling_iff.mp (TimerMode.hasFilling_of_inFrame hm)
  refine hs.of_one (i := i) ?_ (fun j h => ?_) (fun j h => ?_) (by simp [State.commitLater])
  · simp only [State.commitLater, State.onTimer_timer_same, State.onTimer_table_eq, State.onTables_table_same,
      State.onTables_timer_eq]
    exact ⟨hi.activeLength, hi.stagedLength, hi.active, rfl, fun _ => ⟨Option.isNone_iff_eq_none.mpr hv, hmode⟩⟩
  · simp [State.commitLater, State.onTables_table, h]
  · simp [State.commitLater, State.onTimer_timer, h]

/-- WITHDRAW of a pending commit (R37). -/
theorem State.TablesOk.withdraws {s : State} {i : TimerId} (hs : s.TablesOk) :
    ((s.onTimer i fun x => { x with pendingCommit := false }).onTables i fun x =>
      { x with frozen := false }).TablesOk := by
  have hi := State.tablesOk_iff.mp hs i
  refine hs.of_one (i := i) ?_ (fun j h => ?_) (fun j h => ?_)
  · simp only [State.onTables_timer_eq, State.onTimer_timer_same, State.onTables_table_same, State.onTimer_table_eq]
    exact .of_settled hi.activeLength hi.stagedLength hi.active rfl rfl
  · simp [State.onTables_table, h]
  · simp [State.onTimer_timer, h]

/-! ### CONFIGURE_LANE -/

/-- No conflict of a timer: its active table is valid under the proposed configurations, and so is its staged table
where a commit is pending (R43). -/
theorem State.laneConflict_none {s : State} {i : TimerId} {lanes : Four LaneConfig}
    (h : s.laneConflict i lanes = none) :
    (s.table i).active.valid (s.timer i).config lanes = true ∧
      ((s.timer i).pendingCommit = true → (s.table i).staged.valid (s.timer i).config lanes = true) := by
  unfold State.laneConflict at h
  split at h
  · cases h
  · next ha =>
    refine ⟨Option.isNone_iff_eq_none.mpr ha, fun hp => ?_⟩
    rw [if_pos hp, Option.map_eq_none_iff] at h
    exact Option.isNone_iff_eq_none.mpr h

theorem State.firstLaneConflict_none {s : State} {l : LaneId} {c : LaneConfig} (h : s.firstLaneConflict l c = none)
    (i : TimerId) : s.laneConflict i (s.laneConfigs.set l c) = none := by
  unfold State.firstLaneConflict at h
  dsimp only at h
  split at h
  · cases h
  · next ha => cases i <;> assumption

theorem State.configureTo_laneConfigs (s : State) (l : LaneId) (c : LaneConfig) :
    (s.configureTo l c).laneConfigs = s.laneConfigs.set l c := by
  cases l <;> rfl

/-- A lane takes a configuration under which every table stays valid (R43). -/
theorem State.TablesOk.configureTo {s : State} {l : LaneId} {c : LaneConfig} (hs : s.TablesOk)
    (h : s.firstLaneConflict l c = none) : (s.configureTo l c).TablesOk :=
  State.tablesOk_iff.mpr fun i => by
    have hi := State.tablesOk_iff.mp hs i
    obtain ⟨hactive, hstaged⟩ := State.laneConflict_none (State.firstLaneConflict_none h i)
    rw [State.configureTo_laneConfigs]
    exact ⟨hi.activeLength, hi.stagedLength, hactive, hi.frozen, fun hp => ⟨hstaged hp, (hi.pending hp).2⟩⟩

/-! ### The owners of the requests -/

theorem State.take_keepsTables {s : State} {rq : Request} {run : State → State}
    (h : ∀ u : State, u.KeepsTables (run u)) : s.KeepsTables (s.take rq run) := by
  obtain hs | ⟨u, hu, ⟨k, -, hk⟩ | hr⟩ := s.take_cases rq run
  · rw [hs]; exact .refl s
  · rw [hk]
    obtain ⟨-, -, -, rest, rfl, -⟩ := State.accept_some hu
    exact State.SameTables.keeps .of_same
  · rw [hr]
    obtain ⟨-, -, -, rest, rfl, -⟩ := State.accept_some hu
    exact .after .of_same (h _)

theorem State.serve_keepsTables {s : State} {seq kind : Byte} {p : List Byte} {owner : State → State × Answer}
    (h : ∀ u : State, u.KeepsTables (owner u).1) : s.KeepsTables (s.serve seq kind p owner) :=
  State.take_keepsTables fun u => (h u).same .of_same

theorem ownConfigureLane_keepsTables (p : List Byte) (s : State) : s.KeepsTables (ownConfigureLane p s).1 := by
  unfold ownConfigureLane State.tryConfigureLane
  split
  · split
    · split
      · exact .refl s
      · split
        · exact .refl s
        · next h => exact fun hs => hs.configureTo h
    · exact .refl s
  · exact .refl s

theorem ownSleepLane_keepsTables (p : List Byte) (s : State) : s.KeepsTables (ownSleepLane p s).1 := by
  unfold ownSleepLane State.sleepLane
  split
  · split
    · split
      case h_1 => exact (s.enterSleeping_sameTables _).keeps
      case h_2 =>
        dsimp only
        exact State.SameTables.keeps .onLane
      all_goals exact .refl s
    · exact .refl s
  · exact .refl s

theorem ownWakeLane_keepsTables (p : List Byte) (s : State) : s.KeepsTables (ownWakeLane p s).1 := by
  unfold ownWakeLane State.wakeLane
  split
  · split
    · split
      case h_1 =>
        dsimp only
        exact State.SameTables.keeps .onLane
      case h_2 =>
        dsimp only
        exact State.SameTables.keeps .onLane
      case h_3 =>
        split
        · dsimp only
          exact State.SameTables.keeps .onLane
        · exact .refl s
      all_goals exact .refl s
    · exact .refl s
  · exact .refl s

theorem ownConfigureTimer_keepsTables (p : List Byte) (s : State) : s.KeepsTables (ownConfigureTimer p s).1 := by
  unfold ownConfigureTimer State.configureTimer
  split
  · split
    · split
      · exact .refl s
      · next hm =>
        split
        · exact .refl s
        · split
          · exact .refl s
          · next hv => exact fun hs => hs.configures (not_not.mp hm) hv
    · exact .refl s
  · exact .refl s

theorem ownStart_keepsTables (p : List Byte) (s : State) : s.KeepsTables (ownStart p s).1 := by
  unfold ownStart State.startTimer
  split
  · split
    · split
      · next hm => exact fun hs => hs.rests (.inl hm)
      · exact .refl s
    · exact .refl s
  · exact .refl s

theorem State.halt_keepsTables {s : State} {i : TimerId} (hm : (s.timer i).mode = .armed) : s.KeepsTables (s.halt i) :=
  fun hs =>
  State.SameTables.keeps (s := s.onTimer i fun x => x.rest .stopped) (.of_same rfl rfl rfl) (hs.rests (.inr hm))

theorem State.stopAtEnd_keepsTables (s : State) (i : TimerId) : s.KeepsTables (s.stopAtEnd i) := by
  unfold State.stopAtEnd
  split
  · exact (State.SameTables.onTimer ⟨rfl, rfl, fun _ => rfl⟩).keeps
  · exact .refl s
  · next hm => exact State.halt_keepsTables hm
  · exact fun hs => hs.stopWaiting i
  · exact .refl s

theorem State.stopAtOnce_keepsTables (s : State) (i : TimerId) : s.KeepsTables (s.stopAtOnce i) := by
  unfold State.stopAtOnce
  split
  · exact fun hs => hs.stopRunning i
  · exact fun hs => hs.stopRunning i
  · next hm => exact State.halt_keepsTables hm
  · exact fun hs => hs.stopWaiting i
  · exact .refl s

theorem ownStop_keepsTables {act : State → TimerId → State}
    (hact : ∀ (s : State) (i : TimerId), s.KeepsTables (act s i)) (p : List Byte) (code : Nat) (s : State) :
    s.KeepsTables (ownStop p code act s).1 := by
  unfold ownStop
  split
  · split
    · split
      · exact hact s _
      · exact .refl s
    · exact .refl s
  · exact .refl s

theorem ownStageEntry_keepsTables (p : List Byte) (s : State) : s.KeepsTables (ownStageEntry p s).1 := by
  unfold ownStageEntry State.stage
  split
  · split
    · split
      · dsimp only
        split
        · exact .refl s
        · next hf =>
          have hf := Bool.eq_false_iff.mpr hf
          split
          · exact fun hs => hs.stages hf (List.length_set.trans ·)
          · split
            · exact fun hs => hs.stages hf (List.length_set.trans ·)
            · exact .refl s
      · exact .refl s
    · exact .refl s
  · exact .refl s

theorem ownClearStaged_keepsTables (p : List Byte) (s : State) : s.KeepsTables (ownClearStaged p s).1 := by
  unfold ownClearStaged
  split
  · split
    · split
      · exact .refl s
      · next hf => exact fun hs => hs.stages (Bool.eq_false_iff.mpr hf) fun _ => List.length_replicate
    · exact .refl s
  · exact .refl s

theorem ownCommit_keepsTables (p : List Byte) (s : State) : s.KeepsTables (ownCommit p s).1 := by
  unfold ownCommit State.commitTable
  split
  · split
    · split
      · exact .refl s
      · next hp =>
        split
        · exact .refl s
        · next hv =>
          split
          · next hm => exact fun hs => hs.commitLater hm hv
          · exact fun hs => hs.commitNow (Bool.eq_false_iff.mpr hp) hv
    · exact .refl s
  · exact .refl s

theorem ownWithdraw_keepsTables (p : List Byte) (s : State) : s.KeepsTables (ownWithdraw p s).1 := by
  unfold ownWithdraw
  split
  · split
    · split
      · exact fun hs => hs.withdraws
      · exact .refl s
    · exact .refl s
  · exact .refl s

theorem ownWriteOutput_keepsTables (p : List Byte) (s : State) : s.KeepsTables (ownWriteOutput p s).1 := by
  unfold ownWriteOutput
  split
  · exact State.SameTables.keeps .of_same
  · exact .refl s

theorem ownWriteFallback_keepsTables (p : List Byte) (s : State) : s.KeepsTables (ownWriteFallback p s).1 := by
  unfold ownWriteFallback
  split
  · exact State.SameTables.keeps .of_same
  · exact .refl s

theorem ownPublish_keepsTables (p : List Byte) (s : State) : s.KeepsTables (ownPublish p s).1 := by
  unfold ownPublish State.publishImage
  split
  · split
    · split
      · exact .refl s
      · split
        · split
          · exact .refl s
          · exact (State.SameTables.onTimer ⟨rfl, rfl, id⟩).keeps
        · exact .after (t := s.onOutputs _ fun o => { o with active := o.staged }) .of_same
            (State.SameTables.onTimer ⟨rfl, rfl, id⟩).keeps
    · exact .refl s
  · exact .refl s

theorem ownSetSupervision_keepsTables (p : List Byte) (s : State) : s.KeepsTables (ownSetSupervision p s).1 := by
  unfold ownSetSupervision State.superviseFor
  split
  · split
    · exact .refl s
    · split
      · exact .refl s
      · split <;> exact State.SameTables.keeps .of_same
  · exact .refl s

theorem ownResume_keepsTables (p : List Byte) (s : State) : s.KeepsTables (ownResume p s).1 := by
  unfold ownResume
  split
  · split
    · exact State.SameTables.keeps .of_same
    · exact .refl s
  · exact .refl s

theorem ownHold_keepsTables (p : List Byte) (s : State) : s.KeepsTables (ownHold p s).1 := by
  unfold ownHold
  split
  · split
    · exact State.SameTables.keeps .of_same
    · exact .refl s
  · exact .refl s

theorem ownRelease_keepsTables (p : List Byte) (s : State) : s.KeepsTables (ownRelease p s).1 := by
  unfold ownRelease
  split
  · split
    · exact State.SameTables.keeps .of_same
    · exact .refl s
  · exact .refl s

theorem ownTransact_keepsTables (p : List Byte) (s : State) : s.KeepsTables (ownTransact p s).1 := by
  unfold ownTransact
  split
  · split
    · next e _ =>
      split
      · exact .refl s
      · dsimp only
        exact .after (t := { s with acyclic := s.acyclic ++ [e] }) .of_same
          (State.SameTables.keeps
            (.onLane (f := fun x => { x with claims := x.claims ++ [.acyclic e.tag .first] })))
    · exact .refl s
  · exact .refl s

theorem ownCancel_keepsTables (p : List Byte) (s : State) : s.KeepsTables (ownCancel p s).1 := by
  unfold ownCancel
  split
  · split
    · split
      · exact .refl s
      · exact (s.dropAcyclic_sameTables _ _).keeps
    · exact .refl s
  · exact .refl s

theorem ownForgetNode_keepsTables (p : List Byte) (s : State) : s.KeepsTables (ownForgetNode p s).1 := by
  unfold ownForgetNode
  split
  · split
    · exact State.SameTables.keeps .of_same
    · exact .refl s
  · exact .refl s

theorem ownFetch_keepsTables (p : List Byte) (s : State) : s.KeepsTables (ownFetch p s).1 := by
  unfold ownFetch
  split
  · split
    · exact (State.SameTables.of_same rfl rfl rfl).keeps
    · exact .refl s
  · exact .refl s

/-! ### The host link and the resets -/

theorem State.nak_sameTables (s : State) (seq : Byte) (code : NakCode) : s.SameTables (s.nak seq code) := by
  unfold State.nak
  split
  · exact .of_same
  · exact .refl s

theorem State.hostActivity_sameTables (s : State) : s.SameTables s.hostActivity := by
  unfold State.hostActivity
  split
  · exact .of_same
  · exact .refl s

theorem State.judgeFrame_sameTables (s : State) (got : List Byte) (marked : Bool) :
    s.SameTables (s.judgeFrame got marked) := by
  unfold State.judgeFrame
  dsimp only
  split
  · exact s.nak_sameTables _ _
  · split
    · exact s.hostActivity_sameTables.trans .of_same
    · exact s.hostActivity_sameTables.trans (State.nak_sameTables _ _ _)

theorem State.receiveByte_sameTables (s : State) (byte : Byte) (mark : Bool) :
    s.SameTables (s.receiveByte byte mark) := by
  unfold State.receiveByte
  split
  · exact .refl s
  · split
    · exact .of_same
    · dsimp only
      split
      case h_1 => split <;> exact .of_same
      case h_3 =>
        split
        · exact .trans .of_same (State.nak_sameTables _ _ _)
        · exact .of_same
      case h_6 =>
        split
        · exact .trans .of_same (State.judgeFrame_sameTables _ _ _)
        · exact .of_same
      all_goals exact .of_same

theorem State.cleared_tablesOk (pins : Pins) (q : List Instr) (r : Option Resetting) :
    (State.cleared pins q r).TablesOk :=
  (State.SameTables.of_same rfl rfl rfl).keeps (State.restarted_tablesOk pins q .power)

theorem execReset_keepsTables {seq : Byte} {p : List Byte} {s t : State} (h : execReset seq p s = .next t) :
    s.KeepsTables t := by
  unfold execReset at h
  cases h
  refine State.take_keepsTables fun u => ?_
  dsimp only
  split <;> exact State.SameTables.keeps .of_same

theorem execReplySent_keepsTables {s t : State} (h : execReplySent s = .next t) : s.KeepsTables t := by
  unfold execReplySent at h
  cases h
  split
  · split
    · exact .refl s
    · split
      · exact fun _ => State.cleared_tablesOk _ _ _
      · exact State.SameTables.keeps .of_same
  · exact .refl s

theorem execRstPin_keepsTables {asserted : Bool} {s t : State} (h : execRstPin asserted s = .next t) :
    s.KeepsTables t := by
  unfold execRstPin at h
  cases h
  split
  · exact fun _ => State.cleared_tablesOk _ _ _
  · split
    · exact State.SameTables.keeps .of_same
    · exact .refl s

theorem execResetEnd_keepsTables {s t : State} (h : execResetEnd s = .next t) : s.KeepsTables t := by
  unfold execResetEnd at h
  cases h
  split
  · split
    · exact fun _ => State.restarted_tablesOk _ _ _
    · exact .refl s
  · exact .refl s

/-! ### Timers and lanes -/

theorem execFirstFrameStart_keepsTables {i : TimerId} {s t : State} (h : execFirstFrameStart i s = .next t) :
    s.KeepsTables t := by
  unfold execFirstFrameStart at h
  split at h
  · exact fun hs => hs.openFirst (bufferOrFault_next h)
  · cases h; exact .refl s

theorem execFrameClose_keepsTables {i : TimerId} {s t : State} (h : execFrameClose i s = .next t) :
    s.KeepsTables t := by
  unfold execFrameClose at h
  split at h
  · exact fun hs => hs.close (bufferOrFault_next h)
  · cases h; exact .refl s

theorem State.missTrigger_sameTables (s : State) (i : TimerId) : s.SameTables (s.missTrigger i) :=
  .trans (t := s.onTimer i fun x => { x with missed := min (x.missed + 1) 65535 }) (.onTimer ⟨rfl, rfl, id⟩)
    (.of_same rfl rfl rfl)

theorem State.trigger_keepsTables {s t : State} {i : TimerId} (h : s.trigger i = some t) : s.KeepsTables t := by
  unfold State.trigger at h
  split at h
  · exact fun hs => hs.openFirst h
  · exact fun hs => hs.openFirst h
  · cases h; exact fun hs => hs.openNext i
  · cases h; exact (s.missTrigger_sameTables i).keeps
  · cases h; exact (s.missTrigger_sameTables i).keeps
  · cases h; exact .refl s

theorem execTrigEdge_keepsTables {i : TimerId} {s t : State} (h : execTrigEdge i s = .next t) : s.KeepsTables t := by
  unfold execTrigEdge at h
  split at h
  · cases h; exact .refl s
  · exact State.trigger_keepsTables (bufferOrFault_next h)

theorem execGrant_keepsTables {l : LaneId} {s t : State} (h : execGrant l s = .next t) : s.KeepsTables t := by
  unfold execGrant at h
  cases h
  split
  · next f rest _ =>
    exact (State.SameTables.trans
      (t := s.onLane l fun x => { x with mode := .busy, claims := rest, inFlight := some f }) .onLane .of_same).keeps
  · exact .refl s

theorem execClaimExpiry_keepsTables {l : LaneId} {i : TimerId} {position : Nat} {s t : State}
    (h : execClaimExpiry l i position s = .next t) : s.KeepsTables t := by
  unfold execClaimExpiry at h
  cases h
  split
  · next k _ =>
    exact (State.SameTables.trans
      (t := s.onLane l fun x => { x with claims := x.claims.erase (.cyclic k) }) .onLane .of_same).keeps
  · exact .refl s

theorem State.failEcho_sameTables (s : State) (l : LaneId) : s.SameTables (s.failEcho l) := by
  unfold State.failEcho
  split
  · exact s.endTransaction_sameTables ..
  · split
    · exact .onLane
    · exact .refl s

theorem execResponseCharacterReceived_keepsTables {l : LaneId} {byte : Byte} {mark : Bool} {s t : State}
    (h : execResponseCharacterReceived l byte mark s = .next t) : s.KeepsTables t := by
  unfold execResponseCharacterReceived at h
  cases h
  split
  · split
    · exact State.SameTables.keeps .onLane
    · exact .refl s
  · exact .refl s

theorem execResponseComplete_keepsTables {l : LaneId} {byte : Byte} {mark : Bool} {s t : State}
    (h : execResponseComplete l byte mark s = .next t) : s.KeepsTables t := by
  unfold execResponseComplete at h
  cases h
  split
  · split
    · exact (s.endTransaction_sameTables ..).keeps
    · exact .refl s
  · exact .refl s

theorem execSleepCommandEnd_keepsTables {l : LaneId} {s t : State} (h : execSleepCommandEnd l s = .next t) :
    s.KeepsTables t := by
  unfold execSleepCommandEnd at h
  cases h
  split
  · split
    · exact State.SameTables.keeps .onLane
    · exact State.SameTables.keeps .onLane_notify
  · exact .refl s

theorem execAcyclicTimeout_keepsTables {tag : Half} {s t : State} (h : execAcyclicTimeout tag s = .next t) :
    s.KeepsTables t := by
  unfold execAcyclicTimeout State.timeOut at h
  cases h
  split
  · split
    · split
      · exact State.SameTables.keeps .of_same
      · exact (s.dropAcyclic_sameTables _ _).keeps
    · exact .refl s
  · exact .refl s

theorem State.expireHost_sameTables (s : State) : s.SameTables s.expireHost where
  tables := rfl
  timers i := by cases i <;> exact ⟨rfl, rfl, id⟩
  lanes _ := rfl

/-! ### Half a tick -/

theorem Timer.advance_keepsCommit (x : Timer) : x.KeepsCommit x.advance := by
  unfold Timer.advance
  split
  · split
    · exact ⟨rfl, rfl, id⟩
    · split <;> exact ⟨rfl, rfl, id⟩
  · exact ⟨rfl, rfl, id⟩

theorem State.halfTick_sameTables (s : State) : s.SameTables s.halfTick := .of_configs fun l => by simp

theorem State.nextTick_sameTables (s : State) : s.SameTables s.nextTick where
  tables := rfl
  timers i := by rw [State.nextTick_timer]; exact Timer.advance_keepsCommit _
  lanes _ := rfl

theorem State.pass_sameTables (s : State) : s.SameTables s.pass := by
  obtain ⟨r, -, h | h⟩ | ⟨-, -, h⟩ | ⟨-, -, h⟩ := s.pass_cases
  · rw [h]; exact .of_same
  · rw [h]; exact .refl s
  · rw [h]; exact s.halfTick_sameTables
  · rw [h]; exact s.halfTick_sameTables.trans (State.nextTick_sameTables _)

/-! ### Every command -/

theorem exec_keepsTables {c : Instr} {s t : State} (h : exec c s = .next t) : s.KeepsTables t := by
  cases c
  case query seq p => cases h; exact State.serve_keepsTables fun u => by rw [(ownReads_same p u).1]; exact .refl u
  case reset => exact execReset_keepsTables h
  case configureLane seq p => cases h; exact State.serve_keepsTables (ownConfigureLane_keepsTables p)
  case sleepLane seq p => cases h; exact State.serve_keepsTables (ownSleepLane_keepsTables p)
  case wakeLane seq p => cases h; exact State.serve_keepsTables (ownWakeLane_keepsTables p)
  case configureTimer seq p => cases h; exact State.serve_keepsTables (ownConfigureTimer_keepsTables p)
  case start seq p => cases h; exact State.serve_keepsTables (ownStart_keepsTables p)
  case stopEnd seq p =>
    cases h
    split
    · exact .refl s
    · exact State.serve_keepsTables (ownStop_keepsTables State.stopAtEnd_keepsTables p 0)
  case stopNow seq p =>
    cases h
    split
    · exact .refl s
    · exact State.serve_keepsTables (ownStop_keepsTables State.stopAtOnce_keepsTables p 1)
  case stageEntry seq p => cases h; exact State.serve_keepsTables (ownStageEntry_keepsTables p)
  case clearStaged seq p => cases h; exact State.serve_keepsTables (ownClearStaged_keepsTables p)
  case readEntry seq p =>
    cases h; exact State.serve_keepsTables fun u => by rw [(ownReads_same p u).2.1]; exact .refl u
  case commit seq p => cases h; exact State.serve_keepsTables (ownCommit_keepsTables p)
  case withdraw seq p => cases h; exact State.serve_keepsTables (ownWithdraw_keepsTables p)
  case writeOutput seq p => cases h; exact State.serve_keepsTables (ownWriteOutput_keepsTables p)
  case writeFallback seq p => cases h; exact State.serve_keepsTables (ownWriteFallback_keepsTables p)
  case publish seq p => cases h; exact State.serve_keepsTables (ownPublish_keepsTables p)
  case setSupervision seq p => cases h; exact State.serve_keepsTables (ownSetSupervision_keepsTables p)
  case resume seq p => cases h; exact State.serve_keepsTables (ownResume_keepsTables p)
  case hold seq p => cases h; exact State.serve_keepsTables (ownHold_keepsTables p)
  case readImage seq p =>
    cases h; exact State.serve_keepsTables fun u => by rw [(ownReads_same p u).2.2.1]; exact .refl u
  case readStatus seq p =>
    cases h; exact State.serve_keepsTables fun u => by rw [(ownReads_same p u).2.2.2.1]; exact .refl u
  case release seq p => cases h; exact State.serve_keepsTables (ownRelease_keepsTables p)
  case transact seq p => cases h; exact State.serve_keepsTables (ownTransact_keepsTables p)
  case cancel seq p => cases h; exact State.serve_keepsTables (ownCancel_keepsTables p)
  case readNode seq p =>
    cases h; exact State.serve_keepsTables fun u => by rw [(ownReads_same p u).2.2.2.2]; exact .refl u
  case forgetNode seq p => cases h; exact State.serve_keepsTables (ownForgetNode_keepsTables p)
  case fetch seq p => cases h; exact State.serve_keepsTables (ownFetch_keepsTables p)
  case duplicateReplay seq kind p =>
    cases h
    split
    · exact State.take_keepsTables .refl
    · exact .refl s
  case unknownKind seq kind p =>
    cases h
    split
    · exact .refl s
    · exact State.serve_keepsTables .refl
  case frameReceived byte mark =>
    cases h
    split
    · exact (s.receiveByte_sameTables byte mark).keeps
    · exact .refl s
  case lengthNak byte mark =>
    cases h
    split
    · exact (s.receiveByte_sameTables byte mark).keeps
    · exact .refl s
  case partialFrameDiscard =>
    cases h
    split
    · exact State.SameTables.keeps .of_same
    · exact .refl s
  case skipEnd =>
    cases h
    split
    · exact State.SameTables.keeps .of_same
    · exact .refl s
  case replySent => exact execReplySent_keepsTables h
  case powerOn good => cases h; exact fun _ => State.cleared_tablesOk _ _ _
  case rstPin => exact execRstPin_keepsTables h
  case resetEnd => exact execResetEnd_keepsTables h
  case firstFrameStart => exact execFirstFrameStart_keepsTables h
  case frameClose => exact execFrameClose_keepsTables h
  case postClaims i =>
    cases h
    split
    · exact (s.postAll_sameTables i).keeps
    · exact .refl s
  case syncEnd i =>
    cases h
    split
    · exact (State.SameTables.onTimer ⟨rfl, rfl, id⟩).keeps
    · exact .refl s
  case trigEdge => exact execTrigEdge_keepsTables h
  case grant => exact execGrant_keepsTables h
  case claimExpiry => exact execClaimExpiry_keepsTables h
  case echoMismatch l echo =>
    cases h
    split
    · exact (s.failEcho_sameTables l).keeps
    · exact .refl s
  case responseTimeout l =>
    cases h
    split
    · exact (s.endTransaction_sameTables ..).keeps
    · exact .refl s
  case characterLimitExpiry l =>
    cases h
    split
    · exact (s.endTransaction_sameTables ..).keeps
    · exact .refl s
  case responseComplete => exact execResponseComplete_keepsTables h
  case broadcastComplete l =>
    cases h
    split
    · exact (s.endTransaction_sameTables ..).keeps
    · exact .refl s
  case sleepCommandStart l =>
    cases h
    split
    · exact State.SameTables.keeps .onLane
    · exact .refl s
  case sleepCommandEnd => exact execSleepCommandEnd_keepsTables h
  case wakePulseEnd l =>
    cases h
    split
    · exact State.SameTables.keeps .onLane
    · exact .refl s
  case settleEnd l =>
    cases h
    split
    · exact State.SameTables.keeps .onLane_notify
    · exact .refl s
  case nodeWake l =>
    cases h
    split
    · exact State.SameTables.keeps .onLane_notify
    · exact .refl s
  case lineFault l =>
    cases h
    split
    · exact (State.SameTables.trans .onLane_notify (State.resolveAll_sameTables _ _ _)).keeps
    · exact .refl s
  case lineFaultRecovery l =>
    cases h
    split
    · exact State.SameTables.keeps .onLane_notify
    · exact .refl s
  case acyclicTimeout => exact execAcyclicTimeout_keepsTables h
  case supervisionExpiry =>
    cases h
    split
    · exact s.expireHost_sameTables.keeps
    · exact .refl s
  case responseCharacterReceived => exact execResponseCharacterReceived_keepsTables h
  case hostByteReceived byte mark => cases h; exact (s.receiveByte_sameTables byte mark).keeps

/-- Settles O29: every command keeps the tables valid, and no table takes part in the passing of time. -/
theorem tablesStayValid : Obligations.TablesStayValid := fun s t hs h => by
  obtain ⟨c, q, hc⟩ | rfl := step_cases h
  · exact exec_keepsTables hc (State.SameTables.keeps .of_same hs)
  · exact s.pass_sameTables.keeps hs

end Sys2Proof.Machine
end

section
/-!
SUPPORT. The requests that write and read one position of a table: the entry block of R168 and its reading, STAGE_ENTRY,
CLEAR_STAGED, READ_ENTRY (R38 to R40), and QUERY with the code sets of the replies (R163, R166, R167).
-/

set_option Elab.async false

namespace Sys2Proof.Machine

/-! ### The entry block -/

theorem laneOf_laneCode (l : LaneId) : laneOf (laneCode l).toNat = some l := by
  cases l <;> rfl

theorem opOf_code (op : Op) : opOf op.code.toNat = some op := by
  cases op <;> rfl

/-- A phase selector whose d and k fit STAGE_ENTRY is read back from its three bytes (R168). -/
theorem phaseOf_bytes {p : Phase} (h : ∀ d k, p = .nth d k → 2 ≤ d ∧ d ≤ 16 ∧ k ≤ 15) :
    phaseOf (byteAt p.bytes 0) (byteAt p.bytes 1) (byteAt p.bytes 2) = some p := by
  cases p with
  | every => rfl
  | even => rfl
  | odd => rfl
  | nth d k =>
    have hdk := h d k rfl
    have hd : byteAt (Phase.nth d k).bytes 1 = d := toNat_ofNat_byte (by omega)
    have hk : byteAt (Phase.nth d k).bytes 2 = k := toNat_ofNat_byte (by omega)
    rw [hd, hk]
    exact if_pos hdk

/-- The entry block of an entry in range, read with a retry flag, is that entry with the flag (R23, R168). -/
theorem parseEntry_bytes {e : ScanEntry} (h : e.InRange) : parseEntry e.bytes e.retry = some e := by
  obtain ⟨hnode, hround, hstart, hslack, hn, hout, hm, hres, hphase⟩ := h
  have b0 : laneOf (byteAt e.bytes 0) = some e.lane := laneOf_laneCode _
  have b1 : byteAt e.bytes 1 = e.node := toNat_ofNat_byte (by omega)
  have b2 : opOf (byteAt e.bytes 2) = some e.op := opOf_code _
  have b3 : byteAt e.bytes 3 = e.round := toNat_ofNat_byte hround
  have b4 : halfAt e.bytes 4 = e.startTick := halfAt_of_bytes hstart rfl rfl
  have b6 : halfAt e.bytes 6 = e.slack := halfAt_of_bytes hslack rfl rfl
  have b8 : byteAt e.bytes 8 = e.n := toNat_ofNat_byte (by omega)
  have b9 : halfAt e.bytes 9 = e.outOffset := halfAt_of_bytes (by omega) rfl rfl
  have b11 : byteAt e.bytes 11 = e.m := toNat_ofNat_byte (by omega)
  have b12 : halfAt e.bytes 12 = e.resOffset := halfAt_of_bytes (by omega) rfl rfl
  have b14 : phaseOf (byteAt e.bytes 14) (byteAt e.bytes 15) (byteAt e.bytes 16) = some e.phase :=
    phaseOf_bytes fun d k hp => by rw [hp] at hphase; exact hphase
  simp only [parseEntry, b0, b1, b2, b3, b4, b6, b8, b9, b11, b12, b14]
  exact if_pos ⟨hnode, hn, hout, hm, hres⟩

/-- Settles O26: each of the twelve fields is read from the bytes it was laid out in. -/
theorem entryBlockRoundTrip : Obligations.EntryBlockRoundTrip := fun _ => parseEntry_bytes

theorem opOf_none {n : Nat} (h : 2 < n) : opOf n = none := by
  match n with
  | 0 | 1 | 2 => omega
  | n + 3 => rfl

theorem phaseOf_none {selector d k : Nat}
    (h : 3 < selector ∨ (selector = 3 ∧ (d < 2 ∨ 16 < d ∨ 15 < k))) : phaseOf selector d k = none := by
  match selector with
  | 0 | 1 | 2 => omega
  | 3 => exact if_neg (by omega)
  | n + 4 => rfl

/-- A field outside its range makes no entry (R38 step 3). -/
theorem parseEntry_none {block : List Byte} (h : entryFieldOutside block = true) (retry : Bool) :
    parseEntry block retry = none := by
  unfold parseEntry
  split
  · next lane op phase hlane hop hphase =>
    refine if_neg fun hc => ?_
    have hl := laneOf_some hlane
    have ho : byteAt block 2 ≤ 2 := Nat.not_lt.mp fun hn => by simp [opOf_none hn] at hop
    have hp : ¬ (3 < byteAt block 14 ∨
        (byteAt block 14 = 3 ∧ (byteAt block 15 < 2 ∨ 16 < byteAt block 15 ∨ 15 < byteAt block 16))) :=
      fun hn => by simp [phaseOf_none hn] at hphase
    have hout := of_decide_eq_true h
    omega
  · rfl

/-! ### STAGE_ENTRY and CLEAR_STAGED -/

/-- STAGE_ENTRY for a timer, with its position and flags in range. -/
theorem ownStageEntry_of {t : TimerId} {position : Nat} {flags : Byte} {block : List Byte} (hp : position < 64)
    (hf : flags.toNat ≤ 3) (hb : block.length = 17) (s : State) :
    ownStageEntry (timerCode t :: BitVec.ofNat 8 position :: flags :: block) s =
      s.stage t position (timerCode t :: BitVec.ofNat 8 position :: flags :: block) := by
  have hpos : (BitVec.ofNat 8 position).toNat = position := toNat_ofNat_byte (by omega)
  simp [ownStageEntry, hb, hpos, hf, Nat.le_of_lt_succ hp]

section
variable {s : State} {t : TimerId} {position : Nat} {flags : Byte} {block : List Byte}

theorem State.stage_frozen {p : List Byte} (h : (s.table t).frozen = true) :
    s.stage t position p = refuse .pending s := if_pos h

/-- The empty flag empties the position, whatever the block holds (R38 step 3). -/
theorem State.stage_empty (h : (s.table t).frozen = false) (hflags : flags.toNat % 2 = 1) :
    s.stage t position (timerCode t :: BitVec.ofNat 8 position :: flags :: block) =
      (s.onTables t fun x => { x with staged := x.staged.set position none }, .plain .ok) := by
  simp [State.stage, h, hflags]

/-- With the empty flag clear the block is read, bit 1 of the flags being the retry flag (R38 steps 3 and 4). -/
theorem State.stage_block (h : (s.table t).frozen = false) (hflags : flags.toNat % 2 = 0) :
    s.stage t position (timerCode t :: BitVec.ofNat 8 position :: flags :: block) =
      match parseEntry block (flags.toNat / 2 % 2 == 1) with
      | some e => (s.onTables t fun x => { x with staged := x.staged.set position (some e) }, .plain .ok)
      | none => refuse .badArg s := by
  simp only [State.stage, byteAt_cons_succ, byteAt_cons_zero, h, hflags, Bool.false_eq_true, if_false, zero_ne_one]
  rfl

end

theorem execStageEntry_answers {s u : State} {seq flags : Byte} {t : TimerId} {position : Nat} {block : List Byte}
    {code : ReplyCode} (hp : position < 64) (hf : flags.toNat ≤ 3) (hb : block.length = 17)
    (hr : s.ready (requestOf seq 0x0A (timerCode t :: BitVec.ofNat 8 position :: flags :: block)) = true)
    (h : s.taken.stage t position (timerCode t :: BitVec.ofNat 8 position :: flags :: block) =
      (u.taken, .plain code)) :
    exec (.stageEntry seq (timerCode t :: BitVec.ofNat 8 position :: flags :: block)) s =
      .next (u.replied (requestOf seq 0x0A (timerCode t :: BitVec.ofNat 8 position :: flags :: block)) code []) :=
  congrArg Host.Outcome.next (State.serve_replied hr ((ownStageEntry_of hp hf hb _).trans h))

theorem ScanEntry.bytes_length (e : ScanEntry) : e.bytes.length = 17 := by
  unfold ScanEntry.bytes
  cases e.phase <;> rfl

/-- Settles O24: the entry in range that is stored, and by the frozen flag and the flags byte every other block. -/
theorem stageEntryStoresEntry : Obligations.StageEntryStoresEntry := by
  refine ⟨fun s seq t position e hp he hr => ?_, fun s seq flags t position block hp hb hf hr => ?_⟩
  · have hflags : (if e.retry then 2 else 0 : Byte).toNat ≤ 3 := by cases e.retry <;> decide
    refine ⟨fun hz => ?_, fun hz => ?_⟩
    · exact execStageEntry_answers hp hflags e.bytes_length hr (State.stage_frozen (s := s.taken) hz)
    · refine execStageEntry_answers hp hflags e.bytes_length hr ((State.stage_block (s := s.taken) hz ?_).trans ?_)
      · cases e.retry <;> rfl
      · have hretry : ((if e.retry then 2 else 0 : Byte).toNat / 2 % 2 == 1) = e.retry := by cases e.retry <;> rfl
        rw [hretry, parseEntry_bytes he]
        rfl
  · refine ⟨fun hz => ?_, fun hz he => ?_, fun hz he hout => ?_⟩
    · exact execStageEntry_answers hp hf hb hr (State.stage_frozen (s := s.taken) hz)
    · refine execStageEntry_answers hp hf hb hr (State.stage_empty (s := s.taken) hz ?_)
      obtain rfl | rfl := he <;> rfl
    · refine execStageEntry_answers hp hf hb hr ((State.stage_block (s := s.taken) hz ?_).trans ?_)
      · obtain rfl | rfl := he <;> rfl
      · rw [parseEntry_none hout]
        rfl

/-- CLEAR_STAGED of a timer. -/
theorem ownClearStaged_of (t : TimerId) (s : State) :
    ownClearStaged [timerCode t] s =
      if (s.table t).frozen then refuse .pending s
      else (s.onTables t fun x => { x with staged := List.replicate Config.positions none }, .plain .ok) := by
  simp [ownClearStaged]

theorem execClearStaged_answers {s u : State} {seq : Byte} {p : List Byte} {code : ReplyCode}
    (hr : s.ready (requestOf seq 0x0B p) = true) (h : ownClearStaged p s.taken = (u.taken, .plain code)) :
    exec (.clearStaged seq p) s = .next (u.replied (requestOf seq 0x0B p) code []) :=
  congrArg Host.Outcome.next (State.serve_replied hr h)

/-- Settles O25: by the frozen flag, and an index that names no timer. -/
theorem clearStagedEmptiesTable : Obligations.ClearStagedEmptiesTable := by
  refine ⟨fun s seq t hr => ⟨fun hz => ?_, fun hz => ?_⟩, fun s seq index hi hr => ?_⟩
  · exact execClearStaged_answers hr ((ownClearStaged_of t _).trans (if_pos hz))
  · exact execClearStaged_answers hr ((ownClearStaged_of t _).trans (if_neg (Bool.eq_false_iff.mp hz)))
  · refine execClearStaged_answers (u := s) hr ?_
    simp only [ownClearStaged, byteAt_cons_zero, timerOf_none hi]
    rfl

/-! ### QUERY and READ_ENTRY -/

/-- READ_ENTRY of a position of a timer's active or staged table. -/
theorem ownReadEntry_of {t : TimerId} {table : Bool} {position : Nat} (hp : position < 64) (s : State) :
    ownReadEntry [timerCode t, flagByte table, BitVec.ofNat 8 position] s =
      (s, entryAnswer ((if table then (s.table t).active else (s.table t).staged).getD position none)
        (s.table t).frozen) := by
  have hpos : (BitVec.ofNat 8 position).toNat = position := toNat_ofNat_byte (by omega)
  cases table <;> simp [ownReadEntry, flagByte, hpos, Nat.le_of_lt_succ hp]

theorem execReadEntry_answers {s : State} {seq : Byte} {t : TimerId} {table : Bool} {position : Nat}
    {fields : List Byte} (hp : position < 64)
    (hr : s.ready (requestOf seq 0x0C [timerCode t, flagByte table, BitVec.ofNat 8 position]) = true)
    (h : entryAnswer ((if table then (s.table t).active else (s.table t).staged).getD position none)
      (s.table t).frozen = { code := .ok, fields := fields }) :
    exec (.readEntry seq [timerCode t, flagByte table, BitVec.ofNat 8 position]) s =
      .next (s.replied (requestOf seq 0x0C [timerCode t, flagByte table, BitVec.ofNat 8 position]) .ok fields) :=
  congrArg Host.Outcome.next
    (State.serve_replied (u := s) hr ((ownReadEntry_of hp _).trans (congrArg (Prod.mk s.taken) h)))

/-- The reply codes (R167). -/
def replyCodes : List ReplyCode :=
  [.ok, .accepted, .pendingAccepted, .busy, .badArg, .badState, .full, .none, .noNewer, .pending, .tagInUse, .notFound,
    .inFlight, .asleep, .hostLost, .tableConflict, .invalid, .kind]

/-- Settles O15: the snapshot of the state, the entry of a position, and the code sets. -/
theorem queryAndReadEntryAnswer : Obligations.QueryAndReadEntryAnswer := by
  refine ⟨fun s seq hr => ?_, fun s seq t table position hp hr => ⟨fun hc => ?_, fun e hc => ?_⟩,
    fun code value h => ?_, by decide⟩
  · exact congrArg Host.Outcome.next (State.serve_replied (u := s) hr rfl)
  · refine execReadEntry_answers hp hr ?_
    rw [show (if table then (s.table t).active else (s.table t).staged).getD position none = none from hc]
    rfl
  · refine execReadEntry_answers hp hr ?_
    rw [show (if table then (s.table t).active else (s.table t).staged).getD position none = some e from hc]
    rfl
  · obtain ⟨c, -, hc⟩ := List.mem_map.mp (show (code, value) ∈ replyCodes.map fun c => (c, c.code) from h)
    cases hc
    exact ⟨rfl, fun _ _ => rfl⟩

end Sys2Proof.Machine
end

section
/-!
SUPPORT. Phase selectors that can be due in the same frame (R21, R27), by the Chinese remainder theorem.
-/

set_option Elab.async false

namespace Sys2Proof.Machine

/-- A phase selector is due in the frames that leave remainder k on division by d (R21, R27). -/
theorem Phase.due_iff_asNth {p : Phase} {frame : Time} : p.due frame = true ↔ frame.toNat % p.asNth.1 = p.asNth.2 := by
  cases p <;> simp [Phase.due, Phase.asNth, Nat.mod_one]

/-- A selector in range has a divisor from 1 to 16 and a remainder below it. -/
theorem Phase.asNth_range {p : Phase} (h : ∀ d k, p = .nth d k → 2 ≤ d ∧ d ≤ 16 ∧ k < d) :
    p.asNth.1 ≤ 16 ∧ p.asNth.2 < p.asNth.1 := by
  cases p with
  | every => decide
  | even => decide
  | odd => decide
  | nth d k => exact (h d k rfl).2

/-- The remainder test of R27 is congruence modulo the greatest common divisor. -/
theorem Phase.meets_iff_modEq {p q : Phase} :
    p.meets q = true ↔ p.asNth.2 ≡ q.asNth.2 [MOD Nat.gcd p.asNth.1 q.asNth.1] := by
  simp [Phase.meets, Nat.ModEq]

/-- Some number within the range of frame numbers leaves two remainders that are congruent modulo the greatest common
divisor of the divisors. -/
theorem exists_frame_of_modEq {d₁ d₂ k₁ k₂ : Nat} (h₁ : k₁ < d₁) (h₂ : k₂ < d₂) (h₁' : d₁ ≤ 16) (h₂' : d₂ ≤ 16)
    (h : k₁ ≡ k₂ [MOD Nat.gcd d₁ d₂]) : ∃ frame : Time, frame.toNat % d₁ = k₁ ∧ frame.toNat % d₂ = k₂ := by
  obtain ⟨hx₁, hx₂⟩ := (Nat.chineseRemainder' h).property
  have hlcm := Nat.chineseRemainder'_lt_lcm h (by omega) (by omega)
  have hle : Nat.lcm d₁ d₂ ≤ 16 * 16 :=
    (Nat.le_of_dvd (Nat.mul_pos (by omega) (by omega)) (Nat.lcm_dvd_mul d₁ d₂)).trans (Nat.mul_le_mul h₁' h₂')
  refine ⟨BitVec.ofNat 32 (Nat.chineseRemainder' h), ?_⟩
  rw [BitVec.toNat_ofNat, Nat.mod_eq_of_lt (hlcm.trans (by omega))]
  exact ⟨Nat.mod_eq_of_modEq hx₁ h₁, Nat.mod_eq_of_modEq hx₂ h₂⟩

/-- Settles O28: a common frame makes the remainders congruent, and congruent remainders have a common frame. -/
theorem phasesMeetExactlyWhenBothDue : Obligations.PhasesMeetExactlyWhenBothDue := by
  intro p q hp hq
  obtain ⟨hd₁, hk₁⟩ := Phase.asNth_range hp
  obtain ⟨hd₂, hk₂⟩ := Phase.asNth_range hq
  simp only [Phase.meets_iff_modEq, Phase.due_iff_asNth]
  constructor
  · exact exists_frame_of_modEq hk₁ hk₂ hd₁ hd₂
  · rintro ⟨frame, h₁, h₂⟩
    rw [← h₁, ← h₂]
    have hleft := (Nat.mod_modEq frame.toNat p.asNth.1).of_dvd (Nat.gcd_dvd_left _ q.asNth.1)
    have hright := (Nat.mod_modEq frame.toNat q.asNth.1).of_dvd (Nat.gcd_dvd_right p.asNth.1 _)
    exact hleft.trans hright.symm

end Sys2Proof.Machine
end

section
/-!
SUPPORT. Validation, taken apart into its nine checks and its walk over the positions (R26, R29 to R33), and COMMIT and
WITHDRAW (R28, R34, R35, R37).
-/

set_option Elab.async false

namespace Sys2Proof.Machine

/-! ### The nine checks -/

/-- The checks of an entry in the order of R29. -/
def FailCause.order : List FailCause := [.lane, .node, .op, .phase, .round, .tick, .tooLong, .region, .overlap]

/-- Whether an entry fails one check (R30 to R33), against the entries of lower positions. -/
def ScanEntry.failsCheck (e : ScanEntry) (c : TimerConfig) (lanes : Four LaneConfig) (lower : List ScanEntry) :
    FailCause → Bool
  | .lane => decide ((lanes.get e.lane).rate = .off)
  | .node => !nodeFits e.node e.op
  | .op => !lengthsFit e.op e.n e.m
  | .phase => !e.phase.valid
  | .round => decide (¬ e.round < c.rpf - c.q)
  | .tick => decide (e.startTick < c.g ∨ ¬ e.startTick < c.s)
  | .tooLong => decide (c.tpr < e.startTick + e.wcd lanes)
  | .region =>
    decide (Config.outputSize < e.outOffset + e.n ∨ Config.resultSize < e.resOffset + e.m ∨
      lower.any (regionsMeet e))
  | .overlap => lower.any fun a => e.overlaps a lanes

/-- The result of the checks is the first of them that fails (R29). -/
theorem ScanEntry.firstFailure_eq_find? (e : ScanEntry) (c : TimerConfig) (lanes : Four LaneConfig)
    (lower : List ScanEntry) :
    e.firstFailure c lanes lower = FailCause.order.find? (e.failsCheck c lanes lower) := by
  have find?_cons_eq : ∀ (x : FailCause) (xs : List FailCause), (x :: xs).find? (e.failsCheck c lanes lower) =
      if e.failsCheck c lanes lower x = true then some x else xs.find? (e.failsCheck c lanes lower) :=
    fun x xs => by rw [List.find?_cons]; split <;> simp_all
  simp only [ScanEntry.firstFailure, FailCause.order, find?_cons_eq, ScanEntry.failsCheck, decide_eq_true_eq,
    List.find?_nil]
  congr

theorem nodeFits_eq_false {node : Nat} {op : Op} : nodeFits node op = false ↔ node = 0 ∧ op ≠ .write := by
  simp [nodeFits]

theorem lengthsFit_eq_false {op : Op} {n m : Nat} :
    lengthsFit op n m = false ↔
      match op with
      | .read => n ≠ 0 ∨ m = 0
      | .write => n = 0 ∨ m ≠ 0
      | .exchange => n = 0 ∨ m = 0 := by
  cases op <;> simp [lengthsFit] <;> omega

theorem Phase.valid_eq_false {p : Phase} : p.valid = false ↔ ∃ d k, p = .nth d k ∧ d ≤ k := by
  cases p <;> simp [Phase.valid]

/-- Two result regions share a byte (R25). -/
theorem regionsMeet_iff {a b : ScanEntry} :
    regionsMeet a b = true ↔
      ∃ i, a.resOffset ≤ i ∧ i < a.resOffset + a.m ∧ b.resOffset ≤ i ∧ i < b.resOffset + b.m := by
  simp only [regionsMeet, Bool.and_eq_true, decide_eq_true_eq]
  constructor
  · intro h
    exact ⟨max a.resOffset b.resOffset, by omega⟩
  · rintro ⟨i, hi⟩
    omega

/-- A transaction on a lane with a rate takes some time (R26). -/
theorem ScanEntry.wcd_pos {e : ScanEntry} {lanes : Four LaneConfig} (h : (lanes.get e.lane).rate ≠ .off) :
    0 < e.wcd lanes := by
  have hbyte : 0 < (lanes.get e.lane).rate.byteTime := by
    revert h
    cases (lanes.get e.lane).rate <;> decide
  unfold ScanEntry.wcd LaneConfig.wcd
  split
  · exact Nat.mul_pos (by omega) hbyte
  · exact Nat.add_pos_left (Nat.mul_pos (by omega) hbyte) _

/-- On a lane with a rate, OVERLAP is a tick that the worst cases of both entries take (R33). -/
theorem ScanEntry.overlaps_iff {b a : ScanEntry} {lanes : Four LaneConfig} (h : (lanes.get b.lane).rate ≠ .off) :
    b.overlaps a lanes = true ↔
      a.lane = b.lane ∧ a.round = b.round ∧ a.phase.meets b.phase = true ∧
        ∃ i, a.startTick ≤ i ∧ i < a.startTick + a.wcd lanes ∧ b.startTick ≤ i ∧ i < b.startTick + b.wcd lanes := by
  simp only [ScanEntry.overlaps, Bool.and_eq_true, beq_iff_eq, and_assoc]
  refine and_congr_right fun hl => and_congr_right fun _ => and_congr_right fun _ => ?_
  have ha : 0 < a.wcd lanes := ScanEntry.wcd_pos (hl ▸ h)
  have hb : 0 < b.wcd lanes := ScanEntry.wcd_pos h
  constructor
  · intro ho
    refine ⟨max a.startTick b.startTick, ?_⟩
    split at ho <;> simp only [decide_eq_true_eq] at ho <;> omega
  · rintro ⟨i, hi⟩
    split <;> simp only [decide_eq_true_eq] <;> omega

/-- The first failing check under any reading of the nine checks that agrees with the model's, on OVERLAP for an entry
on a lane with a rate. -/
theorem ScanEntry.firstFailure_of {e : ScanEntry} {c : TimerConfig} {lanes : Four LaneConfig}
    {lower : List ScanEntry} {fails : FailCause → Prop}
    (h : ∀ x, (x = .overlap → ¬ fails .lane) → (e.failsCheck c lanes lower x = true ↔ fails x)) :
    (∀ before cause after, FailCause.order = before ++ cause :: after → fails cause →
      (∀ x ∈ before, ¬ fails x) → e.firstFailure c lanes lower = some cause) ∧
    ((∀ x ∈ FailCause.order, ¬ fails x) → e.firstFailure c lanes lower = none) := by
  have hlane : .lane ∈ FailCause.order := List.mem_cons_self ..
  have hnot : ∀ x, (x = .overlap → ¬ fails .lane) → ¬ fails x → e.failsCheck c lanes lower x = false :=
    fun x hx hf => Bool.eq_false_iff.mpr (mt (h x hx).mp hf)
  rw [ScanEntry.firstFailure_eq_find?]
  constructor
  · intro before cause after horder hc hbefore
    have hhead : cause = .overlap ∨ .overlap ∈ before → ¬ fails .lane := fun ho => by
      refine hbefore .lane ?_
      cases before with
      | nil =>
        rw [← (List.cons.inj horder).1] at ho
        rcases ho with ho | ho <;> cases ho
      | cons x xs => rw [(List.cons.inj horder).1]; exact List.mem_cons_self ..
    refine List.find?_eq_some_iff_append.mpr ⟨(h cause fun ho => hhead (.inl ho)).mpr hc, before, after, horder, ?_⟩
    intro x hx
    rw [hnot x (fun ho => hhead (.inr (ho ▸ hx))) (hbefore x hx)]
    rfl
  · intro hall
    refine List.find?_eq_none.mpr fun x hx => ?_
    rw [hnot x (fun _ => hall .lane hlane) (hall x hx)]
    exact Bool.false_ne_true

/-! ### The walk over the positions -/

/-- The check that the entry at a position fails, if there is an entry and it fails one, with the entries of lower
positions and those `before` them. -/
def Table.failureAt (table : Table) (c : TimerConfig) (lanes : Four LaneConfig) (before : List ScanEntry)
    (position : Nat) : Option FailCause :=
  table[position]?.join.bind fun e => e.firstFailure c lanes (before ++ (table.take position).filterMap id)

section
variable {c : TimerConfig} {lanes : Four LaneConfig} {before : List ScanEntry} {rest : Table}

theorem Table.failureAt_nil (position : Nat) : Table.failureAt [] c lanes before position = none := rfl

@[simp] theorem Table.failureAt_none_zero : Table.failureAt (none :: rest) c lanes before 0 = none := rfl

@[simp] theorem Table.failureAt_none_succ (position : Nat) :
    Table.failureAt (none :: rest) c lanes before (position + 1) = rest.failureAt c lanes before position := rfl

@[simp] theorem Table.failureAt_some_zero (e : ScanEntry) :
    Table.failureAt (some e :: rest) c lanes before 0 = e.firstFailure c lanes before := by
  simp [Table.failureAt]

@[simp] theorem Table.failureAt_some_succ (e : ScanEntry) (position : Nat) :
    Table.failureAt (some e :: rest) c lanes before (position + 1) =
      rest.failureAt c lanes (before ++ [e]) position := by
  simp [Table.failureAt]

end

/-- The walk finds nothing exactly when no position fails (R29). -/
theorem validateFrom_eq_none {c : TimerConfig} {lanes : Four LaneConfig} {n : Nat} {before : List ScanEntry}
    {table : Table} :
    validateFrom c lanes n before table = none ↔ ∀ i, table.failureAt c lanes before i = none := by
  induction table generalizing n before with
  | nil => exact ⟨fun _ => Table.failureAt_nil, fun _ => rfl⟩
  | cons entry rest ih =>
    rw [← Nat.and_forall_add_one]
    cases entry with
    | none => simp [validateFrom, ih]
    | some e => cases he : e.firstFailure c lanes before <;> simp [validateFrom, he, ih]

/-- The walk finds the first position that fails (R29). -/
theorem validateFrom_eq_some {c : TimerConfig} {lanes : Four LaneConfig} {n position : Nat} {before : List ScanEntry}
    {table : Table} {cause : FailCause} :
    validateFrom c lanes n before table = some (position, cause) ↔
      ∃ j, position = n + j ∧ (∀ i, i < j → table.failureAt c lanes before i = none) ∧
        table.failureAt c lanes before j = some cause := by
  induction table generalizing n before with
  | nil => simp [validateFrom, Table.failureAt_nil]
  | cons entry rest ih =>
    rw [← Nat.or_exists_add_one]
    simp only [Nat.forall_lt_succ_left, ← Nat.add_assoc]
    cases entry with
    | none => simp [validateFrom, ih, Nat.add_right_comm n 1]
    | some e =>
      cases he : e.firstFailure c lanes before with
      | none => simp [validateFrom, he, ih, Nat.add_right_comm n 1]
      | some x => simp [validateFrom, he, eq_comm]

theorem Table.failureAt_eq_none {table : Table} {c : TimerConfig} {lanes : Four LaneConfig} {i : Nat} :
    table.failureAt c lanes [] i = none ↔
      ∀ e, table[i]? = some (some e) → e.firstFailure c lanes ((table.take i).filterMap id) = none := by
  simp [Table.failureAt, Option.bind_eq_none_iff, Option.join_eq_some_iff]

theorem Table.failureAt_eq_some {table : Table} {c : TimerConfig} {lanes : Four LaneConfig} {i : Nat}
    {cause : FailCause} :
    table.failureAt c lanes [] i = some cause ↔
      ∃ e, table[i]? = some (some e) ∧ e.firstFailure c lanes ((table.take i).filterMap id) = some cause := by
  simp [Table.failureAt, Option.bind_eq_some_iff, Option.join_eq_some_iff]

/-! ### COMMIT and WITHDRAW -/

theorem ownCommit_of (t : TimerId) (s : State) : ownCommit [timerCode t] s = s.commitTable t := by
  simp [ownCommit]

theorem ownWithdraw_of (t : TimerId) (s : State) :
    ownWithdraw [timerCode t] s =
      if (s.timer t).pendingCommit then
        ((s.onTimer t fun x => { x with pendingCommit := false }).onTables t fun x => { x with frozen := false },
          .plain .ok)
      else refuse .none s := by
  simp [ownWithdraw]

theorem execCommit_answers {s u : State} {seq : Byte} {t : TimerId} {code : ReplyCode} {fields : List Byte}
    (hr : s.ready (requestOf seq 0x0D [timerCode t]) = true)
    (h : s.taken.commitTable t = (u.taken, { code := code, fields := fields })) :
    exec (.commit seq [timerCode t]) s = .next (u.replied (requestOf seq 0x0D [timerCode t]) code fields) :=
  congrArg Host.Outcome.next (State.serve_replied hr ((ownCommit_of t _).trans h))

theorem execWithdraw_answers {s u : State} {seq : Byte} {t : TimerId} {code : ReplyCode}
    (hr : s.ready (requestOf seq 0x0E [timerCode t]) = true)
    (h : ownWithdraw [timerCode t] s.taken = (u.taken, .plain code)) :
    exec (.withdraw seq [timerCode t]) s = .next (u.replied (requestOf seq 0x0E [timerCode t]) code []) :=
  congrArg Host.Outcome.next (State.serve_replied hr h)

section
variable {s : State} {t : TimerId}

theorem State.commitTable_pending (h : (s.timer t).pendingCommit = true) : s.commitTable t = refuse .pending s :=
  if_pos h

/-- COMMIT with none pending, by the validation of the staged table (R28 steps 3 to 5). -/
theorem State.commitTable_validates (h : (s.timer t).pendingCommit = false) :
    s.commitTable t =
      match (s.table t).staged.validate (s.timer t).config s.laneConfigs with
      | some (position, cause) => (s, { code := .invalid, fields := [BitVec.ofNat 8 position, cause.code] })
      | none =>
        if (s.timer t).mode.inFrame then (s.commitLater t, .plain .pendingAccepted) else (s.commitNow t, .plain .ok) :=
  if_neg (Bool.eq_false_iff.mp h)

/-- A COMMIT that passes validation, by the state of the timer (R28 steps 4 and 5). -/
theorem execCommit_valid {u : State} {seq : Byte} {code : ReplyCode}
    (hr : s.ready (requestOf seq 0x0D [timerCode t]) = true) (hp : (s.timer t).pendingCommit = false)
    (hv : (s.table t).staged.validate (s.timer t).config s.laneConfigs = none)
    (h : (if (s.timer t).mode.inFrame then (s.taken.commitLater t, .plain .pendingAccepted)
      else (s.taken.commitNow t, .plain .ok)) = (u.taken, Answer.plain code)) :
    exec (.commit seq [timerCode t]) s = .next (u.replied (requestOf seq 0x0D [timerCode t]) code []) :=
  execCommit_answers hr ((State.commitTable_validates (s := s.taken) hp).trans (by
    rw [show (s.taken.table t).staged.validate (s.taken.timer t).config s.taken.laneConfigs = none from hv]
    exact h))

theorem State.commitNow_waiting (h : (s.timer t).mode = .waiting) :
    s.commitNow t = (s.onTables t Tables.apply).onBuffers t fun bs => bs.onFilling Buffer.stale := by
  unfold State.commitNow
  rw [h]

theorem State.commitNow_rests (h : (s.timer t).mode = .stopped ∨ (s.timer t).mode = .armed) :
    s.commitNow t = s.onTables t Tables.apply := by
  unfold State.commitNow
  obtain h | h := h <;> rw [h]

end

/-- Settles O27: COMMIT by the flag, the validation and the state, WITHDRAW by the flag; the checks by their agreement
with the fields one by one, and the walk by induction over the positions. -/
theorem commitAndWithdrawByState : Obligations.CommitAndWithdrawByState := by
  refine ⟨fun s seq t => ⟨fun hr => ⟨fun hp => ?_, fun position cause hp hv => ?_, fun hp hv => ?_⟩,
    fun hr => ⟨fun hp => ?_, fun hp => ?_⟩⟩, fun e c lanes lower => ?_,
    fun table c lanes => ⟨fun position cause => ?_, ?_⟩⟩
  · exact execCommit_answers hr (State.commitTable_pending (s := s.taken) hp)
  · refine execCommit_answers (u := s) hr ((State.commitTable_validates (s := s.taken) hp).trans ?_)
    rw [show (s.taken.table t).staged.validate (s.taken.timer t).config s.taken.laneConfigs = _ from hv]
  · have valid := fun (u : State) (code : ReplyCode) => execCommit_valid (u := u) (code := code) hr hp hv
    refine ⟨fun hm => ?_, fun hm => ?_, fun hm => ?_⟩
    · refine valid _ _ ((if_neg ?_).trans ?_)
      · obtain h | h := hm <;> exact fun hf => by rw [h] at hf; cases hf
      · rw [State.commitNow_rests (s := s.taken) hm]
        rfl
    · refine valid _ _ ((if_neg ?_).trans ?_)
      · exact fun hf => by rw [hm] at hf; cases hf
      · rw [State.commitNow_waiting (s := s.taken) hm]
        rfl
    · refine valid _ _ (if_pos ?_)
      obtain h | h := hm <;> rw [h] <;> rfl
  · exact execWithdraw_answers hr ((ownWithdraw_of t s.taken).trans (if_pos hp))
  · exact execWithdraw_answers (u := s) hr ((ownWithdraw_of t s.taken).trans (if_neg (Bool.eq_false_iff.mp hp)))
  · intro wcd fails order
    have hwcd : ∀ x, wcd x = x.wcd lanes := fun x => by
      simp only [wcd, ScanEntry.wcd, LaneConfig.wcd]
      cases (lanes.get x.lane).rate <;> rfl
    refine ScanEntry.firstFailure_of (fails := fails) fun x hx => ?_
    cases x with
    | lane => exact decide_eq_true_iff
    | node => simp only [ScanEntry.failsCheck, Bool.not_eq_true', nodeFits_eq_false, fails]
    | op => exact (iff_of_eq (Bool.not_eq_true' _)).trans lengthsFit_eq_false
    | phase => simp only [ScanEntry.failsCheck, Bool.not_eq_true', Phase.valid_eq_false, fails]
    | round => simp only [ScanEntry.failsCheck, decide_eq_true_eq, Nat.not_lt, fails]
    | tick => simp only [ScanEntry.failsCheck, decide_eq_true_eq, Nat.not_lt, fails]
    | tooLong => simp only [ScanEntry.failsCheck, decide_eq_true_eq, hwcd, fails]
    | region =>
      simp only [ScanEntry.failsCheck, decide_eq_true_eq, List.any_eq_true, regionsMeet_iff, fails]
      rfl
    | overlap => simp only [ScanEntry.failsCheck, List.any_eq_true, ScanEntry.overlaps_iff (hx rfl), hwcd, fails]
  · rw [Table.validate, validateFrom_eq_some]
    simp only [Nat.zero_add, exists_eq_left', Table.failureAt_eq_none, Table.failureAt_eq_some]
  · rw [Table.validate, validateFrom_eq_none]
    simp only [Table.failureAt_eq_none]

end Sys2Proof.Machine
end

section
/-!
SUPPORT. TRANSACT (R131 to R133) and CONFIGURE_LANE (R43, R63, R64, R94) on payloads whose fields are in range.
-/

set_option Elab.async false

namespace Sys2Proof.Machine

/-! ### TRANSACT -/

theorem flagByte_toNat_le (b : Bool) : (flagByte b).toNat ≤ 1 := by
  cases b <;> decide

/-- What the op of a transaction asks of its node and its lengths (R24). -/
theorem opFits {node n m : Nat} {op : Op} (hnode : node = 0 → op = .write) (hread : op = .read → n = 0 ∧ 1 ≤ m)
    (hwrite : op = .write → n ≠ 0 ∧ m = 0) (hexchange : op = .exchange → n ≠ 0 ∧ 1 ≤ m) :
    nodeFits node op = true ∧ lengthsFit op n m = true := by
  constructor
  · simpa [nodeFits, imp_iff_not_or] using hnode
  · cases op with
    | read => simpa [lengthsFit] using hread rfl
    | write => simpa [lengthsFit, Nat.one_le_iff_ne_zero] using hwrite rfl
    | exchange => simpa [lengthsFit, Nat.one_le_iff_ne_zero] using hexchange rfl

/-- The fields of a TRANSACT payload are read back from the bytes they are laid out in (R132, R168). -/
theorem parseTransact_payload {tag : Half} {l : LaneId} {node : Nat} {op : Op} {m timeout : Nat} {retry : Bool}
    {data : List Byte} (now : Time) (hnode : node ≤ 15) (hm : m ≤ 32) (hdata : data.length ≤ 32) (ht : 1 ≤ timeout)
    (ht' : timeout ≤ 65535) (hfit : nodeFits node op = true ∧ lengthsFit op data.length m = true) :
    parseTransact (transactPayload tag l node op m timeout retry data) now =
      some
        { tag := tag, lane := l, node := node, op := op, request := data, m := m, timeout := timeout, retry := retry
          acceptedAt := now, inFlight := false, attempt := .first, runOut := false } := by
  let p := transactPayload tag l node op m timeout retry data
  have b0 : BitVec.ofNat 16 (halfAt p 0) = tag := by
    rw [halfAt_of_bytes (x := tag.toNat) (by omega) rfl rfl, BitVec.ofNat_toNat, BitVec.setWidth_eq]
  have b2 : laneOf (byteAt p 2) = some l := laneOf_laneCode l
  have b3 : byteAt p 3 = node := toNat_ofNat_byte (by omega)
  have b4 : opOf (byteAt p 4) = some op := opOf_code op
  have b5 : byteAt p 5 = data.length := toNat_ofNat_byte (by omega)
  have b6 : byteAt p 6 = m := toNat_ofNat_byte (by omega)
  have b7 : halfAt p 7 = timeout := halfAt_of_bytes ht' rfl rfl
  have b9 : byteAt p 9 = (flagByte retry).toNat := rfl
  have hretry : ((flagByte retry).toNat == 1) = retry := by cases retry <;> rfl
  change parseTransact p now = _
  simp only [parseTransact, b0, b2, b3, b4, b5, b6, b7, b9, hretry]
  exact if_pos ⟨hnode, hdata, hm, ht, flagByte_toNat_le retry, hfit⟩

/-- The tag of an entry the acyclic table holds (R131). -/
theorem State.acyclicEntry_isSome {s : State} {tag : Half} :
    (s.acyclicEntry tag).isSome = true ↔ ∃ e ∈ s.acyclic, e.tag = tag := by
  simp [State.acyclicEntry]

section
variable {s : State} {e : AcyclicEntry}

theorem State.transactRefusal_full (h : 16 ≤ s.acyclic.length) : s.transactRefusal e = some .full := if_pos h

theorem State.transactRefusal_taken (hl : s.acyclic.length < 16) (h : ∃ x ∈ s.acyclic, x.tag = e.tag) :
    s.transactRefusal e = some .tagInUse := by
  have hroom : ¬ Config.acyclicLimit ≤ s.acyclic.length := Nat.not_le.mpr hl
  rw [State.transactRefusal, if_neg hroom, if_pos (State.acyclicEntry_isSome.mpr h)]

/-- With room and a tag not in use the state of the lane decides (R132 steps 4 and 5). -/
theorem State.transactRefusal_lane (hl : s.acyclic.length < 16) (h : ¬ ∃ x ∈ s.acyclic, x.tag = e.tag) :
    s.transactRefusal e =
      if (s.lane e.lane).mode = .disabled ∨ (s.lane e.lane).mode = .lineFault then some .badState
      else if (s.lane e.lane).mode = .sleeping ∨ (s.lane e.lane).mode = .asleep then some .asleep
      else none := by
  have hroom : ¬ Config.acyclicLimit ≤ s.acyclic.length := Nat.not_le.mpr hl
  rw [State.transactRefusal, if_neg hroom, if_neg (mt State.acyclicEntry_isSome.mp h)]
  cases (s.lane e.lane).mode <;> rfl

end

/-- TRANSACT of an entry, by the refusal it meets (R132, R133). -/
theorem ownTransact_of {p : List Byte} {s : State} {e : AcyclicEntry}
    (hl : 10 ≤ p.length ∧ p.length = 10 + byteAt p 5) (he : parseTransact p s.time = some e) :
    ownTransact p s =
      match s.transactRefusal e with
      | some code => refuse code s
      | none => (s.acceptTransact e, .plain .accepted) := by
  simp only [ownTransact, if_pos hl, he] <;> rfl

theorem transactPayload_length {tag : Half} {l : LaneId} {node : Nat} {op : Op} {m timeout : Nat} {retry : Bool}
    {data : List Byte} (hdata : data.length ≤ 32) :
    10 ≤ (transactPayload tag l node op m timeout retry data).length ∧
      (transactPayload tag l node op m timeout retry data).length =
        10 + byteAt (transactPayload tag l node op m timeout retry data) 5 := by
  have h5 : byteAt (transactPayload tag l node op m timeout retry data) 5 = data.length := toNat_ofNat_byte (by omega)
  have hlen : (transactPayload tag l node op m timeout retry data).length = data.length + 10 := rfl
  omega

/-- Settles O41: the entry is read from its payload, and the refusals stand in their order. -/
theorem transactAcceptedOrRefused : Obligations.TransactAcceptedOrRefused := by
  intro s seq tag l node op m timeout retry data hnode hm hdata ht ht' hzero hread hwrite hexchange p rq answer taken hr
  have hfit := opFits (n := data.length) hzero (by simpa using hread) (by simpa using hwrite) (by simpa using hexchange)
  have hparse := parseTransact_payload (tag := tag) (l := l) (retry := retry) s.time hnode hm hdata ht ht' hfit
  have hown := ownTransact_of (s := s.taken) (transactPayload_length hdata) hparse
  have refused : ∀ code, s.transactRefusal _ = some code → answer s code := fun code h =>
    congrArg Host.Outcome.next (State.serve_replied (u := s) hr (hown.trans (by
      rw [show s.taken.transactRefusal _ = some code from h]; rfl)))
  refine ⟨fun hl => refused _ (State.transactRefusal_full hl),
    fun hl h => refused _ (State.transactRefusal_taken hl h),
    fun hl h => ⟨fun hmode => ?_, fun hmode => ?_, fun hmode => ?_⟩⟩
  · exact refused _ ((State.transactRefusal_lane hl h).trans (if_pos hmode))
  · refine refused _ ((State.transactRefusal_lane hl h).trans ((if_neg ?_).trans (if_pos hmode)))
    dsimp only
    obtain hmode | hmode := hmode <;> simp [hmode]
  · refine congrArg Host.Outcome.next (State.serve_replied hr (hown.trans ?_))
    rw [show s.taken.transactRefusal _ = none from
      (State.transactRefusal_lane hl h).trans ((if_neg ?_).trans (if_neg ?_))]
    · rfl
    all_goals
      dsimp only
      obtain hmode | hmode | hmode := hmode <;> simp [hmode]

/-! ### CONFIGURE_LANE -/

theorem rateOf_code (r : Rate) : rateOf r.code.toNat = some r := by
  cases r <;> rfl

/-- A configuration in range is read back from its payload (R62, R168). -/
theorem parseLaneConfig_payload {c : LaneConfig} (h : c.Ok) (l : LaneId) : parseLaneConfig (c.payload l) = some c := by
  obtain ⟨hrt, hrt', hmiss, hmiss', hprobe, hprobe'⟩ := h
  have b1 : rateOf (byteAt (c.payload l) 1) = some c.rate := rateOf_code _
  have b2 : halfAt (c.payload l) 2 = c.rt := halfAt_of_bytes (by omega) rfl rfl
  have b4 : byteAt (c.payload l) 4 = c.missLimit := toNat_ofNat_byte (by omega)
  have b5 : byteAt (c.payload l) 5 = c.probeInterval := toNat_ofNat_byte hprobe'
  simp only [parseLaneConfig, b1, b2, b4, b5]
  exact if_pos ⟨hrt, hrt', hmiss, hmiss', hprobe⟩

theorem ownConfigureLane_of {c : LaneConfig} (h : c.Ok) (l : LaneId) (s : State) :
    ownConfigureLane (c.payload l) s = s.tryConfigureLane l c := by
  have hl : laneOf (byteAt (c.payload l) 0) = some l := laneOf_laneCode l
  rw [ownConfigureLane, if_pos (by rfl), hl, parseLaneConfig_payload h]

theorem State.laneInUse_iff {s : State} {l : LaneId} :
    s.laneInUse l = true ↔ (s.lane l).mode = .busy ∨ (s.lane l).mode = .sleeping ∨ (s.lane l).mode = .waking ∨
      ∃ e ∈ s.acyclic, e.lane = l := by
  simp [State.laneInUse, or_assoc]

/-- A lane in a rate leaves DISABLED for READY and keeps any other state; at rate OFF it is DISABLED (R64). -/
theorem LaneMode.configured_eq (m : LaneMode) (rate : Rate) :
    m.configured rate = if rate = .off then .disabled else if m = .disabled then .ready else m := by
  cases m <;> rfl

/-- The countdown of a SILENT record starts afresh (R94). -/
theorem NodeRecord.reconfigure_eq (r : NodeRecord) (c : LaneConfig) :
    r.reconfigure c =
      { r with
        missCount := 0
        countdown := if r.mode = .silent then some c.probeInterval else r.countdown } := by
  unfold NodeRecord.reconfigure
  cases r.mode <;> rfl

/-- What a taken CONFIGURE_LANE leaves of lane and roster, in their fields (R64, R94). -/
theorem State.configureTo_eq (s : State) (l : LaneId) (c : LaneConfig) :
    s.configureTo l c =
      { s with
        lanes := s.lanes.set l
          { s.lane l with
            config := c, rx := (s.lane l).rx.configured (s.lane l).config.rate c.rate, quiet := 0, dominant := 0
            mode :=
              if c.rate = .off then .disabled
              else if (s.lane l).mode = .disabled then .ready else (s.lane l).mode }
        roster := s.roster.set l ((s.roster.get l).map fun r =>
          { r with
            missCount := 0
            countdown := if r.mode = .silent then some c.probeInterval else r.countdown }) } := by
  simp only [← LaneMode.configured_eq, ← NodeRecord.reconfigure_eq]
  rfl

/-- The conflict of a timer under proposed lane configurations, in the bytes that report it: the active table, and the
staged one where a commit is pending (R43, R169). -/
theorem State.laneConflict_eq (s : State) (t : TimerId) (lanes : Four LaneConfig) :
    s.laneConflict t lanes =
      ((match (s.table t).active.validate (s.timer t).config lanes with
        | some (position, cause) => some [timerCode t, 1, BitVec.ofNat 8 position, cause.code]
        | none =>
          if (s.timer t).pendingCommit then
            match (s.table t).staged.validate (s.timer t).config lanes with
            | some (position, cause) => some [timerCode t, 0, BitVec.ofNat 8 position, cause.code]
            | none => none
          else none).map fun fields => { code := .tableConflict, fields := fields }) := by
  unfold State.laneConflict
  cases (s.table t).active.validate (s.timer t).config lanes with
  | some failure => rfl
  | none =>
    cases (s.timer t).pendingCommit with
    | false => rfl
    | true => cases (s.table t).staged.validate (s.timer t).config lanes <;> rfl

theorem execConfigureLane_answers {s u : State} {seq : Byte} {l : LaneId} {c : LaneConfig} {code : ReplyCode}
    {fields : List Byte} (hc : c.Ok) (hr : s.ready (requestOf seq 0x03 (c.payload l)) = true)
    (h : s.taken.tryConfigureLane l c = (u.taken, { code := code, fields := fields })) :
    exec (.configureLane seq (c.payload l)) s =
      .next (u.replied (requestOf seq 0x03 (c.payload l)) code fields) :=
  congrArg Host.Outcome.next (State.serve_replied hr ((ownConfigureLane_of hc l _).trans h))

section
variable {s : State} {l : LaneId} {c : LaneConfig}

/-- CONFIGURE_LANE on a lane that is not in use, by the conflicts of timer A and timer B (R43, R63). -/
theorem State.tryConfigureLane_free (h : s.laneInUse l = false) :
    s.tryConfigureLane l c =
      match s.laneConflict .a (s.laneConfigs.set l c), s.laneConflict .b (s.laneConfigs.set l c) with
      | some a, _ => (s, a)
      | none, some b => (s, b)
      | none, none => (s.configureTo l c, .plain .ok) := by
  rw [State.tryConfigureLane, if_neg (Bool.eq_false_iff.mp h), State.firstLaneConflict]
  cases s.laneConflict .a (s.laneConfigs.set l c) <;> cases s.laneConflict .b (s.laneConfigs.set l c) <;> rfl

end

/-- Settles O46: a lane in use, the first conflict, and the lane and the roster of a configuration that is taken. -/
theorem configureLaneByState : Obligations.ConfigureLaneByState := by
  intro s seq l c hc p rq answer inUse fails conflict hr
  have hconflict : ∀ t, s.taken.laneConflict t (s.taken.laneConfigs.set l c) =
      (conflict t).map fun fields => { code := .tableConflict, fields := fields } := fun t =>
    State.laneConflict_eq s.taken t _
  refine ⟨fun hu => ?_, fun hu => ?_⟩
  · exact execConfigureLane_answers (u := s) hc hr (if_pos (State.laneInUse_iff (s := s.taken).mpr hu))
  · have hfree := State.tryConfigureLane_free (s := s.taken) (c := c)
      (Bool.eq_false_iff.mpr (mt (State.laneInUse_iff (s := s.taken)).mp hu))
    rw [hconflict, hconflict] at hfree
    refine ⟨fun fields ha => ?_, fun fields ha hb => ?_, fun ha hb => ?_⟩
    · rw [ha] at hfree
      exact execConfigureLane_answers (u := s) hc hr hfree
    · rw [ha, hb] at hfree
      exact execConfigureLane_answers (u := s) hc hr hfree
    · rw [ha, hb] at hfree
      exact execConfigureLane_answers hc hr (hfree.trans (congrArg (·, Answer.plain .ok) (State.configureTo_eq ..)))

end Sys2Proof.Machine
end

section
/-!
SUPPORT. Every step keeps the lanes as R66 says: what a lane holds in each of its states is said once, and so is what
leaves a lane steady; each operation that moves a lane to another state is shown to keep R66.
-/

set_option Elab.async false

namespace Sys2Proof.Machine

/-! ### What a lane holds in each state (R66) -/

section
variable {x : Lane}

theorem Lane.ok_disabled (h : x.mode = .disabled) :
    x.Ok ↔ x.inFlight = none ∧ x.claims = [] ∧ x.sleep = none ∧ x.wake = none ∧ x.sleepPending = false ∧
      x.wakePending = false ∧ x.config.rate = .off := by
  simp [Lane.Ok, h, beq_eq_decide]

theorem Lane.ok_ready (h : x.mode = .ready) :
    x.Ok ↔ x.inFlight = none ∧ x.sleep = none ∧ x.wake = none ∧ x.sleepPending = false ∧ x.wakePending = false ∧
      x.config.rate ≠ .off := by
  simp [Lane.Ok, h, beq_eq_decide]

theorem Lane.ok_busy (h : x.mode = .busy) :
    x.Ok ↔ x.inFlight.isSome = true ∧ x.sleep = none ∧ x.wake = none ∧
      (x.wakePending = true → x.sleepPending = true) ∧ x.config.rate ≠ .off := by
  simp [Lane.Ok, h, beq_eq_decide]

theorem Lane.ok_sleeping (h : x.mode = .sleeping) :
    x.Ok ↔ x.inFlight = none ∧ x.claims = [] ∧ x.sleep.isSome = true ∧ x.wake = none ∧ x.sleepPending = false ∧
      x.config.rate ≠ .off := by
  simp [Lane.Ok, h, beq_eq_decide]

theorem Lane.ok_asleep (h : x.mode = .asleep) :
    x.Ok ↔ x.inFlight = none ∧ x.claims = [] ∧ x.sleep = none ∧ x.wake = none ∧ x.sleepPending = false ∧
      x.wakePending = false ∧ x.config.rate ≠ .off := by
  simp [Lane.Ok, h, beq_eq_decide]

theorem Lane.ok_waking (h : x.mode = .waking) :
    x.Ok ↔ x.inFlight = none ∧ (∀ c ∈ x.claims, c.isCyclic = false) ∧ x.sleep = none ∧ x.wake.isSome = true ∧
      x.sleepPending = false ∧ x.wakePending = false ∧ x.config.rate ≠ .off := by
  simp [Lane.Ok, h, beq_eq_decide]

theorem Lane.ok_lineFault (h : x.mode = .lineFault) :
    x.Ok ↔ x.inFlight = none ∧ x.claims = [] ∧ x.sleep = none ∧ x.wake = none ∧ x.sleepPending = false ∧
      x.wakePending = false ∧ x.config.rate ≠ .off := by
  simp [Lane.Ok, h, beq_eq_decide]

/-- A transaction is in flight in BUSY only. -/
theorem Lane.Ok.busy_of_flight (h : x.Ok) {f : InFlight} (hf : x.inFlight = some f) : x.mode = .busy := by
  have hb := h.1
  rw [hf] at hb
  simpa using hb.symm

/-- A wake is in progress in WAKING only. -/
theorem Lane.Ok.waking_of_wake (h : x.Ok) {p : WakeProgress} (hp : x.wake = some p) : x.mode = .waking := by
  obtain ⟨-, -, -, -, hwake, -⟩ := h
  rw [hp] at hwake
  simpa using hwake.symm

/-- With no transaction, no SLEEP command and no wake in progress no flag is set. -/
theorem Lane.Ok.rests (h : x.Ok) (hbusy : x.mode ≠ .busy) (hsleeping : x.mode ≠ .sleeping)
    (hwaking : x.mode ≠ .waking) :
    x.inFlight = none ∧ x.sleep = none ∧ x.wake = none ∧ x.sleepPending = false ∧ x.wakePending = false := by
  obtain ⟨hflight, -, -, hsleep, hwake, hsleepPending, hwakePending, -⟩ := h
  simp_all [beq_eq_decide]

/-- READY and BUSY carry claims of both kinds, WAKING acyclic ones. -/
theorem Lane.Ok.carries (h : x.Ok) {claims : List Claim}
    (hm : x.mode = .ready ∨ x.mode = .busy ∨ (x.mode = .waking ∧ ∀ c ∈ claims, c.isCyclic = false)) :
    Lane.Ok { x with claims := claims } := by
  obtain ⟨hflight, -, -, hrest⟩ := h
  refine ⟨hflight, fun hm' => ?_, fun hm' => ?_, hrest⟩
  · obtain hm | hm | ⟨hm, -⟩ := hm <;> simp [hm] at hm'
  · obtain hm | hm | ⟨-, hc⟩ := hm
    · simp [hm] at hm'
    · simp [hm] at hm'
    · exact hc

end

/-! ### Lanes that stay in their state -/

/-- A lane keeps its state, its rate, its flags and whether something is in progress, and gains no claim. -/
structure Lane.Steady (x y : Lane) : Prop where
  mode : y.mode = x.mode := by rfl
  rate : y.config.rate = x.config.rate := by rfl
  sleepPending : y.sleepPending = x.sleepPending := by rfl
  wakePending : y.wakePending = x.wakePending := by rfl
  sleep : y.sleep.isSome = x.sleep.isSome := by rfl
  wake : y.wake.isSome = x.wake.isSome := by rfl
  flight : y.inFlight.isSome = x.inFlight.isSome := by rfl
  claims : y.claims ⊆ x.claims := by exact List.Subset.refl _

theorem Lane.Ok.steady {x y : Lane} (h : x.Ok) (k : x.Steady y) : y.Ok := by
  obtain ⟨hflight, hempty, hwaking, hrest⟩ := h
  unfold Lane.Ok
  rw [k.mode, k.rate, k.sleepPending, k.wakePending, k.sleep, k.wake, k.flight]
  exact ⟨hflight, fun hm => List.subset_nil.mp (hempty hm ▸ k.claims), fun hm c hc => hwaking hm c (k.claims hc),
    hrest⟩

theorem Lane.without_steady (x : Lane) (p : Claim → Bool) : x.Steady (x.without p) where
  flight := Option.isSome_map
  claims := List.filter_subset_self _

theorem Lane.halfTick_steady (x : Lane) (v : Level) : x.Steady (x.halfTick v) where
  mode := by simp
  rate := by simp
  sleepPending := by simp
  wakePending := by simp
  sleep := by simp
  wake := by simp
  flight := by simp
  claims := by simp

/-! ### The lanes of a state -/

theorem State.LanesOk.steady {s t : State} (hs : s.LanesOk) (h : ∀ l, (s.lane l).Steady (t.lane l)) : t.LanesOk :=
  fun l => (hs l).steady (h l)

theorem State.LanesOk.of_lanes {s t : State} (hs : s.LanesOk) (h : t.lanes = s.lanes := by simp) : t.LanesOk :=
  fun l => by rw [State.lane, h]; exact hs l

/-- One lane changes. -/
theorem State.LanesOk.of_lane {s t : State} {l : LaneId} {x : Lane} (hs : s.LanesOk)
    (h : ∀ m, t.lane m = if m = l then x else s.lane m) (hx : x.Ok) : t.LanesOk := fun m => by
  rw [h]
  split
  · exact hx
  · exact hs m

theorem State.LanesOk.onLane {s : State} {l : LaneId} {f : Lane → Lane} (hs : s.LanesOk) (h : (f (s.lane l)).Ok) :
    (s.onLane l f).LanesOk :=
  hs.of_lane (s.onLane_lane_if l f) h

theorem State.LanesOk.onLane_notify {s : State} {l : LaneId} {f : Lane → Lane} {body : NoteBody} (hs : s.LanesOk)
    (h : (f (s.lane l)).Ok) : ((s.onLane l f).notify body).LanesOk := (hs.onLane h).of_lanes

theorem State.LanesOk.resolveAll {s : State} (hs : s.LanesOk) (l : LaneId) (o : Outcome) :
    (s.resolveAll l o).LanesOk := by
  refine hs.steady fun m => ?_
  rw [State.resolveAll_lane]
  split
  · exact { claims := List.nil_subset _ }
  · exact {}

/-! ### The end of a transaction, and sleep -/

theorem State.enterSleeping_lane (s : State) (l m : LaneId) :
    (s.enterSleeping l).lane m =
      if m = l then
        { s.lane l with mode := .sleeping, sleepPending := false, sleep := some .waiting, claims := [] }
      else s.lane m := by
  unfold State.enterSleeping
  rw [State.resolveAll_lane, State.onLane_lane_if]
  split <;> rfl

/-- A lane with nothing in flight and no wake in progress enters SLEEPING (R82). -/
theorem State.LanesOk.enterSleeping {s u : State} {l : LaneId} (hs : s.LanesOk)
    (hu : ∀ m, m ≠ l → u.lane m = s.lane m) (hflight : (u.lane l).inFlight = none) (hwake : (u.lane l).wake = none)
    (hrate : (u.lane l).config.rate ≠ .off) : (u.enterSleeping l).LanesOk :=
by
  have hx : Lane.Ok
      { u.lane l with mode := .sleeping, sleepPending := false, sleep := some .waiting, claims := [] } :=
    (Lane.ok_sleeping rfl).mpr ⟨hflight, rfl, rfl, hwake, rfl, hrate⟩
  refine hs.of_lane (l := l) (fun m => (u.enterSleeping_lane l m).trans ?_) hx
  split
  · rfl
  · next hm => exact hu m hm

theorem State.clearFlight_of_awake {s : State} {l : LaneId} (h : (s.lane l).sleepPending = false) :
    s.clearFlight l = s.onLane l fun x => { x with mode := .ready, inFlight := none } :=
  if_neg (Bool.eq_false_iff.mp h)

/-- A BUSY lane without its transaction is READY, or with sleep pending SLEEPING (R74). -/
theorem State.LanesOk.clearFlight {s : State} {l : LaneId} (hs : s.LanesOk) (hm : (s.lane l).mode = .busy) :
    (s.clearFlight l).LanesOk := by
  obtain ⟨-, hsleep, hwake, hpending, hrate⟩ := (Lane.ok_busy hm).mp (hs l)
  cases hp : (s.lane l).sleepPending with
  | false =>
    rw [State.clearFlight_of_awake hp]
    have hw : (s.lane l).wakePending = false := Bool.eq_false_iff.mpr fun h => by simp [hpending h] at hp
    exact hs.onLane ((Lane.ok_ready rfl).mpr ⟨rfl, hsleep, hwake, hp, hw, hrate⟩)
  | true =>
    have hclear : s.clearFlight l =
        (s.onLane l fun x => { x with mode := .ready, inFlight := none }).enterSleeping l := if_pos hp
    rw [hclear]
    refine hs.enterSleeping (fun m hne => by rw [State.onLane_lane, if_neg hne]) ?_ ?_ ?_ <;>
      rw [State.onLane_lane_same] <;> assumption

theorem State.LanesOk.ends {s : State} {l : LaneId} {f : InFlight} (o : Outcome) (d : List Byte) (hs : s.LanesOk)
    (hf : (s.lane l).inFlight = some f) : (s.endTransaction l f o d).LanesOk := by
  have hclear := hs.clearFlight ((hs l).busy_of_flight hf)
  have hready : (s.lane l).sleepPending = false → ((s.clearFlight l).lane l).mode = .ready := fun h => by
    rw [State.clearFlight_of_awake h, State.onLane_lane_same]
  obtain ⟨k, -, -, hsleep, h⟩ | ⟨tag, a, e, -, -, hsleep, h⟩ | h := s.endTransaction_cases l f o d
  · rw [h, State.placeRetry_cyclic]
    exact hclear.onLane ((hclear l).carries (.inl (hready hsleep)))
  · rw [h]
    refine State.LanesOk.of_lanes ?_ (State.placeRetry_acyclic_lanes ..)
    exact hclear.onLane ((hclear l).carries (.inl (hready hsleep)))
  · rw [h]
    exact hclear.of_lanes

/-! ### Claims that come and go -/

theorem State.dropAcyclic_lane (s : State) (e : AcyclicEntry) (o : Outcome) (m : LaneId) :
    (s.dropAcyclic e o).lane m =
      if m = e.lane then
        { s.lane e.lane with claims := (s.lane e.lane).claims.filter fun c => !c.hasTag e.tag }
      else s.lane m := by
  rw [State.lane, State.dropAcyclic_lanes]
  exact s.onLane_lane_if ..

theorem State.LanesOk.drops {s : State} (hs : s.LanesOk) (e : AcyclicEntry) (o : Outcome) :
    (s.dropAcyclic e o).LanesOk :=
  hs.of_lane (s.dropAcyclic_lane e o) ((hs e.lane).steady { claims := List.filter_subset_self _ })

theorem State.LanesOk.grants {s : State} {l : LaneId} {f : InFlight} {rest : List Claim} (hs : s.LanesOk)
    (h : s.grantable l = some (f, rest)) :
    State.LanesOk
      ((s.onLane l fun x => { x with mode := .busy, claims := rest, inFlight := some f }).markGranted f.claim) := by
  have hm : (s.lane l).mode = .ready := by
    unfold State.grantable at h
    split at h
    · next hc =>
      simp only [Bool.and_eq_true, beq_iff_eq] at hc
      exact hc.1.2
    · cases h
  obtain ⟨-, hsleep, hwake, -, hpending, hrate⟩ := (Lane.ok_ready hm).mp (hs l)
  refine hs.of_lane (s.granted_lane l f rest) ((Lane.ok_busy rfl).mpr ⟨rfl, hsleep, hwake, fun hp => ?_, hrate⟩)
  rw [hpending] at hp
  cases hp

/-- An acyclic request is accepted on a lane that is READY, BUSY or WAKING (R132). -/
theorem State.LanesOk.accepts {s : State} {e : AcyclicEntry} (hs : s.LanesOk) (h : s.transactRefusal e = none) :
    (s.acceptTransact e).LanesOk := by
  have hx := hs e.lane
  refine State.LanesOk.onLane (s := { s with acyclic := s.acyclic ++ [e] }) hs (hx.carries ?_)
  unfold State.transactRefusal at h
  split at h
  · cases h
  · split at h
    · cases h
    · cases hm : (s.lane e.lane).mode with
      | ready => exact .inl rfl
      | busy => exact .inr (.inl rfl)
      | waking =>
        obtain ⟨-, hacyclic, -⟩ := (Lane.ok_waking hm).mp hx
        refine .inr (.inr ⟨rfl, fun c hc => ?_⟩)
        obtain hc | hc := List.mem_append.mp hc
        · exact hacyclic c hc
        · rw [List.mem_singleton.mp hc]; rfl
      | disabled => simp [hm] at h
      | sleeping => simp [hm] at h
      | asleep => simp [hm] at h
      | lineFault => simp [hm] at h

/-- A posted claim enters the list of a READY or BUSY lane, or leaves every lane as it was (R68). -/
theorem State.post_lanes_cases (s : State) (e : ScanEntry) (c : CyclicClaim) :
    (s.post e c).lanes = s.lanes ∨
      (((s.lane e.lane).mode = .ready ∨ (s.lane e.lane).mode = .busy) ∧
        (s.post e c).lanes = (s.enlist e.lane c).lanes) := by
  by_cases hm : (s.lane e.lane).mode = .ready ∨ (s.lane e.lane).mode = .busy
  · rw [State.post_of_carrying c hm, State.postToLane]
    split
    · exact .inr ⟨hm, rfl⟩
    · dsimp only
      split
      · exact .inl (by simp)
      · exact .inr ⟨hm, rfl⟩
  · refine .inl ?_
    unfold State.post
    cases h : (s.lane e.lane).mode <;> simp_all

theorem State.LanesOk.post {s : State} (hs : s.LanesOk) (e : ScanEntry) (c : CyclicClaim) : (s.post e c).LanesOk := by
  obtain h | ⟨hm, h⟩ := s.post_lanes_cases e c
  · exact hs.of_lanes h
  · exact State.LanesOk.of_lanes (s := s.enlist e.lane c) (hs.onLane ((hs e.lane).carries (hm.imp_right .inl))) h

theorem State.LanesOk.postAll {s : State} (hs : s.LanesOk) (i : TimerId) : (s.postAll i).LanesOk :=
  State.postAll_keeps hs (fun _ _ e _ _ _ hu => hu.post e _) fun _ _ hu => hu.of_lanes

/-! ### Frames -/

theorem State.LanesOk.closeFrame {s : State} (hs : s.LanesOk) (i : TimerId) : (s.closeFrame i).LanesOk :=
  hs.steady fun l => by rw [State.closeFrame_lane]; exact Lane.without_steady _ _

theorem State.LanesOk.openFirst {s t : State} {i : TimerId} (hs : s.LanesOk) (h : s.openFirst i = some t) :
    t.LanesOk := by
  unfold State.openFirst at h
  rw [Option.map_eq_some_iff] at h
  obtain ⟨u, hu, rfl⟩ := h
  obtain ⟨bs, -, rfl⟩ := State.firstFrame_some hu
  exact State.LanesOk.postAll hs.of_lanes i

theorem State.LanesOk.openNext {s : State} (hs : s.LanesOk) (i : TimerId) : (s.openNext i).LanesOk :=
  State.LanesOk.postAll (s := s.nextFrame i) (hs.of_lanes (by simp [State.nextFrame])) i

theorem State.LanesOk.close {s t : State} {i : TimerId} (hs : s.LanesOk) (h : s.close i = some t) : t.LanesOk := by
  have hclosed := hs.closeFrame i
  unfold State.close at h
  dsimp only at h
  split at h
  · cases h
    rw [State.drain_eq_stopped]
    exact hclosed.of_lanes
  · rw [Option.map_eq_some_iff] at h
    obtain ⟨u, hu, rfl⟩ := h
    obtain ⟨bs, -, rfl⟩ := State.prepareNext_some hu
    split
    · exact hclosed.of_lanes
    · exact State.LanesOk.openNext hclosed.of_lanes i

theorem State.LanesOk.stopWaiting {s : State} (hs : s.LanesOk) (i : TimerId) : (s.stopWaiting i).LanesOk := by
  rw [State.stopWaiting_eq_stopped]
  exact hs.of_lanes

theorem State.LanesOk.stopRunning {s : State} (hs : s.LanesOk) (i : TimerId) : (s.stopRunning i).LanesOk := by
  have hwithdrawn : (s.withdrawn i).LanesOk :=
    hs.steady fun l => by rw [State.withdrawn_lane]; exact Lane.without_steady _ _
  rw [State.stopRunning_eq_stopped]
  exact hwithdrawn.of_lanes

theorem State.LanesOk.stopAtEnd {s : State} (hs : s.LanesOk) (i : TimerId) : (s.stopAtEnd i).LanesOk := by
  unfold State.stopAtEnd
  split
  · exact hs.of_lanes
  · exact hs
  · exact hs.of_lanes rfl
  · exact hs.stopWaiting i
  · exact hs

theorem State.LanesOk.stopAtOnce {s : State} (hs : s.LanesOk) (i : TimerId) : (s.stopAtOnce i).LanesOk := by
  unfold State.stopAtOnce
  split
  · exact hs.stopRunning i
  · exact hs.stopRunning i
  · exact hs.of_lanes rfl
  · exact hs.stopWaiting i
  · exact hs

/-! ### CONFIGURE_LANE -/

/-- A table that is valid has its entries on lanes with a rate (R30). -/
theorem Table.rate_of_valid {table : Table} {c : TimerConfig} {lanes : Four LaneConfig} {position : Nat}
    {e : ScanEntry} (h : table.valid c lanes = true) (he : table.getD position none = some e) :
    (lanes.get e.lane).rate ≠ .off := by
  have hnone := validateFrom_eq_none.mp (Option.isNone_iff_eq_none.mp h) position
  have hat : table[position]? = some (some e) := by
    rw [List.getD_eq_getElem?_getD] at he
    cases hp : table[position]? with
    | none => simp [hp] at he
    | some x => simp_all
  have hfirst := Table.failureAt_eq_none.mp hnone e hat
  intro hoff
  simp [ScanEntry.firstFailure, hoff] at hfirst

/-- A lane that no entry keeps from being set to OFF carries no claim: its cyclic claims would have entries of an active
table, its acyclic ones entries of the acyclic table (R43, R63). -/
theorem State.ClaimsPlaced.no_claims {s : State} {l : LaneId} {c : LaneConfig} (hp : s.ClaimsPlaced)
    (huse : s.laneInUse l = false) (hconflict : s.firstLaneConflict l c = none) (hoff : c.rate = .off) :
    (s.lane l).claims = [] := by
  obtain ⟨hcyclic, hacyclic, -⟩ := hp l
  refine List.eq_nil_iff_forall_not_mem.mpr fun d hd => ?_
  cases d with
  | cyclic k =>
    obtain ⟨e, he, hl⟩ := hcyclic k hd
    obtain ⟨hvalid, -⟩ := State.laneConflict_none (State.firstLaneConflict_none hconflict k.timer)
    refine Table.rate_of_valid hvalid he ?_
    rw [hl, Four.get_set_same]
    exact hoff
  | acyclic tag a =>
    obtain ⟨e, he, hl, -⟩ := hacyclic tag a hd
    have hmem : ∃ e ∈ s.acyclic, e.lane = l := ⟨e, List.mem_of_find?_eq_some he, hl⟩
    rw [State.laneInUse_iff.mpr (.inr (.inr (.inr hmem)))] at huse
    cases huse

/-- A configuration is taken in DISABLED, READY, ASLEEP and LINE_FAULT only, and OFF with no claim left (R63, R64). -/
theorem State.LanesOk.configureTo {s : State} {l : LaneId} {c : LaneConfig} (hs : s.LanesOk) (hp : s.ClaimsPlaced)
    (huse : s.laneInUse l = false) (hconflict : s.firstLaneConflict l c = none) : (s.configureTo l c).LanesOk := by
  have hfree := mt State.laneInUse_iff.mpr (Bool.eq_false_iff.mp huse)
  simp only [not_or] at hfree
  obtain ⟨hbusy, hsleeping, hwaking, -⟩ := hfree
  have hx := hs l
  obtain ⟨hflight, hsleep, hwake, hsp, hwp⟩ := hx.rests hbusy hsleeping hwaking
  rw [State.configureTo_eq]
  refine hs.of_lane (l := l) (fun m => Four.get_set ..) ?_
  by_cases hoff : c.rate = .off
  · rw [if_pos hoff]
    exact (Lane.ok_disabled rfl).mpr ⟨hflight, hp.no_claims huse hconflict hoff, hsleep, hwake, hsp, hwp, hoff⟩
  · rw [if_neg hoff]
    cases hm : (s.lane l).mode with
    | busy => exact absurd hm hbusy
    | sleeping => exact absurd hm hsleeping
    | waking => exact absurd hm hwaking
    | disabled => exact (Lane.ok_ready rfl).mpr ⟨hflight, hsleep, hwake, hsp, hwp, hoff⟩
    | ready => exact (Lane.ok_ready rfl).mpr ⟨hflight, hsleep, hwake, hsp, hwp, hoff⟩
    | asleep =>
      obtain ⟨-, hclaims, -⟩ := (Lane.ok_asleep hm).mp hx
      exact (Lane.ok_asleep rfl).mpr ⟨hflight, hclaims, hsleep, hwake, hsp, hwp, hoff⟩
    | lineFault =>
      obtain ⟨-, hclaims, -⟩ := (Lane.ok_lineFault hm).mp hx
      exact (Lane.ok_lineFault rfl).mpr ⟨hflight, hclaims, hsleep, hwake, hsp, hwp, hoff⟩

/-! ### The owners of the requests -/

/-- A change that keeps the lanes as R66 says, where every claim has its table entry. -/
def State.KeepsLanes (s t : State) : Prop := s.LanesOk → s.ClaimsPlaced → t.LanesOk

theorem State.KeepsLanes.of_lanes {s t : State} (h : t.lanes = s.lanes := by simp) : s.KeepsLanes t :=
  fun hs _ => hs.of_lanes h

theorem State.KeepsLanes.refl (s : State) : s.KeepsLanes s := fun hs _ => hs

theorem State.take_keepsLanes {s : State} {rq : Request} {run : State → State}
    (h : ∀ u : State, u.KeepsLanes (run u)) : s.KeepsLanes (s.take rq run) := fun hs hp => by
  obtain ht | ⟨u, hu, ⟨k, -, hk⟩ | hr⟩ := s.take_cases rq run
  · rw [ht]; exact hs
  · obtain ⟨-, -, -, rest, rfl, -⟩ := State.accept_some hu
    rw [hk]
    exact hs.of_lanes
  · obtain ⟨-, -, -, rest, rfl, -⟩ := State.accept_some hu
    rw [hr]
    exact h _ hs hp

theorem State.serve_keepsLanes {s : State} {seq kind : Byte} {p : List Byte} {owner : State → State × Answer}
    (h : ∀ u : State, u.KeepsLanes (owner u).1) : s.KeepsLanes (s.serve seq kind p owner) :=
  State.take_keepsLanes fun u hs hp => State.LanesOk.of_lanes (h u hs hp)

/-- A request whose owner leaves every lane alone. -/
theorem State.serve_keepsLanes_of_lanes {s : State} {seq kind : Byte} {p : List Byte}
    {owner : State → State × Answer} (h : ∀ u : State, (owner u).1.lanes = u.lanes) :
    s.KeepsLanes (s.serve seq kind p owner) := State.serve_keepsLanes fun u => .of_lanes (h u)

theorem ownConfigureLane_keepsLanes (p : List Byte) (s : State) : s.KeepsLanes (ownConfigureLane p s).1 := by
  unfold ownConfigureLane State.tryConfigureLane
  split
  · split
    · split
      · exact .refl s
      · next huse =>
        split
        · exact .refl s
        · next hconflict => exact fun hs hp => hs.configureTo hp (Bool.eq_false_iff.mpr huse) hconflict
    · exact .refl s
  · exact .refl s

/-- SLEEP_LANE takes a READY lane to SLEEPING, and leaves a BUSY one sleep pending (R81). -/
theorem State.LanesOk.sleepLane {s : State} (hs : s.LanesOk) (l : LaneId) : (s.sleepLane l).1.LanesOk := by
  unfold State.sleepLane
  split
  · next hm =>
    obtain ⟨hflight, -, hwake, -, -, hrate⟩ := (Lane.ok_ready hm).mp (hs l)
    exact hs.enterSleeping (fun _ _ => rfl) hflight hwake hrate
  · next hm =>
    obtain ⟨hflight, hsleep, hwake, -, hrate⟩ := (Lane.ok_busy hm).mp (hs l)
    exact hs.onLane ((Lane.ok_busy (x := { s.lane l with sleepPending := true }) hm).mpr
      ⟨hflight, hsleep, hwake, fun _ => rfl, hrate⟩)
  all_goals exact hs

theorem ownSleepLane_keepsLanes (p : List Byte) (s : State) : s.KeepsLanes (ownSleepLane p s).1 := by
  unfold ownSleepLane
  split
  · split
    · exact fun hs _ => hs.sleepLane _
    · exact .refl s
  · exact .refl s

/-- WAKE_LANE takes an ASLEEP lane to WAKING, and leaves one that is falling asleep wake pending (R83). -/
theorem State.LanesOk.wakeLane {s : State} (hs : s.LanesOk) (l : LaneId) : (s.wakeLane l).1.LanesOk := by
  unfold State.wakeLane
  split
  · next hm =>
    obtain ⟨hflight, hclaims, -, -, hsp, hwp, hrate⟩ := (Lane.ok_asleep hm).mp (hs l)
    exact hs.onLane ((Lane.ok_waking rfl).mpr
      ⟨hflight, by simp [Lane.startWake, hclaims], rfl, rfl, hsp, hwp, hrate⟩)
  · next hm =>
    exact hs.onLane ((Lane.ok_sleeping (x := { s.lane l with wakePending := true }) hm).mpr
      ((Lane.ok_sleeping hm).mp (hs l)))
  · next hm =>
    split
    · next hp =>
      obtain ⟨hflight, hsleep, hwake, -, hrate⟩ := (Lane.ok_busy hm).mp (hs l)
      exact hs.onLane ((Lane.ok_busy (x := { s.lane l with wakePending := true }) hm).mpr
        ⟨hflight, hsleep, hwake, fun _ => hp, hrate⟩)
    · exact hs
  all_goals exact hs

theorem ownWakeLane_keepsLanes (p : List Byte) (s : State) : s.KeepsLanes (ownWakeLane p s).1 := by
  unfold ownWakeLane
  split
  · split
    · exact fun hs _ => hs.wakeLane _
    · exact .refl s
  · exact .refl s

theorem ownStop_keepsLanes {act : State → TimerId → State}
    (hact : ∀ (s : State) (i : TimerId), s.LanesOk → (act s i).LanesOk) (p : List Byte) (code : Nat) (s : State) :
    s.KeepsLanes (ownStop p code act s).1 := by
  unfold ownStop
  split
  · split
    · split
      · exact fun hs _ => hact s _ hs
      · exact .refl s
    · exact .refl s
  · exact .refl s

theorem ownTransact_keepsLanes (p : List Byte) (s : State) : s.KeepsLanes (ownTransact p s).1 := by
  unfold ownTransact
  split
  · split
    · split
      · exact .refl s
      · next h => exact fun hs _ => hs.accepts h
    · exact .refl s
  · exact .refl s

theorem ownCancel_keepsLanes (p : List Byte) (s : State) : s.KeepsLanes (ownCancel p s).1 := by
  unfold ownCancel
  split
  · split
    · split
      · exact .refl s
      · exact fun hs _ => hs.drops _ _
    · exact .refl s
  · exact .refl s

/-! ### Requests in which no lane takes part -/

theorem ownConfigureTimer_lanes (p : List Byte) (s : State) : (ownConfigureTimer p s).1.lanes = s.lanes := by
  unfold ownConfigureTimer State.configureTimer
  repeat' split
  all_goals rfl

theorem ownStart_lanes (p : List Byte) (s : State) : (ownStart p s).1.lanes = s.lanes := by
  unfold ownStart State.startTimer
  repeat' split
  all_goals rfl

theorem ownStageEntry_lanes (p : List Byte) (s : State) : (ownStageEntry p s).1.lanes = s.lanes := by
  unfold ownStageEntry State.stage
  dsimp only
  repeat' split
  all_goals rfl

theorem ownClearStaged_lanes (p : List Byte) (s : State) : (ownClearStaged p s).1.lanes = s.lanes := by
  unfold ownClearStaged
  repeat' split
  all_goals rfl

theorem ownCommit_lanes (p : List Byte) (s : State) : (ownCommit p s).1.lanes = s.lanes := by
  unfold ownCommit State.commitTable
  repeat' split
  case h_2.isFalse => simp
  all_goals rfl

theorem ownWithdraw_lanes (p : List Byte) (s : State) : (ownWithdraw p s).1.lanes = s.lanes := by
  unfold ownWithdraw
  repeat' split
  all_goals rfl

theorem ownWriteOutput_lanes (p : List Byte) (s : State) : (ownWriteOutput p s).1.lanes = s.lanes := by
  unfold ownWriteOutput
  repeat' split
  all_goals rfl

theorem ownWriteFallback_lanes (p : List Byte) (s : State) : (ownWriteFallback p s).1.lanes = s.lanes := by
  unfold ownWriteFallback
  repeat' split
  all_goals rfl

theorem ownPublish_lanes (p : List Byte) (s : State) : (ownPublish p s).1.lanes = s.lanes := by
  unfold ownPublish State.publishImage
  repeat' split
  all_goals rfl

theorem ownSetSupervision_lanes (p : List Byte) (s : State) : (ownSetSupervision p s).1.lanes = s.lanes := by
  unfold ownSetSupervision State.superviseFor
  repeat' split
  all_goals rfl

theorem ownResume_lanes (p : List Byte) (s : State) : (ownResume p s).1.lanes = s.lanes := by
  unfold ownResume
  repeat' split
  all_goals rfl

theorem ownHold_lanes (p : List Byte) (s : State) : (ownHold p s).1.lanes = s.lanes := by
  unfold ownHold
  repeat' split
  all_goals rfl

theorem ownRelease_lanes (p : List Byte) (s : State) : (ownRelease p s).1.lanes = s.lanes := by
  unfold ownRelease
  repeat' split
  all_goals rfl

theorem ownForgetNode_lanes (p : List Byte) (s : State) : (ownForgetNode p s).1.lanes = s.lanes := by
  unfold ownForgetNode
  repeat' split
  all_goals rfl

theorem ownFetch_lanes (p : List Byte) (s : State) : (ownFetch p s).1.lanes = s.lanes := by
  unfold ownFetch
  repeat' split
  all_goals rfl

theorem execReset_keepsLanes {seq : Byte} {p : List Byte} {s t : State} (h : execReset seq p s = .next t) :
    s.KeepsLanes t := by
  unfold execReset at h
  cases h
  refine State.take_keepsLanes fun u => ?_
  dsimp only
  split <;> exact .of_lanes

/-! ### The host link and the resets -/

@[simp] theorem State.nak_lanes (s : State) (seq : Byte) (code : NakCode) : (s.nak seq code).lanes = s.lanes := by
  unfold State.nak
  split <;> rfl

@[simp] theorem State.hostActivity_lanes (s : State) : s.hostActivity.lanes = s.lanes := by
  unfold State.hostActivity
  split <;> rfl

@[simp] theorem State.judgeFrame_lanes (s : State) (got : List Byte) (marked : Bool) :
    (s.judgeFrame got marked).lanes = s.lanes := by
  unfold State.judgeFrame
  dsimp only
  split
  · simp
  · split <;> simp

theorem State.receiveByte_lanes (s : State) (byte : Byte) (mark : Bool) :
    (s.receiveByte byte mark).lanes = s.lanes := by
  unfold State.receiveByte
  dsimp only
  repeat' split
  all_goals simp

theorem State.cleared_lanesOk (pins : Pins) (q : List Instr) (r : Option Resetting) :
    (State.cleared pins q r).LanesOk := fun l => by
  rw [State.cleared_lane]
  exact (Lane.ok_disabled rfl).mpr ⟨rfl, rfl, rfl, rfl, rfl, rfl, rfl⟩

theorem execReplySent_keepsLanes {s t : State} (h : execReplySent s = .next t) : s.KeepsLanes t := by
  unfold execReplySent at h
  cases h
  split
  · split
    · exact .refl s
    · split
      · exact fun _ _ => State.cleared_lanesOk _ _ _
      · exact .of_lanes
  · exact .refl s

theorem execRstPin_keepsLanes {asserted : Bool} {s t : State} (h : execRstPin asserted s = .next t) :
    s.KeepsLanes t := by
  unfold execRstPin at h
  cases h
  split
  · exact fun _ _ => State.cleared_lanesOk _ _ _
  · split
    · exact .of_lanes
    · exact .refl s

theorem execResetEnd_keepsLanes {s t : State} (h : execResetEnd s = .next t) : s.KeepsLanes t := by
  unfold execResetEnd at h
  cases h
  split
  · split
    · exact fun _ _ => State.cleared_lanesOk s.pins s.pending none
    · exact .refl s
  · exact .refl s

/-! ### Timers -/

theorem execFirstFrameStart_keepsLanes {i : TimerId} {s t : State} (h : execFirstFrameStart i s = .next t) :
    s.KeepsLanes t := by
  unfold execFirstFrameStart at h
  split at h
  · exact fun hs _ => hs.openFirst (bufferOrFault_next h)
  · cases h; exact .refl s

theorem execFrameClose_keepsLanes {i : TimerId} {s t : State} (h : execFrameClose i s = .next t) :
    s.KeepsLanes t := by
  unfold execFrameClose at h
  split at h
  · exact fun hs _ => hs.close (bufferOrFault_next h)
  · cases h; exact .refl s

theorem execTrigEdge_keepsLanes {i : TimerId} {s t : State} (h : execTrigEdge i s = .next t) : s.KeepsLanes t := by
  unfold execTrigEdge at h
  split at h
  · cases h; exact .refl s
  · have ht := bufferOrFault_next h
    unfold State.trigger at ht
    split at ht
    · exact fun hs _ => hs.openFirst ht
    · exact fun hs _ => hs.openFirst ht
    · cases ht; exact fun hs _ => hs.openNext i
    · cases ht; exact .of_lanes rfl
    · cases ht; exact .of_lanes rfl
    · cases ht; exact .refl s

/-! ### The happenings of a lane -/

theorem execGrant_keepsLanes {l : LaneId} {s t : State} (h : execGrant l s = .next t) : s.KeepsLanes t := by
  unfold execGrant at h
  cases h
  split
  · next hg => exact fun hs _ => hs.grants hg
  · exact .refl s

theorem execClaimExpiry_keepsLanes {l : LaneId} {i : TimerId} {position : Nat} {s t : State}
    (h : execClaimExpiry l i position s = .next t) : s.KeepsLanes t := by
  unfold execClaimExpiry at h
  cases h
  split
  · next k _ =>
    refine fun hs _ => State.LanesOk.of_lanes (s := s.onLane l fun x => { x with claims := x.claims.erase (.cyclic k) })
      (hs.onLane ((hs l).steady { claims := List.erase_subset }))
  · exact .refl s

theorem State.endTransaction_keepsLanes {s : State} {l : LaneId} {f : InFlight} (o : Outcome) (d : List Byte)
    (h : s.flight l = some f) : s.KeepsLanes (s.endTransaction l f o d) :=
  fun hs _ => hs.ends o d (State.flight_eq_some.mp h).2

theorem State.failEcho_keepsLanes (s : State) (l : LaneId) : s.KeepsLanes (s.failEcho l) := by
  unfold State.failEcho
  split
  · next h => exact State.endTransaction_keepsLanes _ _ (State.echoFails_flight h)
  · split
    · exact fun hs _ => hs.onLane ((hs l).steady { sleep := Option.isSome_map })
    · exact .refl s

theorem execResponseCharacterReceived_keepsLanes {l : LaneId} {byte : Byte} {mark : Bool} {s t : State}
    (h : execResponseCharacterReceived l byte mark s = .next t) : s.KeepsLanes t := by
  unfold execResponseCharacterReceived at h
  cases h
  split
  · next f c hc =>
    have hf := (State.flight_eq_some.mp (State.characterIn_flight hc)).2
    split
    · exact fun hs _ => hs.onLane ((hs l).steady { flight := by rw [hf]; rfl })
    · exact .refl s
  · exact .refl s

theorem execResponseComplete_keepsLanes {l : LaneId} {byte : Byte} {mark : Bool} {s t : State}
    (h : execResponseComplete l byte mark s = .next t) : s.KeepsLanes t := by
  unfold execResponseComplete at h
  cases h
  split
  · next hc =>
    split
    · exact State.endTransaction_keepsLanes _ _ (State.lastIn_flight hc)
    · exact .refl s
  · exact .refl s

theorem execSleepCommandStart_keepsLanes {l : LaneId} {s t : State} (h : execSleepCommandStart l s = .next t) :
    s.KeepsLanes t := by
  unfold execSleepCommandStart at h
  cases h
  split
  · next hd =>
    simp only [State.sleepStarts, Bool.and_eq_true, beq_iff_eq] at hd
    exact fun hs _ => hs.onLane ((hs l).steady { sleep := by rw [hd.1.2]; rfl })
  · exact .refl s

theorem execSleepCommandEnd_keepsLanes {l : LaneId} {s t : State} (h : execSleepCommandEnd l s = .next t) :
    s.KeepsLanes t := fun hs _ => by
  unfold execSleepCommandEnd at h
  cases h
  split
  · next hd =>
    simp only [State.sleepEnds, Bool.and_eq_true, beq_iff_eq] at hd
    obtain ⟨hflight, hclaims, -, hwake, hsp, hrate⟩ := (Lane.ok_sleeping hd.1.1.2).mp (hs l)
    split
    · exact hs.onLane ((Lane.ok_waking rfl).mpr
        ⟨hflight, by simp [Lane.startWake, hclaims], rfl, rfl, hsp, rfl, hrate⟩)
    · next hwp =>
      exact hs.onLane_notify ((Lane.ok_asleep rfl).mpr
        ⟨hflight, hclaims, rfl, hwake, hsp, Bool.eq_false_iff.mpr hwp, hrate⟩)
  · exact hs

theorem execWakePulseEnd_keepsLanes {l : LaneId} {s t : State} (h : execWakePulseEnd l s = .next t) :
    s.KeepsLanes t := by
  unfold execWakePulseEnd at h
  cases h
  split
  · next hd =>
    simp only [Bool.and_eq_true, beq_iff_eq] at hd
    exact fun hs _ => hs.onLane ((hs l).steady { wake := by rw [hd.2]; rfl })
  · exact .refl s

theorem execSettleEnd_keepsLanes {l : LaneId} {s t : State} (h : execSettleEnd l s = .next t) :
    s.KeepsLanes t := fun hs _ => by
  unfold execSettleEnd at h
  cases h
  split
  · next hd =>
    simp only [Bool.and_eq_true, beq_iff_eq] at hd
    obtain ⟨hflight, -, hsleep, -, hsp, hwp, hrate⟩ :=
      (Lane.ok_waking ((hs l).waking_of_wake hd.2)).mp (hs l)
    exact hs.onLane_notify ((Lane.ok_ready rfl).mpr ⟨hflight, hsleep, rfl, hsp, hwp, hrate⟩)
  · exact hs

theorem execNodeWake_keepsLanes {l : LaneId} {s t : State} (h : execNodeWake l s = .next t) :
    s.KeepsLanes t := fun hs _ => by
  unfold execNodeWake at h
  cases h
  split
  · next hd =>
    simp only [State.nodeWakes, Bool.and_eq_true, beq_iff_eq] at hd
    obtain ⟨hflight, hclaims, -, -, hsp, hwp, hrate⟩ := (Lane.ok_asleep hd.1.2).mp (hs l)
    exact hs.onLane_notify ((Lane.ok_waking rfl).mpr
      ⟨hflight, by simp [Lane.startWake, hclaims], rfl, rfl, hsp, hwp, hrate⟩)
  · exact hs

/-- A line fault is detected in READY and SLEEPING only (R85). -/
theorem Lane.mode_of_waitsForQuiet {x : Lane} (h : x.waitsForQuiet = true) : x.mode = .ready ∨ x.mode = .sleeping := by
  unfold Lane.waitsForQuiet at h
  split at h
  · next hm => exact .inl hm
  · next hm => exact .inr hm
  · cases h

/-- The lanes after a line fault: the lane is in LINE_FAULT without claims (R85). -/
theorem State.lineFault_lane (s : State) (l m : LaneId) :
    (State.resolveAll ((s.onLane l fun x =>
      { x with mode := .lineFault, sleep := none, wakePending := false }).notify (.laneFault l)) l .lineFault).lane m =
      if m = l then { s.lane l with mode := .lineFault, sleep := none, wakePending := false, claims := [] }
      else s.lane m := by
  rw [State.resolveAll_lane, State.notify_lane_eq, State.onLane_lane_if]
  split <;> rfl

theorem execLineFault_keepsLanes {l : LaneId} {s t : State} (h : execLineFault l s = .next t) :
    s.KeepsLanes t := fun hs _ => by
  unfold execLineFault at h
  cases h
  split
  · next hd =>
    simp only [State.lineFaults, Bool.and_eq_true] at hd
    have hx := hs l
    refine hs.of_lane (s.lineFault_lane l) ((Lane.ok_lineFault rfl).mpr ?_)
    obtain hm | hm := Lane.mode_of_waitsForQuiet hd.1.2
    · obtain ⟨hflight, -, hwake, hsp, -, hrate⟩ := (Lane.ok_ready hm).mp hx
      exact ⟨hflight, rfl, rfl, hwake, hsp, rfl, hrate⟩
    · obtain ⟨hflight, -, -, hwake, hsp, hrate⟩ := (Lane.ok_sleeping hm).mp hx
      exact ⟨hflight, rfl, rfl, hwake, hsp, rfl, hrate⟩
  · exact hs

theorem execLineFaultRecovery_keepsLanes {l : LaneId} {s t : State} (h : execLineFaultRecovery l s = .next t) :
    s.KeepsLanes t := fun hs _ => by
  unfold execLineFaultRecovery at h
  cases h
  split
  · next hd =>
    simp only [State.lineClears, Bool.and_eq_true, beq_iff_eq] at hd
    obtain ⟨hflight, -, hsleep, hwake, hsp, hwp, hrate⟩ := (Lane.ok_lineFault hd.1.2).mp (hs l)
    exact hs.onLane_notify ((Lane.ok_ready rfl).mpr ⟨hflight, hsleep, hwake, hsp, hwp, hrate⟩)
  · exact hs

theorem execAcyclicTimeout_keepsLanes {tag : Half} {s t : State} (h : execAcyclicTimeout tag s = .next t) :
    s.KeepsLanes t := by
  unfold execAcyclicTimeout State.timeOut at h
  cases h
  split
  · split
    · split
      · exact .of_lanes
      · exact fun hs _ => hs.drops _ _
    · exact .refl s
  · exact .refl s

/-! ### Every step -/

/-- Every command keeps the lanes. -/
theorem exec_keepsLanes {c : Instr} {s t : State} (h : exec c s = .next t) : s.KeepsLanes t := by
  cases c
  case query seq p => cases h; exact State.serve_keepsLanes fun u => by rw [(ownReads_same p u).1]; exact .refl u
  case reset => exact execReset_keepsLanes h
  case configureLane seq p => cases h; exact State.serve_keepsLanes (ownConfigureLane_keepsLanes p)
  case sleepLane seq p => cases h; exact State.serve_keepsLanes (ownSleepLane_keepsLanes p)
  case wakeLane seq p => cases h; exact State.serve_keepsLanes (ownWakeLane_keepsLanes p)
  case configureTimer seq p => cases h; exact State.serve_keepsLanes_of_lanes (ownConfigureTimer_lanes p)
  case start seq p => cases h; exact State.serve_keepsLanes_of_lanes (ownStart_lanes p)
  case stopEnd seq p =>
    cases h
    split
    · exact .refl s
    · exact State.serve_keepsLanes (ownStop_keepsLanes (fun _ i hs => hs.stopAtEnd i) p 0)
  case stopNow seq p =>
    cases h
    split
    · exact .refl s
    · exact State.serve_keepsLanes (ownStop_keepsLanes (fun _ i hs => hs.stopAtOnce i) p 1)
  case stageEntry seq p => cases h; exact State.serve_keepsLanes_of_lanes (ownStageEntry_lanes p)
  case clearStaged seq p => cases h; exact State.serve_keepsLanes_of_lanes (ownClearStaged_lanes p)
  case readEntry seq p =>
    cases h; exact State.serve_keepsLanes fun u => by rw [(ownReads_same p u).2.1]; exact .refl u
  case commit seq p => cases h; exact State.serve_keepsLanes_of_lanes (ownCommit_lanes p)
  case withdraw seq p => cases h; exact State.serve_keepsLanes_of_lanes (ownWithdraw_lanes p)
  case writeOutput seq p => cases h; exact State.serve_keepsLanes_of_lanes (ownWriteOutput_lanes p)
  case writeFallback seq p => cases h; exact State.serve_keepsLanes_of_lanes (ownWriteFallback_lanes p)
  case publish seq p => cases h; exact State.serve_keepsLanes_of_lanes (ownPublish_lanes p)
  case setSupervision seq p => cases h; exact State.serve_keepsLanes_of_lanes (ownSetSupervision_lanes p)
  case resume seq p => cases h; exact State.serve_keepsLanes_of_lanes (ownResume_lanes p)
  case hold seq p => cases h; exact State.serve_keepsLanes_of_lanes (ownHold_lanes p)
  case readImage seq p =>
    cases h; exact State.serve_keepsLanes fun u => by rw [(ownReads_same p u).2.2.1]; exact .refl u
  case readStatus seq p =>
    cases h; exact State.serve_keepsLanes fun u => by rw [(ownReads_same p u).2.2.2.1]; exact .refl u
  case release seq p => cases h; exact State.serve_keepsLanes_of_lanes (ownRelease_lanes p)
  case transact seq p => cases h; exact State.serve_keepsLanes (ownTransact_keepsLanes p)
  case cancel seq p => cases h; exact State.serve_keepsLanes (ownCancel_keepsLanes p)
  case readNode seq p =>
    cases h; exact State.serve_keepsLanes fun u => by rw [(ownReads_same p u).2.2.2.2]; exact .refl u
  case forgetNode seq p => cases h; exact State.serve_keepsLanes_of_lanes (ownForgetNode_lanes p)
  case fetch seq p => cases h; exact State.serve_keepsLanes_of_lanes (ownFetch_lanes p)
  case duplicateReplay seq kind p =>
    cases h
    split
    · exact State.take_keepsLanes .refl
    · exact .refl s
  case unknownKind seq kind p =>
    cases h
    split
    · exact .refl s
    · exact State.serve_keepsLanes .refl
  case frameReceived byte mark =>
    cases h
    split
    · exact .of_lanes (s.receiveByte_lanes byte mark)
    · exact .refl s
  case lengthNak byte mark =>
    cases h
    split
    · exact .of_lanes (s.receiveByte_lanes byte mark)
    · exact .refl s
  case partialFrameDiscard =>
    cases h
    split
    · exact .of_lanes
    · exact .refl s
  case skipEnd =>
    cases h
    split
    · exact .of_lanes
    · exact .refl s
  case replySent => exact execReplySent_keepsLanes h
  case powerOn good => cases h; exact fun _ _ => State.cleared_lanesOk _ _ _
  case rstPin => exact execRstPin_keepsLanes h
  case resetEnd => exact execResetEnd_keepsLanes h
  case firstFrameStart => exact execFirstFrameStart_keepsLanes h
  case frameClose => exact execFrameClose_keepsLanes h
  case postClaims i =>
    cases h
    split
    · exact fun hs _ => hs.postAll i
    · exact .refl s
  case syncEnd i =>
    cases h
    split
    · exact .of_lanes
    · exact .refl s
  case trigEdge => exact execTrigEdge_keepsLanes h
  case grant => exact execGrant_keepsLanes h
  case claimExpiry => exact execClaimExpiry_keepsLanes h
  case echoMismatch l echo =>
    cases h
    split
    · exact s.failEcho_keepsLanes l
    · exact .refl s
  case responseTimeout l =>
    cases h
    split
    · next hf => exact State.endTransaction_keepsLanes _ _ (State.responseOver_flight hf)
    · exact .refl s
  case characterLimitExpiry l =>
    cases h
    split
    · next hf => exact State.endTransaction_keepsLanes _ _ (State.characterLimitOver_flight hf)
    · exact .refl s
  case responseComplete => exact execResponseComplete_keepsLanes h
  case broadcastComplete l =>
    cases h
    split
    · next hf => exact State.endTransaction_keepsLanes _ _ (State.broadcastOver_flight hf)
    · exact .refl s
  case sleepCommandStart => exact execSleepCommandStart_keepsLanes h
  case sleepCommandEnd => exact execSleepCommandEnd_keepsLanes h
  case wakePulseEnd => exact execWakePulseEnd_keepsLanes h
  case settleEnd => exact execSettleEnd_keepsLanes h
  case nodeWake => exact execNodeWake_keepsLanes h
  case lineFault => exact execLineFault_keepsLanes h
  case lineFaultRecovery => exact execLineFaultRecovery_keepsLanes h
  case acyclicTimeout => exact execAcyclicTimeout_keepsLanes h
  case supervisionExpiry =>
    cases h
    split
    · exact .of_lanes rfl
    · exact .refl s
  case responseCharacterReceived => exact execResponseCharacterReceived_keepsLanes h
  case hostByteReceived byte mark => cases h; exact .of_lanes (s.receiveByte_lanes byte mark)

theorem State.LanesOk.halfTick {s : State} (hs : s.LanesOk) : s.halfTick.LanesOk :=
  hs.steady fun l => by rw [State.halfTick_lane]; exact Lane.halfTick_steady _ _

theorem State.LanesOk.pass {s : State} (hs : s.LanesOk) : s.pass.LanesOk := by
  obtain ⟨r, -, h | h⟩ | ⟨-, -, h⟩ | ⟨-, -, h⟩ := s.pass_cases
  · rw [h]; exact hs
  · rw [h]; exact hs
  · rw [h]; exact hs.halfTick
  · rw [h]; exact hs.halfTick

/-- Settles O55: every command keeps R66, and time leaves every lane in its state. -/
theorem lanesKept : Obligations.LanesKept := fun _ _ hs hp h => by
  obtain ⟨c, q, hc⟩ | rfl := step_cases h
  · exact exec_keepsLanes hc hs hp
  · exact hs.pass

end Sys2Proof.Machine
end

section
/-!
SUPPORT. Levels on a lane line (R45 to R47): what the ES4 drives, and what a receiver makes of the levels of consecutive
half ticks. A reception is followed half tick by half tick, its data bits being those sampled so far.
-/

set_option Elab.async false

namespace Sys2Proof.Machine

/-! ### Bit times -/

theorem Rate.bitHalves_cases {r : Rate} (h : r ≠ .off) :
    r.bitHalves = 16 ∨ r.bitHalves = 8 ∨ r.bitHalves = 4 ∨ r.bitHalves = 2 := by
  cases r with
  | off => exact absurd rfl h
  | k125 => exact .inl rfl
  | k250 => exact .inr (.inl rfl)
  | k500 => exact .inr (.inr (.inl rfl))
  | k1000 => exact .inr (.inr (.inr rfl))

theorem Rate.byteHalves_eq (r : Rate) : r.byteHalves = 10 * r.bitHalves := by
  cases r <;> rfl

/-- The bit times of a character: the start bit, the data bits, the stop bit (R45). -/
theorem characterLevel_start (b : Byte) : characterLevel b 0 = .dominant := rfl

theorem characterLevel_stop (b : Byte) : characterLevel b 9 = .recessive := rfl

theorem characterLevel_data (b : Byte) {i : Nat} (h : i < 8) :
    characterLevel b (i + 1) = .recessive ↔ b.getLsbD i = true := by
  simp [characterLevel, Nat.succ_le_of_lt h]

/-! ### The data bits sampled so far -/

/-- The data bits after k samples, the i-th of them of level `v i`, each shifted in from the top (R47). -/
def shiftedIn (v : Nat → Level) : Nat → Byte
  | 0 => 0
  | k + 1 => shiftedIn v k >>> 1 ||| (if v k = .recessive then 0x80 else 0)

theorem topBit_getLsbD : ∀ i < 8, (0x80 : Byte).getLsbD i = decide (i = 7) := by decide

/-- After k samples the top k bits are those of the samples. -/
theorem shiftedIn_getLsbD (v : Nat → Level) {k i : Nat} (hk : k ≤ 8) (hi : i < k) :
    (shiftedIn v k).getLsbD (8 - k + i) = decide (v i = .recessive) := by
  induction k with
  | zero => omega
  | succ k ih =>
    have hshift : (shiftedIn v k >>> 1).getLsbD (8 - (k + 1) + i) = (shiftedIn v k).getLsbD (8 - k + i) := by
      rw [BitVec.getLsbD_ushiftRight]
      congr 1
      omega
    have htop : (if v k = .recessive then (0x80 : Byte) else 0).getLsbD (8 - (k + 1) + i) =
        decide (i = k ∧ v k = .recessive) := by
      have hbit : 8 - (k + 1) + i = 7 ↔ i = k := by omega
      split
      · next hv => rw [topBit_getLsbD _ (by omega)]; simp only [hbit, hv, and_true]
      · next hv => simp [hv]
    rw [shiftedIn, BitVec.getLsbD_or, hshift, htop]
    obtain hlt | rfl := Nat.lt_succ_iff_lt_or_eq.mp hi
    · rw [ih (by omega) hlt]
      simp [Nat.ne_of_lt hlt]
    · rw [BitVec.getLsbD_of_ge _ _ (by omega)]
      simp

/-! ### A reception, half tick by half tick -/

theorem Receiver.run_succ (x : Receiver) (bit n : Nat) (v : Nat → Level) :
    x.run bit ((List.range (n + 1)).map v) = (x.run bit ((List.range n).map v)).hear bit (v n) := by
  simp [Receiver.run, List.range_succ]

/-- Any levels are those of some function of the half tick. -/
theorem levels_eq_map (levels : List Level) :
    levels = (List.range levels.length).map fun i => levels.getD i .recessive := by
  refine List.ext_getElem (by simp) fun i h _ => ?_
  simp [h]

/-- How many data bits have been sampled before the half tick n of a reception. -/
def samplesBefore (bit n : Nat) : Nat := min 8 ((n + bit / 2 - 1) / bit - 1)

/-- The reception as the receiver sees it in half tick n since its start edge. -/
def receptionAt (bit : Nat) (v : Nat → Level) (n : Nat) : Reception :=
  { since := n
    data := shiftedIn (fun i => v (bit * (i + 1) + bit / 2)) (samplesBefore bit (n + 1))
    mark := decide (bit * 9 + bit / 2 ≤ n ∧ v (bit * 9 + bit / 2) = .dominant) }

theorem receptionAt_zero {r : Rate} (hr : r ≠ .off) (v : Nat → Level) :
    receptionAt r.bitHalves v 0 = { since := 0, data := 0, mark := false } := by
  unfold receptionAt samplesBefore
  rcases Rate.bitHalves_cases hr with hb | hb | hb | hb <;> rw [hb] <;> simp [shiftedIn]

/-- A half tick takes the sample of a data bit, that of the stop bit, or none. -/
theorem sample_cases {r : Rate} (hr : r ≠ .off) (n : Nat) (hn : n < 10 * r.bitHalves) :
    let bit := r.bitHalves
    let k := samplesBefore bit n
    (n % bit = bit / 2 ∧ bit ≤ n ∧ n < 9 * bit ∧ n = bit * (k + 1) + bit / 2 ∧ samplesBefore bit (n + 1) = k + 1) ∨
    (n % bit = bit / 2 ∧ bit ≤ n ∧ 9 * bit ≤ n ∧ n = bit * 9 + bit / 2 ∧ samplesBefore bit (n + 1) = k) ∨
    (¬ (n % bit = bit / 2 ∧ bit ≤ n) ∧ n ≠ bit * 9 + bit / 2 ∧ samplesBefore bit (n + 1) = k) := by
  intro bit k
  have hbit : bit = 16 ∨ bit = 8 ∨ bit = 4 ∨ bit = 2 := Rate.bitHalves_cases hr
  change n < 10 * bit at hn
  simp only [k, samplesBefore]
  clear_value bit
  rcases hbit with rfl | rfl | rfl | rfl <;> omega

theorem receptionAt_sample {r : Rate} (hr : r ≠ .off) (v : Nat → Level) {n : Nat} (hn : n + 1 < 10 * r.bitHalves) :
    Reception.sample { receptionAt r.bitHalves v n with since := n + 1 } r.bitHalves (v (n + 1)) =
      receptionAt r.bitHalves v (n + 1) := by
  unfold Reception.sample receptionAt
  dsimp only
  obtain ⟨hmod, hle, hdata, hat, hnext⟩ | ⟨hmod, hle, hstop, hat, hnext⟩ | ⟨hno, hne, hnext⟩ := sample_cases hr _ hn
  · rw [if_pos ⟨hmod, hle⟩, if_pos hdata, hnext, shiftedIn, ← hat]
    have hlate : ∀ m, m ≤ n + 1 → ¬ r.bitHalves * 9 + r.bitHalves / 2 ≤ m := by omega
    simp only [hlate n (Nat.le_succ n), hlate (n + 1) le_rfl]
  · rw [if_pos ⟨hmod, hle⟩, if_neg (Nat.not_lt.mpr hstop), hnext, ← hat]
    simp
  · have hsame : r.bitHalves * 9 + r.bitHalves / 2 ≤ n + 1 ↔ r.bitHalves * 9 + r.bitHalves / 2 ≤ n := by omega
    rw [if_neg hno, hnext]
    simp only [hsame]

/-- A start edge that stands at its half-bit sample is followed by the reception of its character (R47). -/
theorem Receiver.see_run {x : Receiver} {r : Rate} {v : Nat → Level} {n : Nat} (hr : r ≠ .off)
    (hlast : x.last = .recessive) (hnone : x.reception = none) (hedge : v 0 = .dominant) (hn : n < 10 * r.bitHalves)
    (hsample : r.bitHalves / 2 ≤ n → v (r.bitHalves / 2) = .dominant) :
    (x.run r.bitHalves ((List.range n).map v)).see r.bitHalves (v n) = some (receptionAt r.bitHalves v n) := by
  induction n with
  | zero =>
    rw [receptionAt_zero hr]
    simp [Receiver.run, Receiver.see, hnone, hlast, hedge]
  | succ n ih =>
    have hsee := ih (by omega) fun h => hsample (by omega)
    rw [Receiver.run_succ, (Receiver.hear_some hsee).1 hn, ← receptionAt_sample hr v hn]
    refine if_neg fun ⟨hs, hv⟩ => ?_
    have hs : n + 1 = r.bitHalves / 2 := hs
    rw [hs, hsample (Nat.le_of_eq hs.symm)] at hv
    cases hv

theorem Rate.bitHalves_even {r : Rate} (h : r ≠ .off) : 1 ≤ r.bitHalves / 2 ∧ r.bitHalves = 2 * (r.bitHalves / 2) := by
  rcases Rate.bitHalves_cases h with hb | hb | hb | hb <;> rw [hb] <;> decide

/-- A character, from its start edge to the end of its tenth bit time (R47). -/
theorem Receiver.run_character {x : Receiver} {r : Rate} {v : Nat → Level} (hr : r ≠ .off)
    (hlast : x.last = .recessive) (hnone : x.reception = none) (hedge : v 0 = .dominant)
    (hsample : v (r.bitHalves / 2) = .dominant) :
    x.run r.bitHalves ((List.range (10 * r.bitHalves)).map v) =
      { last := v (10 * r.bitHalves - 1), reception := none
        done := some (shiftedIn (fun i => v (r.bitHalves * (i + 1) + r.bitHalves / 2)) 8,
          decide (v (r.bitHalves * 9 + r.bitHalves / 2) = .dominant)) } := by
  obtain ⟨hpos, heven⟩ := Rate.bitHalves_even hr
  obtain ⟨n, hn⟩ : ∃ n, 10 * r.bitHalves = n + 1 := ⟨10 * r.bitHalves - 1, by omega⟩
  have hsee := Receiver.see_run hr hlast hnone hedge (by omega : n < 10 * r.bitHalves) fun _ => hsample
  have hall : samplesBefore r.bitHalves (n + 1) = 8 := by
    rw [← hn, samplesBefore]
    rcases Rate.bitHalves_cases hr with hb | hb | hb | hb <;> rw [hb] <;> rfl
  have hstop : r.bitHalves * 9 + r.bitHalves / 2 ≤ n := by omega
  rw [hn, Receiver.run_succ, (Receiver.hear_some hsee).2 (Nat.le_of_eq hn)]
  simp [receptionAt, hall, hstop]

/-- A change to dominant that is not there any more half a bit time later is a glitch (R47). -/
theorem Receiver.run_glitch {x : Receiver} {r : Rate} {v : Nat → Level} (hr : r ≠ .off)
    (hlast : x.last = .recessive) (hnone : x.reception = none) (hedge : v 0 = .dominant)
    (hsample : v (r.bitHalves / 2) = .recessive) :
    x.run r.bitHalves ((List.range (r.bitHalves / 2 + 1)).map v) =
      { last := .recessive, reception := none, done := none } := by
  obtain ⟨hpos, heven⟩ := Rate.bitHalves_even hr
  obtain ⟨n, hn⟩ : ∃ n, r.bitHalves / 2 = n + 1 := ⟨r.bitHalves / 2 - 1, by omega⟩
  have hsee := Receiver.see_run hr hlast hnone hedge (by omega : n < 10 * r.bitHalves) fun h => by omega
  rw [Receiver.run_succ, Receiver.hear_none, hsample]
  rw [hn, Receiver.run_succ, (Receiver.hear_some hsee).1 (show n + 1 < 10 * r.bitHalves by omega), ← hn, hsample]
  exact if_pos ⟨hn.symm, rfl⟩

theorem getD_eq_iff {levels : List Level} {i : Nat} {v : Level} (h : i < levels.length) :
    levels.getD i .recessive = v ↔ levels[i]? = some v := by
  simp [h]

theorem Receiver.run_level_glitch {x : Receiver} {r : Rate} {levels : List Level} (hr : r ≠ .off)
    (hlast : x.last = .recessive) (hnone : x.reception = none) (hlen : levels.length = r.bitHalves / 2 + 1)
    (hedge : levels[0]? = some .dominant) (hsample : levels[r.bitHalves / 2]? = some .recessive) :
    x.run r.bitHalves levels = { last := .recessive, reception := none, done := none } := by
  have hrun := Receiver.run_glitch (v := fun i => levels.getD i .recessive) hr hlast hnone
    ((getD_eq_iff (by omega)).mpr hedge) ((getD_eq_iff (by omega)).mpr hsample)
  rwa [← hlen, ← levels_eq_map] at hrun

/-- A pulse no longer than half a bit time is a glitch (R47). -/
theorem Receiver.run_pulse {x : Receiver} {r : Rate} {pulse : Nat} (hr : r ≠ .off) (hlast : x.last = .recessive)
    (hnone : x.reception = none) (hpos : 1 ≤ pulse) (hle : pulse ≤ r.bitHalves / 2) :
    x.run r.bitHalves
        (List.replicate pulse .dominant ++ List.replicate (r.bitHalves / 2 + 1 - pulse) .recessive) =
      { last := .recessive, reception := none, done := none } := by
  refine Receiver.run_level_glitch hr hlast hnone ?_ ?_ ?_
  · rw [List.length_append, List.length_replicate, List.length_replicate]
    omega
  · rw [List.getElem?_append_left (by rw [List.length_replicate]; exact hpos), List.getElem?_replicate_of_lt hpos]
  · rw [List.getElem?_append_right (by simpa using hle), List.length_replicate,
      List.getElem?_replicate_of_lt (by omega)]

/-- A level at which the receiver stays as it is may last. -/
theorem Receiver.run_replicate {x y : Receiver} {bit : Nat} {v : Level} (hx : x.hear bit v = y) (hy : y.hear bit v = y)
    (n : Nat) : x.run bit (List.replicate (n + 1) v) = y := by
  induction n generalizing x with
  | zero => exact hx
  | succ n ih =>
    rw [List.replicate_succ]
    change (x.hear bit v).run bit _ = y
    rw [hx]
    exact ih hy

/-- A recessive line begins nothing, and neither does one that was dominant before (R47). -/
theorem Receiver.see_eq_none {x : Receiver} {bit : Nat} {v : Level} (hnone : x.reception = none)
    (h : x.last = .dominant ∨ v = .recessive) : x.see bit v = none := by
  unfold Receiver.see
  rw [hnone]
  obtain h | h := h <;> simp [h]

/-- The character that ten bit times of levels spell (R47). -/
theorem Receiver.run_spells {x : Receiver} {r : Rate} {levels : List Level} (hr : r ≠ .off)
    (hlast : x.last = .recessive) (hnone : x.reception = none) (hlen : levels.length = 10 * r.bitHalves)
    (hedge : levels[0]? = some .dominant) (hsample : levels[r.bitHalves / 2]? = some .dominant) :
    ∃ b m, x.run r.bitHalves levels =
        { last := levels.getLastD .recessive, reception := none, done := some (b, m) } ∧
      (∀ i, i < 8 → (b.getLsbD i ↔ levels[r.bitHalves * (i + 1) + r.bitHalves / 2]? = some .recessive)) ∧
      (m = true ↔ levels[r.bitHalves * 9 + r.bitHalves / 2]? = some .dominant) := by
  obtain ⟨hpos, heven⟩ := Rate.bitHalves_even hr
  have hrun := Receiver.run_character (v := fun i => levels.getD i .recessive) hr hlast hnone
    ((getD_eq_iff (by omega)).mpr hedge) ((getD_eq_iff (by omega)).mpr hsample)
  rw [← hlen, ← levels_eq_map, List.getD_eq_getElem?_getD, ← List.getLast?_eq_getElem?,
    ← List.getLastD_eq_getLast?] at hrun
  refine ⟨_, _, hrun, fun i hi => ?_, ?_⟩
  · have hlt : r.bitHalves * (i + 1) + r.bitHalves / 2 < levels.length := by
      have := Nat.mul_le_mul_left r.bitHalves (Nat.succ_le_of_lt hi)
      rw [Nat.succ_eq_add_one] at this
      omega
    have hbit := shiftedIn_getLsbD (fun i => levels.getD (r.bitHalves * (i + 1) + r.bitHalves / 2) .recessive)
      le_rfl hi
    rw [Nat.sub_self, Nat.zero_add] at hbit
    rw [hbit, decide_eq_true_iff, getD_eq_iff hlt]
  · rw [decide_eq_true_iff, getD_eq_iff (by omega)]

/-- A character sent is received as it was sent (R45, R47). -/
theorem Receiver.run_sent {x : Receiver} {r : Rate} (hr : r ≠ .off) (hlast : x.last = .recessive)
    (hnone : x.reception = none) (b : Byte) :
    x.run r.bitHalves ((List.range (10 * r.bitHalves)).map fun i => characterLevel b (i / r.bitHalves)) =
      { last := .recessive, reception := none, done := some (b, false) } := by
  obtain ⟨hpos, heven⟩ := Rate.bitHalves_even hr
  have hhalf : r.bitHalves / 2 / r.bitHalves = 0 := Nat.div_eq_of_lt (by omega)
  have hmiddle : ∀ j, (r.bitHalves * j + r.bitHalves / 2) / r.bitHalves = j := fun j => by
    rw [Nat.mul_add_div (by omega), hhalf, Nat.add_zero]
  have hend : (10 * r.bitHalves - 1) / r.bitHalves = 9 :=
    Nat.div_eq_of_lt_le (by omega) (by omega)
  have hdata : shiftedIn (fun i => characterLevel b (i + 1)) 8 = b := BitVec.eq_of_getLsbD_eq fun i hi => by
    have hbit := shiftedIn_getLsbD (fun i => characterLevel b (i + 1)) le_rfl hi
    rw [Nat.sub_self, Nat.zero_add] at hbit
    rw [hbit, Bool.eq_iff_iff, decide_eq_true_iff, characterLevel_data b hi]
  rw [Receiver.run_character hr hlast hnone (by simp [characterLevel_start]) (by simp [hhalf, characterLevel_start])]
  simp only [hmiddle, hend, hdata, characterLevel_stop]
  rfl

/-! ### What the ES4 drives (R45) -/

@[simp] theorem commandFrame_length (header : Byte) (m : Nat) (request : List Byte) :
    (commandFrame header m request).length = 4 + request.length := by
  simp [commandFrame]
  omega

/-- A half tick of a frame falls into one bit time of one of its characters (R45). -/
theorem frameLevel_character {frame : List Byte} {r : Rate} {i j : Nat} {b : Byte} (hb : frame[i]? = some b)
    (hj : j < r.byteHalves) : frameLevel frame r (i * r.byteHalves + j) = characterLevel b (j / r.bitHalves) := by
  have hpos : 0 < r.byteHalves := Nat.zero_lt_of_lt hj
  have hdiv : (i * r.byteHalves + j) / r.byteHalves = i := by
    rw [Nat.add_comm, Nat.add_mul_div_right _ _ hpos, Nat.div_eq_of_lt hj, Nat.zero_add]
  have hmod : (i * r.byteHalves + j) % r.byteHalves = j := by
    rw [Nat.add_comm, Nat.add_mul_mod_self_right, Nat.mod_eq_of_lt hj]
  simp only [frameLevel, hdiv, hb, hmod]

section
variable {x : Lane}

theorem Lane.sending_of_busy {f : InFlight} (hm : x.mode = .busy) (hf : x.inFlight = some f) :
    x.sending = if f.elapsed < f.commandHalves x.config.rate then some (f.frame, f.elapsed) else none := by
  simp only [Lane.sending, hm, hf]

theorem Lane.sending_of_sleeping {elapsed : Nat} {cut : Bool} (hm : x.mode = .sleeping)
    (hs : x.sleep = some (.command elapsed cut)) :
    x.sending =
      if cut = true ∨ sleepHalves x.config.rate ≤ elapsed then none else some (sleepFrame, elapsed) := by
  simp [Lane.sending, hm, hs, SleepProgress.sent]

/-- A lane sends a command or the SLEEP command only (R45). -/
theorem Lane.sending_cases {frame : List Byte} {elapsed : Nat} (h : x.sending = some (frame, elapsed)) :
    (x.mode = .busy ∧ ∃ f, x.inFlight = some f ∧ f.elapsed < f.commandHalves x.config.rate) ∨
      (x.mode = .sleeping ∧ ∃ e cut, x.sleep = some (.command e cut) ∧
        ¬ (cut = true ∨ sleepHalves x.config.rate ≤ e)) := by
  unfold Lane.sending at h
  split at h
  · next _ f hm hf =>
    split at h
    · next he => exact .inl ⟨hm, f, hf, he⟩
    · cases h
  · next e cut hm hs =>
    split at h
    · cases h
    · next hsent => exact .inr ⟨hm, e, cut, hs, by simpa [SleepProgress.sent] using hsent⟩
  · cases h

theorem Lane.drive_of_sending {frame : List Byte} {elapsed : Nat} (h : x.sending = some (frame, elapsed)) :
    x.drive = frameLevel frame x.config.rate elapsed := by
  simp only [Lane.drive, h]

/-- A lane that sends nothing drives a wake pulse at most (R45). -/
theorem Lane.drive_of_silent (h : x.sending = none) :
    x.drive = .recessive ∨ (x.drive = .dominant ∧ x.mode = .waking ∧ ∃ left, x.wake = some (.pulse left)) := by
  simp only [Lane.drive, h]
  split
  · next left hm hw => exact .inr ⟨rfl, hm, left, hw⟩
  · exact .inl rfl

theorem Lane.level_eq_dominant {input : Level} :
    x.level input = .dominant ↔ x.drive = .dominant ∨ input = .dominant := by
  unfold Lane.level
  split <;> simp_all

/-- A character of a command on the line (R45). -/
theorem Lane.drive_of_command {f : InFlight} {i j : Nat} {b : Byte} (hm : x.mode = .busy) (hf : x.inFlight = some f)
    (hb : f.frame[i]? = some b) (hj : j < x.config.rate.byteHalves)
    (he : f.elapsed = i * x.config.rate.byteHalves + j) : x.drive = characterLevel b (j / x.config.rate.bitHalves) := by
  have hi : i < 4 + f.request.length := by
    simpa [InFlight.frame] using (List.getElem?_eq_some_iff.mp hb).1
  have hlt : f.elapsed < f.commandHalves x.config.rate := by
    have := Nat.mul_le_mul_right x.config.rate.byteHalves hi
    rw [Nat.succ_eq_add_one, Nat.succ_mul] at this
    unfold InFlight.commandHalves
    omega
  have hsend := (Lane.sending_of_busy hm hf).trans (if_pos hlt)
  rw [Lane.drive_of_sending hsend, he, frameLevel_character hb hj]

/-- A character of the SLEEP command on the line (R58). -/
theorem Lane.drive_of_sleepCommand {i j : Nat} {b : Byte} (hm : x.mode = .sleeping)
    (hs : x.sleep = some (.command (i * x.config.rate.byteHalves + j) false)) (hb : sleepFrame[i]? = some b)
    (hj : j < x.config.rate.byteHalves) : x.drive = characterLevel b (j / x.config.rate.bitHalves) := by
  have hi : i < 4 := (List.getElem?_eq_some_iff.mp hb).1
  have hlt : ¬ (false = true ∨ sleepHalves x.config.rate ≤ i * x.config.rate.byteHalves + j) := by
    have := Nat.mul_le_mul_right x.config.rate.byteHalves hi
    rw [Nat.succ_eq_add_one, Nat.succ_mul] at this
    unfold sleepHalves
    simp only [Bool.false_eq_true, false_or]
    omega
  have hsend := (Lane.sending_of_sleeping hm hs).trans (if_neg hlt)
  rw [Lane.drive_of_sending hsend, frameLevel_character hb hj]

/-- Beyond its commands and wake pulses the ES4 leaves the line recessive (R45). -/
theorem Lane.drive_eq_recessive
    (hbusy : ∀ f, x.mode = .busy → x.inFlight = some f → f.commandHalves x.config.rate ≤ f.elapsed)
    (hsleeping : ∀ elapsed cut, x.mode = .sleeping → x.sleep = some (.command elapsed cut) →
      cut = true ∨ sleepHalves x.config.rate ≤ elapsed)
    (hwaking : ∀ left, x.mode = .waking → x.wake ≠ some (.pulse left)) : x.drive = .recessive := by
  have hsilent : x.sending = none := Option.eq_none_iff_forall_not_mem.mpr fun a ha => by
    obtain ⟨hm, f, hf, he⟩ | ⟨hm, e, cut, hs, he⟩ := Lane.sending_cases ha
    · exact absurd (hbusy f hm hf) (Nat.not_le.mpr he)
    · exact he (hsleeping e cut hm hs)
  obtain h | ⟨-, hm, left, hw⟩ := Lane.drive_of_silent hsilent
  · exact h
  · exact absurd hw (hwaking left hm)

end

/-! ### The free line -/

/-- What the receiver sees next, by the reception in progress (R47). -/
theorem Receiver.see_of_reception {x : Receiver} {c : Reception} (h : x.reception = some c) (bit : Nat) (v : Level) :
    x.see bit v = if c.since = bit / 2 ∧ v = .recessive then none else some (c.sample bit v) := by
  simp only [Receiver.see, h]

theorem Receiver.see_of_idle {x : Receiver} (h : x.reception = none) (bit : Nat) (v : Level) :
    x.see bit v =
      if x.last = .recessive ∧ v = .dominant then some { since := 0, data := 0, mark := false } else none := by
  simp only [Receiver.see, h]

theorem Receiver.see_eq_none_iff {x : Receiver} {bit : Nat} {v : Level} :
    x.see bit v = none ↔
      (x.reception = none ∧ ¬ (x.last = .recessive ∧ v = .dominant)) ∨
        ∃ c, x.reception = some c ∧ c.since = bit / 2 ∧ v = .recessive := by
  cases h : x.reception with
  | none => rw [Receiver.see_of_idle h]; split <;> simp_all
  | some c => rw [Receiver.see_of_reception h]; split <;> simp_all

@[simp] theorem Reception.sample_since (c : Reception) (bit : Nat) (v : Level) : (c.sample bit v).since = c.since := by
  unfold Reception.sample
  split
  · split <;> rfl
  · rfl

/-- A character is on the line once its start edge has passed its sample (R47). -/
theorem Receiver.inCharacter_iff {x : Receiver} {bit : Nat} {v : Level} (hbit : 1 ≤ bit / 2) :
    x.inCharacter bit v = true ↔
      ∃ c, x.reception = some c ∧ bit / 2 ≤ c.since ∧ ¬ (c.since = bit / 2 ∧ v = .recessive) := by
  unfold Receiver.inCharacter
  cases h : x.reception with
  | none =>
    rw [Receiver.see_of_idle h]
    split
    · next hc =>
      split at hc
      · cases hc
        simp only [Reception.confirmed, decide_eq_true_iff]
        exact ⟨fun h => absurd h (by omega), fun ⟨_, h, _⟩ => by cases h⟩
      · cases hc
    · simp
  | some c =>
    rw [Receiver.see_of_reception h]
    split
    · next d hd =>
      split at hd
      · cases hd
      · next hn =>
        cases hd
        rw [Reception.confirmed, Reception.sample_since, decide_eq_true_iff]
        exact ⟨fun hs => ⟨c, rfl, hs, hn⟩, fun ⟨d, hd, hs, _⟩ => by cases hd; exact hs⟩
    · next hd =>
      split at hd
      · next hn => simp [hn]
      · cases hd

/-- The SLEEP command, its check byte computed byte by byte (R50, R58). -/
theorem sleepFrame_eq : sleepFrame = [0x30, 0x00, 0x00, 0xE1] := by
  have hheader : eightTimes crc8Step 48#8 = 144#8 := by decide
  have hrequest : eightTimes crc8Step 144#8 = 249#8 := by decide
  have hresponse : eightTimes crc8Step 249#8 = 225#8 := by decide
  simp [sleepFrame, commandFrame, crc8, hheader, hrequest, hresponse]

/-- Settles O51: the times of the rates, the levels of a character, what a receiver makes of the levels of a line, what
the ES4 drives, and when the line is free. -/
theorem lineCarriesCharacters : Obligations.LineCarriesCharacters := by
  refine ⟨⟨rfl, fun r => ?_⟩, fun b => ⟨characterLevel_start b, characterLevel_stop b, fun i => characterLevel_data b⟩,
    fun x r hr => ⟨fun levels => Receiver.run_spells hr, fun b hlast hnone => Receiver.run_sent hr hlast hnone b,
      fun pulse => Receiver.run_pulse hr, fun levels => Receiver.run_level_glitch hr, fun n hlast hnone => ?_,
      fun n hnone => ?_⟩,
    fun x input => ?_, fun s l hr => ?_⟩
  · cases r <;> decide
  · exact Receiver.run_replicate (Receiver.hear_none (Receiver.see_eq_none hnone (.inl hlast)))
      (Receiver.hear_none (Receiver.see_eq_none rfl (.inl rfl))) n
  · exact Receiver.run_replicate (Receiver.hear_none (Receiver.see_eq_none hnone (.inr rfl)))
      (Receiver.hear_none (Receiver.see_eq_none rfl (.inr rfl))) n
  · intro bit bt
    have hbt : x.config.rate.byteHalves = bt := x.config.rate.byteHalves_eq
    refine ⟨Lane.level_eq_dominant, fun f i j b hm hf hb hj he => ?_, fun i j b hm hs hb hj => ?_,
      fun left hm hw => ?_, fun hbusy hsleeping hwaking => ?_⟩
    · rw [← hbt] at hj he
      exact Lane.drive_of_command hm hf hb hj he
    · rw [← hbt] at hs hj
      rw [← sleepFrame_eq] at hb
      exact Lane.drive_of_sleepCommand hm hs hb hj
    · simp [Lane.drive, Lane.sending, hm, hw]
    · rw [← hbt] at hbusy hsleeping
      exact Lane.drive_eq_recessive hbusy hsleeping hwaking
  · intro x input bit
    have hhalf : 1 ≤ bit / 2 := (Rate.bitHalves_even hr).1
    constructor
    · rw [State.lineFree, Option.isNone_iff_eq_none]
      exact Receiver.see_eq_none_iff
    · rw [Lane.inCharacter, Bool.or_eq_true, Option.isSome_iff_ne_none]
      exact or_congr_right (Receiver.inCharacter_iff hhalf)

end Sys2Proof.Machine
end

section
/-!
SUPPORT. The judgement of a response (R49, R50, R54, R171), and which wire condition ends a transaction (R51 to R56).
-/

set_option Elab.async false

namespace Sys2Proof.Machine

/-! ### The CRC-8 (R50) -/

theorem crc8_append (init : Byte) (a b : List Byte) : crc8 init (a ++ b) = crc8 (crc8 init a) b :=
  List.foldl_append

/-- The CRC-8 over bytes and their own check byte is 0. -/
theorem crc8_check (init : Byte) (body : List Byte) : crc8 init (body ++ [crc8 init body]) = 0 := by
  rw [crc8_append]
  change eightTimes crc8Step (crc8 init body ^^^ crc8 init body) = 0
  rw [BitVec.xor_self]
  decide

theorem getLastD_concat (a : List Byte) (c d : Byte) : (a ++ [c]).getLastD d = c := by simp

/-- The check byte of a command frame is the CRC-8 of what stands before it (R50). -/
theorem InFlight.commandCheck_eq (f : InFlight) :
    f.commandCheck = crc8 0
      (headerByte f.node f.op.code :: BitVec.ofNat 8 f.request.length :: BitVec.ofNat 8 f.m :: f.request) :=
  getLastD_concat ..

/-! ### The judgement (R54) -/

/-- Address and fault flag of a status byte (R171). -/
theorem faultFlag_iff (status : Byte) : status.toNat / 16 % 2 = 1 ↔ status.getLsbD 4 = true := by
  rw [← BitVec.testBit_toNat, Nat.testBit_eq_decide_div_mod_eq, decide_eq_true_iff]

/-- A response of status, data and check, judged by its marks, its check, its address and its fault flag (R54). -/
theorem judgeResponse_eq {node : Nat} {commandCheck status check : Byte} {data : List Byte}
    {marks : List (Byte × Bool)} {last : Bool} (h : marks.map Prod.fst = status :: data) :
    judgeResponse node commandCheck (marks ++ [(check, last)]) =
      if last = true ∨ ∃ c ∈ marks, c.2 = true then (.check, [])
      else if ¬ (crc8 commandCheck (status :: data) = check ∧ status.toNat % 16 = node) then (.check, [])
      else if status.getLsbD 4 = true then (.nodeFault, data)
      else (.ok, data) := by
  have hbytes : (marks ++ [(check, last)]).map Prod.fst = (status :: data) ++ [check] := by
    rw [List.map_append, h]
    rfl
  have hmarks : (marks ++ [(check, last)]).any Prod.snd = true ↔ last = true ∨ ∃ c ∈ marks, c.2 = true := by
    simp [or_comm]
  have hhead : ((status :: data) ++ [check]).headD 0 = status := rfl
  unfold judgeResponse
  simp only [hbytes, hmarks, hhead, List.dropLast_concat, getLastD_concat, faultFlag_iff, bne_iff_ne]
  by_cases hc : crc8 commandCheck (status :: data) = check
  · simp [hc]
  · simp [hc]

/-- Settles O52: the frame and its check, and the response by the four parts of its judgement. -/
theorem responseJudged : Obligations.ResponseJudged := by
  intro f status check data marks last hmap hreceived head marked good
  have hjudge : f.judge check last =
      if marked then (.check, []) else if ¬ good then (.check, [])
      else if status.getLsbD 4 = true then (.nodeFault, data) else (.ok, data) := by
    rw [InFlight.judge, hreceived, judgeResponse_eq hmap, InFlight.commandCheck_eq, ← crc8_append]
    rfl
  refine ⟨rfl, crc8_check 0 head, fun hm => ?_, fun hm hg => ?_, fun hm hg hs => ?_, fun hm hg hs => ?_⟩ <;> rw [hjudge]
  · exact if_pos hm
  · rw [if_neg hm, if_pos hg]
  · rw [if_neg hm, if_neg (not_not.mpr hg), if_pos hs]
  · rw [if_neg hm, if_neg (not_not.mpr hg), if_neg (by rw [hs]; exact Bool.false_ne_true)]

end Sys2Proof.Machine
end

section
/-!
SUPPORT. The resets that POWER_ON and RST begin (R61, R143, R152, R165).
-/

set_option Elab.async false

namespace Sys2Proof.Machine

/-- RST asserted outside a power-on reset begins a reset with cause PIN (R152). -/
theorem State.rstCause_pin {s : State} (h : ∀ r, s.resetting = some r → r.cause ≠ .power) : s.rstCause = .pin := by
  unfold State.rstCause
  split
  · next left hr => exact absurd rfl (h _ hr)
  · rfl

/-- RST asserted within a power-on reset leaves the cause POWER (log 13). -/
theorem State.rstCause_power {s : State} {r : Resetting} (hr : s.resetting = some r) (h : r.cause = .power) :
    s.rstCause = .power := by
  obtain ⟨cause, left⟩ := r
  cases h
  simp only [State.rstCause, hr]

theorem execRstPin_asserted (s : State) :
    exec (.rstPin true) s =
      .next (State.cleared { s.pins with rst := true } s.pending (some { cause := s.rstCause, left := 5000 })) := rfl

/-- RST released ends the cause of the reset: its 5 ms start (R165). -/
theorem execRstPin_released {s : State} {r : Resetting} (hpin : s.pins.rst = true) (hr : s.resetting = some r) :
    exec (.rstPin false) s =
      .next { s with pins := { s.pins with rst := false }, resetting := some { r with left := 5000 } } := by
  change execRstPin false s = _
  simp [execRstPin, hpin, hr, Config.resetTicks]

/-- Settles O7: the reset that each of POWER_ON and RST begins, by its cause, and what shows within a reset. -/
theorem powerAndPinBeginReset : Obligations.PowerAndPinBeginReset := by
  refine fun s => ⟨fun good => rfl, fun h => ?_, fun r hr h => ?_, fun r hpin hr => execRstPin_released hpin hr,
    fun pins q r => ⟨rfl, rfl, rfl, fun l => ?_, fun x => ?_⟩⟩
  · rw [execRstPin_asserted, State.rstCause_pin h]
  · rw [execRstPin_asserted, State.rstCause_power hr h]
  · rw [State.cleared_lane]
    exact ⟨rfl, rfl⟩
  · rw [State.cleared_timer]
    rfl

end Sys2Proof.Machine
end

section
/-!
SUPPORT. What a lane's wire decides: echoes, responses and their times (R51 to R54, R56).
-/

set_option Elab.async false

namespace Sys2Proof.Machine

/-! ### Echoes (R51) -/

theorem Rate.byteHalves_pos {r : Rate} (h : r ≠ .off) : 0 < r.byteHalves := by
  obtain ⟨hpos, heven⟩ := Rate.bitHalves_even h
  rw [Rate.byteHalves_eq]
  omega

theorem Rate.charLimit_halves (r : Rate) : halves r.charLimit = 3 * r.byteHalves := Nat.mul_left_comm ..

/-- The character that ends after a whole number of byte times. -/
theorem characterEnding_of_end {r : Rate} (hr : r ≠ .off) (frame : List Byte) (i : Nat) :
    characterEnding frame r ((i + 1) * r.byteHalves) = frame[i]? := by
  have hpos := Rate.byteHalves_pos hr
  have hend : (i + 1) * r.byteHalves % r.byteHalves = 0 ∧ 0 < (i + 1) * r.byteHalves :=
    ⟨Nat.mul_mod_left _ _, Nat.mul_pos (Nat.succ_pos i) hpos⟩
  rw [characterEnding, if_neg hpos.ne', if_pos hend, Nat.mul_div_cancel _ hpos, Nat.add_sub_cancel]

/-- An echo matches when it is the character sent, without a framing mark (R51). -/
theorem mismatchNow_of_end {r : Rate} {frame : List Byte} {i : Nat} {b : Byte} (hr : r ≠ .off)
    (hb : frame[i]? = some b) (echo : Option (Byte × Bool)) :
    mismatchNow frame r ((i + 1) * r.byteHalves) echo = (echo != some (b, false)) := by
  rw [mismatchNow, characterEnding_of_end hr, hb]

/-- Beyond the frame's last character no echo is awaited. -/
theorem mismatchNow_after {r : Rate} {frame : List Byte} {elapsed : Nat} (h : frame.length * r.byteHalves < elapsed)
    (echo : Option (Byte × Bool)) : mismatchNow frame r elapsed echo = false := by
  have hnone : characterEnding frame r elapsed = none := by
    unfold characterEnding
    split
    · rfl
    · next hpos =>
      split
      · next hend =>
        have hlt : frame.length < elapsed / r.byteHalves := by
          rw [Nat.lt_div_iff_mul_lt' (Nat.dvd_of_mod_eq_zero hend.1)]
          rwa [Nat.mul_comm]
        exact List.getElem?_eq_none (by omega)
      · rfl
  rw [mismatchNow, hnone]

section
variable {s : State} {l : LaneId} {f : InFlight}

theorem State.echoFails_of_flight (h : s.flight l = some f) :
    s.echoFails l =
      if mismatchNow f.frame (s.lane l).config.rate f.elapsed (s.lane l).rx.done then some f else none := by
  simp only [State.echoFails, h]

theorem execEchoMismatch_at_hand (s : State) (l : LaneId) :
    exec (.echoMismatch l (s.lane l).rx.done) s = .next (s.failEcho l) := by
  change execEchoMismatch l _ s = _
  rw [execEchoMismatch, if_pos rfl]

theorem State.failEcho_of_fails (h : s.echoFails l = some f) : s.failEcho l = s.endTransaction l f .echo [] := by
  simp only [State.failEcho, h]

theorem State.failEcho_of_matches (h : s.echoFails l = none) (hsleep : s.sleepEchoFails l = false) :
    s.failEcho l = s := by
  simp [State.failEcho, h, hsleep]

/-- With the last echo of a broadcast matching, the broadcast is over (R56). -/
theorem State.broadcastOver_of_flight (hflight : s.flight l = some f) (hnode : f.node = 0)
    (hsent : f.commandHalves (s.lane l).config.rate ≤ f.elapsed) (hecho : s.echoFails l = none) :
    s.broadcastOver l = some f := by
  simp [State.broadcastOver, hflight, InFlight.isUnicast, hnode, hsent, hecho]

/-- No echo of a command that has been sent fails, when its last one matches. -/
theorem State.echoFails_of_sent (hflight : s.flight l = some f)
    (hsent : f.commandHalves (s.lane l).config.rate ≤ f.elapsed)
    (hlast : f.elapsed = f.commandHalves (s.lane l).config.rate →
      ∀ b, f.frame.getLast? = some b → (s.lane l).rx.done = some (b, false)) : s.echoFails l = none := by
  rw [State.echoFails_of_flight hflight]
  refine if_neg (Bool.eq_false_iff.mp ?_)
  have hlength : f.frame.length = 4 + f.request.length := commandFrame_length ..
  obtain hlt | heq := Nat.lt_or_eq_of_le hsent
  · exact mismatchNow_after (by rw [hlength]; exact hlt) _
  · by_cases hoff : (s.lane l).config.rate = .off
    · rw [hoff]
      rfl
    · have hlt : 3 + f.request.length < f.frame.length := by omega
      have hb : f.frame[3 + f.request.length]? = some f.frame[3 + f.request.length] := List.getElem?_eq_getElem hlt
      have hindex : f.frame.length - 1 = 3 + f.request.length := by omega
      have hdone := hlast heq.symm _ (by rw [List.getLast?_eq_getElem?, hindex, hb])
      have htime : f.elapsed = (3 + f.request.length + 1) * (s.lane l).config.rate.byteHalves := by
        rw [← heq, InFlight.commandHalves]
        congr 1
        omega
      rw [htime, mismatchNow_of_end hoff hb, hdone, bne_self_eq_false]

end

/-! ### Responses (R52 to R54) -/

/-- A character of the response, by its start edge: after the command, and in time (R52, R53). -/
theorem InFlight.expects_of {f : InFlight} {c : LaneConfig} (hnode : f.node ≠ 0)
    (hsent : f.commandHalves c.rate + c.rate.byteHalves ≤ f.elapsed)
    (hfirst : f.received = [] → f.elapsed ≤ f.commandHalves c.rate + halves c.rt + c.rate.byteHalves)
    (hlater : f.received ≠ [] → f.lastEnd + c.rate.byteHalves ≤ f.elapsed ∧
      f.elapsed ≤ f.lastEnd + 4 * c.rate.byteHalves) : f.expects c = true := by
  simp only [InFlight.expects, InFlight.isUnicast, bne_iff_ne, Bool.and_eq_true, decide_eq_true_iff,
    Rate.charLimit_halves]
  refine ⟨⟨hnode, hsent⟩, ?_⟩
  split
  · next h => exact decide_eq_true (hfirst (List.isEmpty_iff.mp h))
  · next h =>
    obtain ⟨hmin, hmax⟩ := hlater (mt List.isEmpty_iff.mpr h)
    exact Bool.and_eq_true_iff.mpr ⟨decide_eq_true hmin, decide_eq_true (by omega)⟩

theorem State.arriving_of_done_none {s : State} {l : LaneId} (h : (s.lane l).rx.done = none) : s.arriving l = none :=
  Option.eq_none_iff_forall_not_mem.mpr fun ⟨_, _⟩ ha => by
    obtain ⟨-, hd, -⟩ := State.arriving_eq_some.mp ha
    rw [h] at hd
    cases hd

theorem State.responseOver_of_flight {s : State} {l : LaneId} {f : InFlight} (hflight : s.flight l = some f)
    (hnode : f.node ≠ 0) (hreceived : f.received = []) (hfree : s.lineFree l = true)
    (hdone : (s.lane l).rx.done = none)
    (hover : f.commandHalves (s.lane l).config.rate + halves (s.lane l).config.rt ≤ f.elapsed) :
    s.responseOver l = some f := by
  simp only [State.responseOver, hflight, State.arriving_of_done_none hdone]
  exact if_pos (by simp [InFlight.isUnicast, hnode, hreceived, hfree, hover])

theorem State.characterLimitOver_of_flight {s : State} {l : LaneId} {f : InFlight} (hflight : s.flight l = some f)
    (hnode : f.node ≠ 0) (hreceived : f.received ≠ []) (hfree : s.lineFree l = true)
    (hdone : (s.lane l).rx.done = none)
    (hover : f.lastEnd + 3 * (s.lane l).config.rate.byteHalves ≤ f.elapsed) : s.characterLimitOver l = some f := by
  rw [← Rate.charLimit_halves] at hover
  simp only [State.characterLimitOver, hflight, State.arriving_of_done_none hdone]
  exact if_pos (by simp [InFlight.isUnicast, hnode, hreceived, hfree, hover])

/-- A character that completes in time is one of the response, and its last one when 2 + m have come (R52 to R54). -/
theorem State.arriving_of_expects {s : State} {l : LaneId} {f : InFlight} {c : Byte × Bool}
    (hflight : s.flight l = some f) (hdone : (s.lane l).rx.done = some c)
    (hexpects : f.expects (s.lane l).config = true) :
    (f.received.length + 1 < 2 + f.m → s.characterIn l = some (f, c)) ∧
      (f.received.length + 1 = 2 + f.m → s.lastIn l = some (f, c)) := by
  have harriving := State.arriving_eq_some.mpr ⟨hflight, hdone, hexpects⟩
  exact ⟨fun h => Option.filter_eq_some_iff.mpr ⟨harriving, decide_eq_true h⟩,
    fun h => Option.filter_eq_some_iff.mpr ⟨harriving, decide_eq_true h⟩⟩

/-- A response character that the receiver has not completed is not at hand (log 2). -/
theorem execResponseCharacter_not_at_hand {s : State} {l : LaneId} {byte : Byte} {mark : Bool}
    (h : (s.lane l).rx.done ≠ some (byte, mark)) :
    exec (.responseCharacterReceived l byte mark) s = .next s ∧ exec (.responseComplete l byte mark) s = .next s := by
  have hne : ∀ f c, s.arriving l = some (f, c) → c ≠ (byte, mark) := fun f c ha hc => by
    obtain ⟨-, hd, -⟩ := State.arriving_eq_some.mp ha
    exact h (hc ▸ hd)
  constructor
  · change execResponseCharacterReceived l byte mark s = _
    unfold execResponseCharacterReceived
    split
    · next f c hc => rw [if_neg (hne f c (Option.filter_eq_some_iff.mp hc).1)]
    · rfl
  · change execResponseComplete l byte mark s = _
    unfold execResponseComplete
    split
    · next f c hc => rw [if_neg (hne f c (Option.filter_eq_some_iff.mp hc).1)]
    · rfl

/-- Settles O50: the echo of each command character, the end of a broadcast, the two timeouts, and the characters of the
response. -/
theorem wireDecidesOutcome : Obligations.WireDecidesOutcome := by
  intro s l f hr hf r byteTime rt sent done
  have hflight : s.flight l = some f := State.flight_eq_some.mpr ⟨hr, hf⟩
  refine ⟨fun i b hoff hb he => ⟨fun hne => ?_, fun heq hsleep => ?_⟩, fun hnode hsent hlast => ?_,
    fun hnode hreceived hfree hdone hover => ?_, fun hnode hreceived hfree hdone hover => ?_,
    fun byte mark hdone hnode hsent hfirst hlater => ?_, fun c hc => ?_, fun byte mark hne => ?_⟩
  · have hfails : s.echoFails l = some f := by
      rw [State.echoFails_of_flight hflight, he]
      exact if_pos ((mismatchNow_of_end hoff hb done).trans (bne_iff_ne.mpr hne))
    rw [execEchoMismatch_at_hand, State.failEcho_of_fails hfails]
  · have hmatches : s.echoFails l = none := by
      rw [State.echoFails_of_flight hflight, he]
      refine if_neg (Bool.eq_false_iff.mp ((mismatchNow_of_end hoff hb done).trans ?_))
      rw [heq, bne_self_eq_false]
    have hawake : s.sleepEchoFails l = false := by simp only [State.sleepEchoFails, hsleep]
    rw [execEchoMismatch_at_hand, State.failEcho_of_matches hmatches hawake]
  · change execBroadcastComplete l s = _
    rw [execBroadcastComplete, State.broadcastOver_of_flight hflight hnode hsent
      (State.echoFails_of_sent hflight hsent hlast)]
  · change execResponseTimeout l s = _
    rw [execResponseTimeout, State.responseOver_of_flight hflight hnode hreceived hfree hdone hover]
  · change execCharacterLimitExpiry l s = _
    rw [execCharacterLimitExpiry, State.characterLimitOver_of_flight hflight hnode hreceived hfree hdone hover]
  · have hexpects : f.expects (s.lane l).config = true := InFlight.expects_of hnode hsent hfirst hlater
    obtain ⟨hbefore, hcomplete⟩ := State.arriving_of_expects hflight hdone hexpects
    refine ⟨fun h => ?_, fun h => ?_⟩
    · change execResponseCharacterReceived l byte mark s = _
      rw [execResponseCharacterReceived, hbefore h]
      exact congrArg Host.Outcome.next (if_pos rfl)
    · change execResponseComplete l byte mark s = _
      rw [execResponseComplete, hcomplete h]
      exact congrArg Host.Outcome.next (if_pos rfl)
  · exact congrArg Host.Outcome.next (if_neg fun h => hc h.symm)
  · exact execResponseCharacter_not_at_hand hne

end Sys2Proof.Machine
end

section
/-!
SUPPORT. The SLEEP command, the wake and the line fault of a lane (R58 to R60, R82, R84 to R86).
-/

set_option Elab.async false

namespace Sys2Proof.Machine

theorem State.onLane_congr {s : State} {l : LaneId} {f g : Lane → Lane} (h : f (s.lane l) = g (s.lane l)) :
    s.onLane l f = s.onLane l g :=
  congrArg (fun x => { s with lanes := s.lanes.set l x }) h

/-- Two changes of a lane with a notification between them. -/
theorem State.onLane_notify_onLane (s : State) (l : LaneId) (f g : Lane → Lane) (body : NoteBody) :
    ((s.onLane l f).notify body).onLane l g = (s.onLane l fun x => g (f x)).notify body := by
  simp only [State.onLane, State.notify, Four.get_set_same, Four.set_set]

/-- Quiet lasts two byte times (R46, R48). -/
theorem Lane.isQuiet_iff {x : Lane} : x.isQuiet = true ↔ 2 * x.config.rate.byteHalves ≤ x.quiet := by
  rw [Lane.isQuiet, decide_eq_true_iff]
  rfl

/-- The SLEEP command is over once it is cut short or sent (R58). -/
theorem SleepProgress.sent_iff {elapsed : Nat} {cut : Bool} {r : Rate} :
    (SleepProgress.command elapsed cut).sent r = true ↔ cut = true ∨ 4 * r.byteHalves ≤ elapsed := by
  rw [SleepProgress.sent, Bool.or_eq_true, decide_eq_true_iff]
  rfl

section
variable {s : State} {l : LaneId}

/-! ### The SLEEP command (R58, R82) -/

theorem State.sleepStarts_of (hr : s.resetting = none) (hm : (s.lane l).mode = .sleeping)
    (hs : (s.lane l).sleep = some .waiting) (hq : 2 * (s.lane l).config.rate.byteHalves ≤ (s.lane l).quiet) :
    s.sleepStarts l = true := by
  simp [State.sleepStarts, hr, hm, hs, Lane.isQuiet_iff.mpr hq]

theorem State.echoFails_of_no_flight (h : (s.lane l).inFlight = none) : s.echoFails l = none := by
  simp [State.echoFails, State.flight, h]

theorem State.sleepEchoFails_of {elapsed : Nat} (hr : s.resetting = none)
    (hs : (s.lane l).sleep = some (.command elapsed false)) :
    s.sleepEchoFails l = mismatchNow sleepFrame (s.lane l).config.rate elapsed (s.lane l).rx.done := by
  simp [State.sleepEchoFails, hs, hr]

/-- An echo that does not match cuts the SLEEP command short (R58). -/
theorem State.failEcho_of_sleep {elapsed : Nat} (hf : (s.lane l).inFlight = none)
    (hs : (s.lane l).sleep = some (.command elapsed false)) (h : s.sleepEchoFails l = true) :
    s.failEcho l = s.onLane l fun y => { y with sleep := some (.command elapsed true) } := by
  simp only [State.failEcho, State.echoFails_of_no_flight hf, h, if_true]
  exact State.onLane_congr (by rw [hs]; rfl)

theorem State.sleepEnds_of {elapsed : Nat} {cut : Bool} (hr : s.resetting = none)
    (hm : (s.lane l).mode = .sleeping) (hs : (s.lane l).sleep = some (.command elapsed cut))
    (he : 6 * (s.lane l).config.rate.byteHalves ≤ elapsed)
    (hq : 2 * (s.lane l).config.rate.byteHalves ≤ (s.lane l).quiet) : s.sleepEnds l = true := by
  have hsent : (SleepProgress.command elapsed cut).sent (s.lane l).config.rate = true :=
    SleepProgress.sent_iff.mpr (.inr (by omega))
  simp [State.sleepEnds, hr, hm, hs, Lane.isQuiet_iff.mpr hq, hsent, he]

/-- The end of the SLEEP command, by the wake-pending flag (R82). -/
theorem execSleepCommandEnd_of (h : s.sleepEnds l = true) :
    exec (.sleepCommandEnd l) s = .next
      (if (s.lane l).wakePending then
        s.onLane l fun y => { y with mode := .waking, sleep := none, wake := some (.pulse 400), wakePending := false }
      else (s.onLane l fun y => { y with mode := .asleep, sleep := none }).notify (.laneAsleep l)) :=
  congrArg Host.Outcome.next (if_pos h)

/-! ### Wake, line fault and recovery (R60, R84 to R86) -/

theorem State.wake_due {p : WakeProgress} (hr : s.resetting = none) (hw : (s.lane l).wake = some p) :
    (s.resetting.isNone && (s.lane l).wake == some p) = true := by
  simp [hr, hw]

theorem State.nodeWakes_of (hr : s.resetting = none) (hm : (s.lane l).mode = .asleep)
    (hd : 200 ≤ (s.lane l).dominant) : s.nodeWakes l = true := by
  simp [State.nodeWakes, hr, hm, Config.nodeWakeTicks, hd]

/-- A lane waits for quiet in READY, and in SLEEPING before and after its SLEEP command (R85). -/
theorem Lane.waitsForQuiet_of {x : Lane}
    (h : x.mode = .ready ∨ (x.mode = .sleeping ∧ ∀ elapsed cut, x.sleep = some (.command elapsed cut) →
      cut = true ∨ 4 * x.config.rate.byteHalves ≤ elapsed)) : x.waitsForQuiet = true := by
  unfold Lane.waitsForQuiet
  obtain hm | ⟨hm, hs⟩ := h
  · rw [hm]
  · rw [hm]
    dsimp only
    split
    · next elapsed cut hc => exact SleepProgress.sent_iff.mpr (hs elapsed cut hc)
    · rfl

theorem State.lineFaults_of (hr : s.resetting = none) (hw : (s.lane l).waitsForQuiet = true)
    (hd : 20000 ≤ (s.lane l).dominant) : s.lineFaults l = true := by
  simp [State.lineFaults, hr, hw, Config.lineFaultTicks, hd]

/-- A line fault: LANE_FAULT, then the waiting claims one by one (R85). -/
theorem execLineFault_of (h : s.lineFaults l = true) :
    exec (.lineFault l) s = .next ((s.lane l).claims.foldl (fun u c => u.deliverWaiting l .lineFault c)
      ((s.onLane l fun y => { y with mode := .lineFault, sleep := none, wakePending := false, claims := [] }).notify
        (.laneFault l))) := by
  change execLineFault l s = _
  rw [execLineFault, if_pos h, State.resolveAll, State.deliverAll, State.onLane_notify_onLane, State.notify_lane_eq,
    State.onLane_lane_same]

theorem State.lineClears_of (hr : s.resetting = none) (hm : (s.lane l).mode = .lineFault)
    (hq : 2000 ≤ (s.lane l).quiet) : s.lineClears l = true := by
  simp [State.lineClears, hr, hm, Config.lineClearTicks, hq]

end

/-- Settles O54: each happening of the sleep and wake sequence, the line fault and its recovery, where it is due. -/
theorem sleepWakeAndLineFault : Obligations.SleepWakeAndLineFault := by
  intro s l hr x bt
  refine ⟨fun hm hs hq => ?_, fun i b hoff hf hs hb => ?_, fun elapsed cut hm hs he hq => ?_, fun hw => ?_,
    fun hw => ?_, fun hm hd => ?_, fun hd hm => ?_, fun hm hq => ?_⟩
  · exact congrArg Host.Outcome.next (if_pos (State.sleepStarts_of hr hm hs hq))
  · have hecho : s.sleepEchoFails l = (x.rx.done != some (b, false)) :=
      (State.sleepEchoFails_of hr hs).trans (mismatchNow_of_end hoff (sleepFrame_eq ▸ hb) _)
    refine ⟨fun hne => ?_, fun heq => ?_⟩ <;> rw [execEchoMismatch_at_hand]
    · rw [State.failEcho_of_sleep hf hs (hecho.trans (bne_iff_ne.mpr hne))]
    · rw [heq, bne_self_eq_false] at hecho
      rw [State.failEcho_of_matches (State.echoFails_of_no_flight hf) hecho]
  · rw [execSleepCommandEnd_of (State.sleepEnds_of hr hm hs he hq)]
    exact ⟨fun h => by rw [if_neg (Bool.eq_false_iff.mp h)], fun h => by rw [if_pos h]⟩
  · exact congrArg Host.Outcome.next (if_pos (State.wake_due hr hw))
  · exact congrArg Host.Outcome.next (if_pos (State.wake_due hr hw))
  · exact congrArg Host.Outcome.next (if_pos (State.nodeWakes_of hr hm hd))
  · exact execLineFault_of (State.lineFaults_of hr (Lane.waitsForQuiet_of hm) hd)
  · exact congrArg Host.Outcome.next (if_pos (State.lineClears_of hr hm hq))

end Sys2Proof.Machine
end

section
/-!
SUPPORT. The node records and the transactions in flight over every command (R62, R73, R87): every command but a GRANT
leaves the roster as R87 says and begins no transaction (`exec_settled`).
-/

set_option Elab.async false

namespace Sys2Proof.Machine

/-! ### One node record (R87) -/

theorem NodeRecord.ok_silent {r : NodeRecord} {c : LaneConfig} (h : r.mode = .silent) :
    r.Ok c ↔ r.missCount = 0 ∧ ∃ k, r.countdown = some k ∧ 1 ≤ k ∧ k ≤ c.probeInterval := by
  unfold NodeRecord.Ok
  rw [h]

theorem NodeRecord.ok_not_silent {r : NodeRecord} {c : LaneConfig} (h : r.mode ≠ .silent) :
    r.Ok c ↔ r.missCount < c.missLimit ∧ r.countdown = none := by
  unfold NodeRecord.Ok
  split
  · next hm => exact absurd hm h
  · rfl

section
variable {r : NodeRecord} {c : LaneConfig}

theorem LaneConfig.Ok.missLimit_pos (hc : c.Ok) : 0 < c.missLimit :=
  have ⟨_, _, hmiss, _⟩ := hc
  hmiss

theorem LaneConfig.Ok.probeInterval_pos (hc : c.Ok) : 1 ≤ c.probeInterval :=
  have ⟨_, _, _, _, hprobe, _⟩ := hc
  hprobe

theorem LaneConfig.Ok.reset_record (hc : c.Ok) : NodeRecord.reset.Ok c := ⟨hc.missLimit_pos, rfl⟩

/-- A SILENT record whose next probe is the probe interval away. -/
theorem LaneConfig.Ok.silent_record (hc : c.Ok) (hm : r.mode = .silent) (h0 : r.missCount = 0)
    (hk : r.countdown = some c.probeInterval) : r.Ok c :=
  (NodeRecord.ok_silent hm).mpr ⟨h0, c.probeInterval, hk, hc.probeInterval_pos, Nat.le_refl _⟩

/-- A miss is counted below the miss limit, or makes the record SILENT (R90). -/
theorem NodeRecord.Ok.missed (h : r.Ok c) (hc : c.Ok) (hm : r.mode ≠ .silent) (o : Outcome) : (r.missed o c).Ok c := by
  unfold NodeRecord.missed
  split
  · next hlt => exact (NodeRecord.ok_not_silent (by exact hm)).mpr ⟨hlt, ((NodeRecord.ok_not_silent hm).mp h).2⟩
  · exact hc.silent_record rfl rfl rfl

/-- An outcome keeps a record as R87 says (R89 to R92). -/
theorem NodeRecord.Ok.apply (h : r.Ok c) (hc : c.Ok) (o : Outcome) (now : Time) : (r.apply o c now).Ok c := by
  unfold NodeRecord.apply
  split
  · exact ⟨hc.missLimit_pos, rfl⟩
  · split
    · next hm =>
      simp only [Bool.and_eq_true, bne_iff_ne] at hm
      exact h.missed hc hm.2 o
    · exact h

/-- A suppression query counts down to the probe and starts the countdown anew (R93). -/
theorem NodeRecord.Ok.query (h : r.Ok c) (hc : c.Ok) : (r.query c).2.Ok c := by
  by_cases hm : r.mode = .silent
  · obtain ⟨h0, k, hk, -, hle⟩ := (NodeRecord.ok_silent hm).mp h
    rw [NodeRecord.query_of_silent hm hk]
    split
    · exact (NodeRecord.ok_silent (by exact hm)).mpr ⟨h0, k - 1, rfl, by omega, by omega⟩
    · exact hc.silent_record hm h0 rfl
  · rw [NodeRecord.query_of_not_silent hm]
    exact h

/-- A new configuration starts the miss count and the countdown afresh (R94). -/
theorem NodeRecord.Ok.reconfigure {d : LaneConfig} (h : r.Ok d) (hc : c.Ok) : (r.reconfigure c).Ok c := by
  rw [NodeRecord.reconfigure_eq]
  by_cases hm : r.mode = .silent
  · exact hc.silent_record hm rfl (if_pos hm)
  · exact (NodeRecord.ok_not_silent (by exact hm)).mpr
      ⟨hc.missLimit_pos, (if_neg hm).trans ((NodeRecord.ok_not_silent hm).mp h).2⟩

end

/-! ### The roster -/

theorem State.RosterOk.of_configs {s t : State} (hs : s.RosterOk) (hconfig : ∀ l, (t.lane l).config = (s.lane l).config)
    (hroster : t.roster = s.roster) : t.RosterOk := fun l => by
  rw [hconfig, hroster]
  exact hs l

theorem State.RosterOk.node {s : State} (hs : s.RosterOk) (l : LaneId) (node : Nat) :
    (s.node l node).Ok (s.lane l).config := by
  obtain ⟨hc, -, hr⟩ := hs l
  rw [State.node, List.getD_eq_getElem?_getD]
  cases h : (s.roster.get l)[node - 1]? with
  | none => exact hc.reset_record
  | some r => exact hr r (List.mem_of_getElem? h)

theorem State.RosterOk.setNode {s : State} (hs : s.RosterOk) {l : LaneId} {node : Nat} {r : NodeRecord}
    (h : r.Ok (s.lane l).config) : (s.setNode l node r).RosterOk := fun m => by
  rw [State.setNode_lane_eq, State.setNode, Four.get_set]
  split
  · next hm =>
    subst hm
    obtain ⟨hc, hlen, hr⟩ := hs m
    refine ⟨hc, by rw [List.length_set, hlen], fun x hx => ?_⟩
    obtain hx | rfl := List.mem_or_eq_of_mem_set hx
    · exact hr x hx
    · exact h
  · exact hs m

theorem State.cleared_rosterOk (pins : Pins) (q : List Instr) (r : Option Resetting) :
    (State.cleared pins q r).RosterOk :=
  (State.restarted_rosterOk (pins := pins) (q := q) (c := .power)).of_configs
    (fun l => by rw [State.cleared_lane, State.restarted_lane]) rfl

theorem parseLaneConfig_ok {p : List Byte} {c : LaneConfig} (h : parseLaneConfig p = some c) : c.Ok := by
  unfold parseLaneConfig at h
  split at h
  · split at h
    · next hp =>
      obtain ⟨hrt1, hrt2, hmiss1, hmiss2, hprobe⟩ := hp
      cases h
      exact ⟨hrt1, hrt2, hmiss1, hmiss2, hprobe, Nat.lt_succ_iff.mp (byteAt_lt p 5)⟩
    · cases h
  · cases h

/-- A configuration in range keeps the roster of its lane as R87 says, and the other lanes keep theirs (R94). -/
theorem State.RosterOk.configureTo {s : State} (hs : s.RosterOk) {c : LaneConfig} (hc : c.Ok) (l : LaneId) :
    (s.configureTo l c).RosterOk := fun m => by
  simp only [State.configureTo, State.lane, State.onLane, Four.get_set]
  split
  · next hm =>
    subst hm
    obtain ⟨-, hlen, hr⟩ := hs m
    refine ⟨hc, by rw [List.length_map, hlen], fun x hx => ?_⟩
    obtain ⟨r, hmem, rfl⟩ := List.mem_map.mp hx
    exact (hr r hmem).reconfigure hc
  · exact hs m

/-! ### Changes that grant no claim -/

/-- What a grant fixes of a transaction: claim, node, op, response length and request bytes (R73). -/
def InFlight.content (f : InFlight) : Claim × Nat × Op × Nat × List Byte := (f.claim, f.node, f.op, f.m, f.request)

/-- A lane keeps its configuration, and what it has in flight it had in flight, as the grant fixed it. -/
structure Lane.Settled (x y : Lane) : Prop where
  config : y.config = x.config := by rfl
  flight : ∀ g, y.inFlight = some g → ∃ f, x.inFlight = some f ∧ g.content = f.content := by
    exact fun g h => ⟨g, h, rfl⟩

/-- A change that keeps the roster as R87 says, and after which what is in flight was in flight before, as its grant
fixed it. -/
structure State.Settled (s t : State) : Prop where
  roster : s.RosterOk → t.RosterOk
  flight : ∀ l g, (t.lane l).inFlight = some g → ∃ f, (s.lane l).inFlight = some f ∧ g.content = f.content

theorem Lane.orphanIf_settled (x : Lane) (p : Claim → Bool) : x.Settled (x.orphanIf p) where
  flight g hg := by
    obtain ⟨f, hf, rfl⟩ := Option.map_eq_some_iff.mp hg
    exact ⟨f, hf, by split <;> rfl⟩

theorem Lane.without_settled (x : Lane) (p : Claim → Bool) : x.Settled (x.without p) where
  flight := (x.orphanIf_settled p).flight

theorem State.Settled.trans {s t u : State} (h : s.Settled t) (k : t.Settled u) : s.Settled u where
  roster := k.roster ∘ h.roster
  flight l g hg := by
    obtain ⟨f, hf, hgf⟩ := k.flight l g hg
    obtain ⟨e, he, hfe⟩ := h.flight l f hf
    exact ⟨e, he, hgf.trans hfe⟩

/-- The lanes change, each within its configuration, and the roster does not. -/
theorem State.Settled.of_lane {s t : State} (h : ∀ l, (s.lane l).Settled (t.lane l))
    (hroster : t.roster = s.roster := by simp) : s.Settled t where
  roster hs := hs.of_configs (fun l => (h l).config) hroster
  flight l := (h l).flight

theorem State.Settled.of_same {s t : State} (hlanes : t.lanes = s.lanes := by simp)
    (hroster : t.roster = s.roster := by simp) : s.Settled t :=
  .of_lane (fun l => by rw [State.lane, State.lane, hlanes]; exact {}) hroster

theorem State.Settled.refl (s : State) : s.Settled s := .of_same

theorem State.Settled.onLane {s : State} {l : LaneId} {f : Lane → Lane}
    (h : (s.lane l).Settled (f (s.lane l)) := by exact {}) : s.Settled (s.onLane l f) :=
  .of_lane (fun m => by
    rw [State.onLane_lane]
    split
    · next hm => subst hm; exact h
    · exact {}) rfl

/-- A lane's own change that at most notifies. -/
theorem State.Settled.onLane_notify {s : State} {l : LaneId} {f : Lane → Lane} {body : NoteBody}
    (h : (s.lane l).Settled (f (s.lane l)) := by exact {}) : s.Settled ((s.onLane l f).notify body) :=
  .trans (.onLane h) .of_same

/-- Within a reset the roster is at its reset values, and nothing is in flight (R87, R165). -/
theorem State.Settled.cleared (s : State) (pins : Pins) (q : List Instr) (r : Option Resetting) :
    s.Settled (State.cleared pins q r) where
  roster _ := State.cleared_rosterOk pins q r
  flight l g hg := by
    rw [State.cleared_lane] at hg
    cases hg

theorem State.Settled.setNode {s : State} {l : LaneId} {node : Nat} {r : NodeRecord}
    (h : s.RosterOk → r.Ok (s.lane l).config) : s.Settled (s.setNode l node r) where
  roster hs := hs.setNode (h hs)
  flight _ g hg := ⟨g, hg, rfl⟩

/-- What every single step of a fold is, the fold is. -/
theorem State.Settled.foldl {α : Type} {f : State → α → State} (h : ∀ (s : State) a, s.Settled (f s a)) (xs : List α)
    (s : State) : s.Settled (xs.foldl f s) :=
  List.foldlRecOn (motive := s.Settled) xs f (.refl s) fun u hu a _ => hu.trans (h u a)

/-! ### The delivery of outcomes -/

theorem State.rosterOutcome_settled (s : State) (l : LaneId) (node : Nat) (o : Outcome) :
    s.Settled (s.rosterOutcome l node o) := by
  unfold State.rosterOutcome
  split
  · exact .refl s
  · exact .trans (.setNode (node := node) fun hs => (hs.node l node).apply (hs l).1 o s.time) .of_same

/-- The roster hears an outcome of a state that differs in what its owner was given. -/
theorem State.Settled.thenRoster {s t : State} (h : s.Settled t) (l : LaneId) (node : Nat) (o : Outcome) :
    s.Settled (t.rosterOutcome l node o) := h.trans (t.rosterOutcome_settled l node o)

theorem State.deliverWaiting_settled (s : State) (l : LaneId) (o : Outcome) (c : Claim) :
    s.Settled (s.deliverWaiting l o c) := by
  cases c with
  | cyclic k =>
    simp only [State.deliverWaiting]
    split
    · exact State.Settled.thenRoster .of_same ..
    · exact .of_same
  | acyclic tag a =>
    simp only [State.deliverWaiting]
    split
    · exact State.Settled.thenRoster .of_same ..
    · exact .refl s

theorem State.deliverAll_settled (s : State) (l : LaneId) (o : Outcome) (cs : List Claim) :
    s.Settled (s.deliverAll l o cs) := .foldl (fun u c => u.deliverWaiting_settled l o c) cs s

theorem State.deliverFinal_settled (s : State) (l : LaneId) (f : InFlight) (o : Outcome) (d : List Byte) :
    s.Settled (s.deliverFinal l f o d) := by
  unfold State.deliverFinal
  split <;> exact State.Settled.thenRoster .of_same ..

theorem State.resolveAll_settled (s : State) (l : LaneId) (o : Outcome) : s.Settled (s.resolveAll l o) :=
  .trans (.onLane (f := fun x => { x with claims := [] })) (State.deliverAll_settled ..)

theorem State.enterSleeping_settled (s : State) (l : LaneId) : s.Settled (s.enterSleeping l) :=
  .trans .onLane (State.resolveAll_settled ..)

/-! ### The end of a transaction and of an acyclic entry -/

theorem State.clearFlight_settled (s : State) (l : LaneId) : s.Settled (s.clearFlight l) := by
  have hfree : s.Settled (s.onLane l fun x => { x with mode := .ready, inFlight := none }) :=
    .onLane { flight := fun _ hg => by cases hg }
  unfold State.clearFlight
  dsimp only
  split
  · exact hfree.trans (State.enterSleeping_settled ..)
  · exact hfree

theorem State.placeRetry_settled (s : State) (l : LaneId) (o : Outcome) (c : Claim) :
    s.Settled (s.placeRetry l o c) := by
  cases c with
  | cyclic k => exact .onLane (f := fun x => { x with claims := .cyclic k :: x.claims })
  | acyclic tag a =>
    exact .trans (.onLane (f := fun x => { x with claims := insertAcyclicRetry (.acyclic tag a) x.claims }))
      (.of_same rfl rfl)

theorem State.endTransaction_settled (s : State) (l : LaneId) (f : InFlight) (o : Outcome) (d : List Byte) :
    s.Settled (s.endTransaction l f o d) := by
  unfold State.endTransaction
  split
  · exact (s.clearFlight_settled l).trans (State.placeRetry_settled ..)
  · exact (s.clearFlight_settled l).trans (State.deliverFinal_settled ..)

theorem State.dropAcyclic_settled (s : State) (e : AcyclicEntry) (o : Outcome) : s.Settled (s.dropAcyclic e o) :=
  have hlist : s.Settled (s.onLane e.lane fun x => { x with claims := x.claims.filter fun c => !c.hasTag e.tag }) :=
    .onLane
  State.Settled.thenRoster (hlist.trans .of_same) ..

/-! ### Posting -/

theorem State.postToLane_settled (s : State) (l : LaneId) (node : Nat) (c : CyclicClaim) :
    s.Settled (s.postToLane l node c) := by
  unfold State.postToLane
  split
  · exact .onLane
  · refine .trans (.setNode (node := node) fun hs => (hs.node l node).query (hs l).1) ?_
    dsimp only
    split
    · exact State.deliverWaiting_settled ..
    · exact .onLane

theorem State.post_settled (s : State) (e : ScanEntry) (c : CyclicClaim) : s.Settled (s.post e c) := by
  unfold State.post
  split
  · exact .refl s
  · exact s.postToLane_settled ..
  · exact s.postToLane_settled ..
  all_goals exact s.deliverWaiting_settled ..

theorem State.postAll_settled (s : State) (i : TimerId) : s.Settled (s.postAll i) :=
  s.postAll_keeps (.refl s) (fun u _ e _ _ _ hu => hu.trans (u.post_settled e _)) fun _ _ hu => hu.trans .of_same

/-! ### Frames -/

theorem State.withdrawLate_settled (s : State) (i : TimerId) (r : Half) (n : Time) (l : LaneId) :
    s.Settled (s.withdrawLate i r n l) :=
  .trans (.onLane (f := fun x => { x with claims := x.claims.filter fun c => !c.isOfFrame i r n }))
    (State.deliverAll_settled ..)

theorem State.overrun_settled (s : State) (i : TimerId) (r : Half) (n : Time) (l : LaneId) :
    s.Settled (s.overrun i r n l) := .of_lane fun m => by
  rw [State.overrun_lane]
  split
  · exact Lane.orphanIf_settled ..
  · exact {}

theorem State.endFrame_settled (s : State) (i : TimerId) : s.Settled (s.endFrame i) := by
  unfold State.endFrame
  dsimp only
  exact .trans (.foldl (fun u l => u.withdrawLate_settled ..) _ _) (.foldl (fun u l => u.overrun_settled ..) _ _)

theorem State.closeFrame_settled (s : State) (i : TimerId) : s.Settled (s.closeFrame i) :=
  (s.endFrame_settled i).trans .of_same

theorem State.withdrawnToRoster_settled (s : State) (l : LaneId) (c : Claim) :
    s.Settled (s.withdrawnToRoster l c) := by
  unfold State.withdrawnToRoster
  split
  · split
    · exact s.rosterOutcome_settled ..
    · exact .refl s
  · exact .refl s

theorem State.withdrawNow_settled (s : State) (i : TimerId) (l : LaneId) : s.Settled (s.withdrawNow i l) :=
  .trans (.onLane (f := fun x => x.without fun c => c.isOfTimer i) (Lane.without_settled ..))
    (.foldl (fun u c => u.withdrawnToRoster_settled l c) _ _)

theorem State.openFirst_settled {s t : State} {i : TimerId} (h : s.openFirst i = some t) : s.Settled t := by
  unfold State.openFirst at h
  rw [Option.map_eq_some_iff] at h
  obtain ⟨u, hu, rfl⟩ := h
  obtain ⟨bs, -, rfl⟩ := State.firstFrame_some hu
  exact .trans .of_same (State.postAll_settled ..)

theorem State.openNext_settled (s : State) (i : TimerId) : s.Settled (s.openNext i) :=
  .trans (t := s.nextFrame i) (.of_same (by simp [State.nextFrame]) (by simp [State.nextFrame]))
    (State.postAll_settled ..)

theorem State.close_settled {s t : State} {i : TimerId} (h : s.close i = some t) : s.Settled t := by
  refine .trans (s.closeFrame_settled i) ?_
  unfold State.close at h
  dsimp only at h
  split at h
  · cases h
    rw [State.drain_eq_stopped]
    exact .of_same
  · rw [Option.map_eq_some_iff] at h
    obtain ⟨u, hu, rfl⟩ := h
    obtain ⟨bs, -, rfl⟩ := State.prepareNext_some hu
    split
    · exact .of_same
    · exact .trans .of_same (State.openNext_settled ..)

theorem State.stopWaiting_settled (s : State) (i : TimerId) : s.Settled (s.stopWaiting i) := by
  rw [State.stopWaiting_eq_stopped]
  exact .of_same

theorem State.stopRunning_settled (s : State) (i : TimerId) : s.Settled (s.stopRunning i) := by
  have hwithdrawn : s.Settled (s.withdrawn i) :=
    .trans (t := s.onBuffers i Three.freeFilling) .of_same
      (.foldl (fun u l => u.withdrawNow_settled i l) allLanes _)
  rw [State.stopRunning_eq_stopped]
  exact hwithdrawn.trans .of_same

theorem State.stopAtEnd_settled (s : State) (i : TimerId) : s.Settled (s.stopAtEnd i) := by
  unfold State.stopAtEnd
  split
  · exact .of_same
  · exact .refl s
  · exact .of_same rfl rfl
  · exact s.stopWaiting_settled i
  · exact .refl s

theorem State.stopAtOnce_settled (s : State) (i : TimerId) : s.Settled (s.stopAtOnce i) := by
  unfold State.stopAtOnce
  split
  · exact s.stopRunning_settled i
  · exact s.stopRunning_settled i
  · exact .of_same rfl rfl
  · exact s.stopWaiting_settled i
  · exact .refl s

end Sys2Proof.Machine
end

section
/-!
SUPPORT. Every command but a GRANT leaves the roster as R87 says and begins no transaction; a GRANT is taken on a READY
lane. From these two the roster's invariant (R62, R87) and what a grant fixed (R73, R124).
-/

set_option Elab.async false

namespace Sys2Proof.Machine

/-! ### The owners of the requests -/

theorem State.take_settled {s : State} {rq : Request} {run : State → State} (h : ∀ u : State, u.Settled (run u)) :
    s.Settled (s.take rq run) := by
  obtain ht | ⟨u, hu, ⟨k, -, hk⟩ | hr⟩ := s.take_cases rq run
  · rw [ht]; exact .refl s
  · obtain ⟨-, -, -, rest, rfl, -⟩ := State.accept_some hu
    rw [hk]
    exact .of_same
  · obtain ⟨-, -, -, rest, rfl, -⟩ := State.accept_some hu
    rw [hr]
    exact .trans .of_same (h _)

theorem State.serve_settled {s : State} {seq kind : Byte} {p : List Byte} {owner : State → State × Answer}
    (h : ∀ u : State, u.Settled (owner u).1) : s.Settled (s.serve seq kind p owner) :=
  State.take_settled fun u => (h u).trans .of_same

theorem State.configureTo_settled (s : State) (l : LaneId) {c : LaneConfig} (hc : c.Ok) :
    s.Settled (s.configureTo l c) where
  roster hs := hs.configureTo hc l
  flight m g hg := by
    refine ⟨g, ?_, rfl⟩
    rw [← hg]
    simp only [State.configureTo, State.lane, State.onLane, Four.get_set]
    split
    · next hm => subst hm; rfl
    · rfl

theorem ownConfigureLane_settled (p : List Byte) (s : State) : s.Settled (ownConfigureLane p s).1 := by
  unfold ownConfigureLane State.tryConfigureLane
  split
  · split
    · next hc =>
      split
      · exact .refl s
      · split
        · exact .refl s
        · exact s.configureTo_settled _ (parseLaneConfig_ok hc)
    · exact .refl s
  · exact .refl s

theorem ownSleepLane_settled (p : List Byte) (s : State) : s.Settled (ownSleepLane p s).1 := by
  unfold ownSleepLane State.sleepLane
  split
  · split
    · split
      · exact s.enterSleeping_settled _
      · dsimp only
        exact .onLane
      all_goals exact .refl s
    · exact .refl s
  · exact .refl s

theorem ownWakeLane_settled (p : List Byte) (s : State) : s.Settled (ownWakeLane p s).1 := by
  unfold ownWakeLane State.wakeLane
  split
  · split
    · split
      · dsimp only
        exact .onLane
      · dsimp only
        exact .onLane
      · split
        · dsimp only
          exact .onLane
        · exact .refl s
      all_goals exact .refl s
    · exact .refl s
  · exact .refl s

theorem ownStop_settled {act : State → TimerId → State} (hact : ∀ (s : State) i, s.Settled (act s i)) (p : List Byte)
    (code : Nat) (s : State) : s.Settled (ownStop p code act s).1 := by
  unfold ownStop
  split
  · split
    · split
      · exact hact s _
      · exact .refl s
    · exact .refl s
  · exact .refl s

theorem State.acceptTransact_settled (s : State) (e : AcyclicEntry) : s.Settled (s.acceptTransact e) :=
  .trans (t := { s with acyclic := s.acyclic ++ [e] }) .of_same
    (.onLane (f := fun x => { x with claims := x.claims ++ [.acyclic e.tag .first] }))

theorem ownTransact_settled (p : List Byte) (s : State) : s.Settled (ownTransact p s).1 := by
  unfold ownTransact
  split
  · split
    · split
      · exact .refl s
      · exact s.acceptTransact_settled _
    · exact .refl s
  · exact .refl s

theorem ownCancel_settled (p : List Byte) (s : State) : s.Settled (ownCancel p s).1 := by
  unfold ownCancel
  split
  · split
    · split
      · exact .refl s
      · exact s.dropAcyclic_settled ..
    · exact .refl s
  · exact .refl s

theorem ownForgetNode_settled (p : List Byte) (s : State) : s.Settled (ownForgetNode p s).1 := by
  unfold ownForgetNode
  split
  · split
    · exact .setNode fun hs => (hs _).1.reset_record
    · exact .refl s
  · exact .refl s

/-! ### Requests in which no node record takes part -/

theorem ownConfigureTimer_roster (p : List Byte) (s : State) : (ownConfigureTimer p s).1.roster = s.roster := by
  unfold ownConfigureTimer State.configureTimer
  repeat' split
  all_goals rfl

theorem ownStart_roster (p : List Byte) (s : State) : (ownStart p s).1.roster = s.roster := by
  unfold ownStart State.startTimer
  repeat' split
  all_goals rfl

theorem ownStageEntry_roster (p : List Byte) (s : State) : (ownStageEntry p s).1.roster = s.roster := by
  unfold ownStageEntry State.stage
  dsimp only
  repeat' split
  all_goals rfl

theorem ownClearStaged_roster (p : List Byte) (s : State) : (ownClearStaged p s).1.roster = s.roster := by
  unfold ownClearStaged
  repeat' split
  all_goals rfl

theorem State.commitNow_roster (s : State) (i : TimerId) : (s.commitNow i).roster = s.roster := by
  unfold State.commitNow
  split <;> rfl

theorem ownCommit_roster (p : List Byte) (s : State) : (ownCommit p s).1.roster = s.roster := by
  unfold ownCommit State.commitTable
  repeat' split
  case h_2.isFalse => exact s.commitNow_roster _
  all_goals rfl

theorem ownWithdraw_roster (p : List Byte) (s : State) : (ownWithdraw p s).1.roster = s.roster := by
  unfold ownWithdraw
  repeat' split
  all_goals rfl

theorem ownWriteOutput_roster (p : List Byte) (s : State) : (ownWriteOutput p s).1.roster = s.roster := by
  unfold ownWriteOutput
  split <;> rfl

theorem ownWriteFallback_roster (p : List Byte) (s : State) : (ownWriteFallback p s).1.roster = s.roster := by
  unfold ownWriteFallback
  split <;> rfl

theorem ownPublish_roster (p : List Byte) (s : State) : (ownPublish p s).1.roster = s.roster := by
  unfold ownPublish State.publishImage
  repeat' split
  all_goals rfl

theorem ownSetSupervision_roster (p : List Byte) (s : State) : (ownSetSupervision p s).1.roster = s.roster := by
  unfold ownSetSupervision State.superviseFor
  repeat' split
  all_goals rfl

theorem ownResume_roster (p : List Byte) (s : State) : (ownResume p s).1.roster = s.roster := by
  unfold ownResume
  repeat' split
  all_goals rfl

theorem ownHold_roster (p : List Byte) (s : State) : (ownHold p s).1.roster = s.roster := by
  unfold ownHold
  repeat' split
  all_goals rfl

theorem ownRelease_roster (p : List Byte) (s : State) : (ownRelease p s).1.roster = s.roster := by
  unfold ownRelease
  repeat' split
  all_goals rfl

theorem ownFetch_roster (p : List Byte) (s : State) : (ownFetch p s).1.roster = s.roster := by
  unfold ownFetch
  repeat' split
  all_goals rfl

theorem execReset_settled {seq : Byte} {p : List Byte} {s t : State} (h : execReset seq p s = .next t) :
    s.Settled t := by
  unfold execReset at h
  cases h
  refine State.take_settled fun u => ?_
  dsimp only
  split <;> exact .of_same

/-! ### The host link and the resets -/

@[simp] theorem State.nak_roster (s : State) (seq : Byte) (code : NakCode) : (s.nak seq code).roster = s.roster := by
  unfold State.nak
  split <;> rfl

@[simp] theorem State.hostActivity_roster (s : State) : s.hostActivity.roster = s.roster := by
  unfold State.hostActivity
  split <;> rfl

@[simp] theorem State.judgeFrame_roster (s : State) (got : List Byte) (marked : Bool) :
    (s.judgeFrame got marked).roster = s.roster := by
  unfold State.judgeFrame
  dsimp only
  split
  · simp
  · split <;> simp

theorem State.receiveByte_roster (s : State) (byte : Byte) (mark : Bool) :
    (s.receiveByte byte mark).roster = s.roster := by
  unfold State.receiveByte
  dsimp only
  repeat' split
  all_goals simp

theorem State.receiveByte_settled (s : State) (byte : Byte) (mark : Bool) : s.Settled (s.receiveByte byte mark) :=
  .of_same (s.receiveByte_lanes byte mark) (s.receiveByte_roster byte mark)

theorem execReplySent_settled {s t : State} (h : execReplySent s = .next t) : s.Settled t := by
  unfold execReplySent at h
  cases h
  split
  · split
    · exact .refl s
    · split
      · exact .cleared s ..
      · exact .of_same
  · exact .refl s

theorem execRstPin_settled {asserted : Bool} {s t : State} (h : execRstPin asserted s = .next t) : s.Settled t := by
  unfold execRstPin at h
  cases h
  split
  · exact .cleared s ..
  · split
    · exact .of_same
    · exact .refl s

theorem execResetEnd_settled {s t : State} (h : execResetEnd s = .next t) : s.Settled t := by
  unfold execResetEnd at h
  cases h
  split
  · split
    · exact .trans (.cleared s s.pins s.pending none) (.of_same rfl rfl)
    · exact .refl s
  · exact .refl s

/-! ### Timers -/

theorem execFirstFrameStart_settled {i : TimerId} {s t : State} (h : execFirstFrameStart i s = .next t) :
    s.Settled t := by
  unfold execFirstFrameStart at h
  split at h
  · exact State.openFirst_settled (bufferOrFault_next h)
  · cases h; exact .refl s

theorem execFrameClose_settled {i : TimerId} {s t : State} (h : execFrameClose i s = .next t) : s.Settled t := by
  unfold execFrameClose at h
  split at h
  · exact State.close_settled (bufferOrFault_next h)
  · cases h; exact .refl s

theorem execTrigEdge_settled {i : TimerId} {s t : State} (h : execTrigEdge i s = .next t) : s.Settled t := by
  unfold execTrigEdge at h
  split at h
  · cases h; exact .refl s
  · have ht := bufferOrFault_next h
    unfold State.trigger at ht
    split at ht
    · exact State.openFirst_settled ht
    · exact State.openFirst_settled ht
    · cases ht; exact s.openNext_settled i
    · cases ht; exact .of_same rfl rfl
    · cases ht; exact .of_same rfl rfl
    · cases ht; exact .refl s

/-! ### The happenings of a lane -/

theorem execClaimExpiry_settled {l : LaneId} {i : TimerId} {position : Nat} {s t : State}
    (h : execClaimExpiry l i position s = .next t) : s.Settled t := by
  unfold execClaimExpiry at h
  cases h
  split
  · exact .trans .onLane (State.deliverWaiting_settled ..)
  · exact .refl s

theorem State.failEcho_settled (s : State) (l : LaneId) : s.Settled (s.failEcho l) := by
  unfold State.failEcho
  split
  · exact s.endTransaction_settled ..
  · split
    · exact .onLane
    · exact .refl s

/-- A response character is taken into the transaction in flight, as its grant fixed it (R52, R53). -/
theorem execResponseCharacterReceived_settled {l : LaneId} {byte : Byte} {mark : Bool} {s t : State}
    (h : execResponseCharacterReceived l byte mark s = .next t) : s.Settled t := by
  unfold execResponseCharacterReceived at h
  cases h
  split
  · next f c hc =>
    have hf := (State.flight_eq_some.mp (State.characterIn_flight hc)).2
    split
    · exact .onLane { flight := fun g hg => ⟨f, hf, by cases hg; rfl⟩ }
    · exact .refl s
  · exact .refl s

theorem execResponseComplete_settled {l : LaneId} {byte : Byte} {mark : Bool} {s t : State}
    (h : execResponseComplete l byte mark s = .next t) : s.Settled t := by
  unfold execResponseComplete at h
  cases h
  split
  · split
    · exact s.endTransaction_settled ..
    · exact .refl s
  · exact .refl s

theorem execSleepCommandEnd_settled {l : LaneId} {s t : State} (h : execSleepCommandEnd l s = .next t) :
    s.Settled t := by
  unfold execSleepCommandEnd at h
  cases h
  split
  · split
    · exact .onLane
    · exact .onLane_notify
  · exact .refl s

theorem execAcyclicTimeout_settled {tag : Half} {s t : State} (h : execAcyclicTimeout tag s = .next t) :
    s.Settled t := by
  unfold execAcyclicTimeout State.timeOut at h
  cases h
  split
  · split
    · split
      · exact .of_same
      · exact s.dropAcyclic_settled ..
    · exact .refl s
  · exact .refl s

/-! ### Every command -/

theorem exec_settled {c : Instr} {s t : State} (hgrant : ∀ l, c ≠ .grant l) (h : exec c s = .next t) :
    s.Settled t := by
  cases c
  case grant l => exact absurd rfl (hgrant l)
  case query seq p => cases h; exact State.serve_settled fun u => by rw [(ownReads_same p u).1]; exact .refl u
  case reset => exact execReset_settled h
  case configureLane seq p => cases h; exact State.serve_settled (ownConfigureLane_settled p)
  case sleepLane seq p => cases h; exact State.serve_settled (ownSleepLane_settled p)
  case wakeLane seq p => cases h; exact State.serve_settled (ownWakeLane_settled p)
  case configureTimer seq p =>
    cases h; exact State.serve_settled fun u => .of_same (ownConfigureTimer_lanes p u) (ownConfigureTimer_roster p u)
  case start seq p =>
    cases h; exact State.serve_settled fun u => .of_same (ownStart_lanes p u) (ownStart_roster p u)
  case stopEnd seq p =>
    cases h
    split
    · exact .refl s
    · exact State.serve_settled (ownStop_settled State.stopAtEnd_settled p 0)
  case stopNow seq p =>
    cases h
    split
    · exact .refl s
    · exact State.serve_settled (ownStop_settled State.stopAtOnce_settled p 1)
  case stageEntry seq p =>
    cases h; exact State.serve_settled fun u => .of_same (ownStageEntry_lanes p u) (ownStageEntry_roster p u)
  case clearStaged seq p =>
    cases h; exact State.serve_settled fun u => .of_same (ownClearStaged_lanes p u) (ownClearStaged_roster p u)
  case readEntry seq p =>
    cases h; exact State.serve_settled fun u => by rw [(ownReads_same p u).2.1]; exact .refl u
  case commit seq p =>
    cases h; exact State.serve_settled fun u => .of_same (ownCommit_lanes p u) (ownCommit_roster p u)
  case withdraw seq p =>
    cases h; exact State.serve_settled fun u => .of_same (ownWithdraw_lanes p u) (ownWithdraw_roster p u)
  case writeOutput seq p =>
    cases h; exact State.serve_settled fun u => .of_same (ownWriteOutput_lanes p u) (ownWriteOutput_roster p u)
  case writeFallback seq p =>
    cases h; exact State.serve_settled fun u => .of_same (ownWriteFallback_lanes p u) (ownWriteFallback_roster p u)
  case publish seq p =>
    cases h; exact State.serve_settled fun u => .of_same (ownPublish_lanes p u) (ownPublish_roster p u)
  case setSupervision seq p =>
    cases h; exact State.serve_settled fun u => .of_same (ownSetSupervision_lanes p u) (ownSetSupervision_roster p u)
  case resume seq p =>
    cases h; exact State.serve_settled fun u => .of_same (ownResume_lanes p u) (ownResume_roster p u)
  case hold seq p =>
    cases h; exact State.serve_settled fun u => .of_same (ownHold_lanes p u) (ownHold_roster p u)
  case readImage seq p =>
    cases h; exact State.serve_settled fun u => by rw [(ownReads_same p u).2.2.1]; exact .refl u
  case readStatus seq p =>
    cases h; exact State.serve_settled fun u => by rw [(ownReads_same p u).2.2.2.1]; exact .refl u
  case release seq p =>
    cases h; exact State.serve_settled fun u => .of_same (ownRelease_lanes p u) (ownRelease_roster p u)
  case transact seq p => cases h; exact State.serve_settled (ownTransact_settled p)
  case cancel seq p => cases h; exact State.serve_settled (ownCancel_settled p)
  case readNode seq p =>
    cases h; exact State.serve_settled fun u => by rw [(ownReads_same p u).2.2.2.2]; exact .refl u
  case forgetNode seq p => cases h; exact State.serve_settled (ownForgetNode_settled p)
  case fetch seq p =>
    cases h; exact State.serve_settled fun u => .of_same (ownFetch_lanes p u) (ownFetch_roster p u)
  case duplicateReplay seq kind p =>
    cases h
    split
    · exact State.take_settled .refl
    · exact .refl s
  case unknownKind seq kind p =>
    cases h
    split
    · exact .refl s
    · exact State.serve_settled .refl
  case frameReceived byte mark =>
    cases h
    split
    · exact s.receiveByte_settled byte mark
    · exact .refl s
  case lengthNak byte mark =>
    cases h
    split
    · exact s.receiveByte_settled byte mark
    · exact .refl s
  case partialFrameDiscard =>
    cases h
    split
    · exact .of_same
    · exact .refl s
  case skipEnd =>
    cases h
    split
    · exact .of_same
    · exact .refl s
  case replySent => exact execReplySent_settled h
  case powerOn good => cases h; exact .cleared s ..
  case rstPin => exact execRstPin_settled h
  case resetEnd => exact execResetEnd_settled h
  case firstFrameStart => exact execFirstFrameStart_settled h
  case frameClose => exact execFrameClose_settled h
  case postClaims i =>
    cases h
    split
    · exact s.postAll_settled i
    · exact .refl s
  case syncEnd i =>
    cases h
    split
    · exact .of_same
    · exact .refl s
  case trigEdge => exact execTrigEdge_settled h
  case claimExpiry => exact execClaimExpiry_settled h
  case echoMismatch l echo =>
    cases h
    split
    · exact s.failEcho_settled l
    · exact .refl s
  case responseTimeout l =>
    cases h
    split
    · exact s.endTransaction_settled ..
    · exact .refl s
  case characterLimitExpiry l =>
    cases h
    split
    · exact s.endTransaction_settled ..
    · exact .refl s
  case responseComplete => exact execResponseComplete_settled h
  case broadcastComplete l =>
    cases h
    split
    · exact s.endTransaction_settled ..
    · exact .refl s
  case sleepCommandStart l =>
    cases h
    split
    · exact .onLane
    · exact .refl s
  case sleepCommandEnd => exact execSleepCommandEnd_settled h
  case wakePulseEnd l =>
    cases h
    split
    · exact .onLane
    · exact .refl s
  case settleEnd l =>
    cases h
    split
    · exact .onLane_notify
    · exact .refl s
  case nodeWake l =>
    cases h
    split
    · exact .onLane_notify
    · exact .refl s
  case lineFault l =>
    cases h
    split
    · exact .trans .onLane_notify (State.resolveAll_settled ..)
    · exact .refl s
  case lineFaultRecovery l =>
    cases h
    split
    · exact .onLane_notify
    · exact .refl s
  case acyclicTimeout => exact execAcyclicTimeout_settled h
  case supervisionExpiry =>
    cases h
    split
    · exact .of_same rfl rfl
    · exact .refl s
  case responseCharacterReceived => exact execResponseCharacterReceived_settled h
  case hostByteReceived byte mark => cases h; exact s.receiveByte_settled byte mark

/-- A GRANT that is taken is taken on a READY lane (R70). -/
theorem State.grantable_ready {s : State} {l : LaneId} {g : InFlight × List Claim} (h : s.grantable l = some g) :
    (s.lane l).mode = .ready := by
  unfold State.grantable at h
  split at h
  · next hgo =>
    simp only [Bool.and_eq_true, beq_iff_eq] at hgo
    exact hgo.1.2
  · cases h

/-- What a GRANT leaves alone: every lane's configuration, every lane that is not READY, and the roster (R73). -/
theorem execGrant_frame {l : LaneId} {s t : State} (h : execGrant l s = .next t) :
    (∀ m, (t.lane m).config = (s.lane m).config) ∧ (∀ m, (s.lane m).mode ≠ .ready → t.lane m = s.lane m) ∧
      t.roster = s.roster := by
  unfold execGrant at h
  cases h
  split
  · next f rest hg =>
    have hlane := s.granted_lane l
    refine ⟨fun m => ?_, fun m hm => ?_, by simp⟩
    · rw [hlane]
      split
      · next hml => subst hml; rfl
      · rfl
    · rw [hlane]
      split
      · next hml => subst hml; exact absurd (State.grantable_ready hg) hm
      · rfl
  · exact ⟨fun _ => rfl, fun _ _ => rfl, rfl⟩

/-! ### The statements -/

theorem State.RosterOk.exec {c : Instr} {s t : State} (hs : s.RosterOk) (h : exec c s = .next t) : t.RosterOk := by
  by_cases hgrant : ∃ l, c = .grant l
  · obtain ⟨l, rfl⟩ := hgrant
    obtain ⟨hconfig, -, hroster⟩ := execGrant_frame h
    exact hs.of_configs hconfig hroster
  · exact (exec_settled (fun l hc => hgrant ⟨l, hc⟩) h).roster hs

/-- Time leaves the lane configurations and the node records alone. -/
theorem State.RosterOk.pass {s : State} (hs : s.RosterOk) : s.pass.RosterOk := by
  have hhalf : s.halfTick.RosterOk := hs.of_configs (fun l => by simp) rfl
  obtain ⟨r, -, h | h⟩ | ⟨-, -, h⟩ | ⟨-, -, h⟩ := s.pass_cases
  · rw [h]; exact hs
  · rw [h]; exact hs
  · rw [h]; exact hhalf
  · rw [h]; exact hhalf

/-- Settles O45: every command keeps the roster as R87 says, and time leaves it alone. -/
theorem rosterKept : Obligations.RosterKept := fun s t hs h => by
  obtain ⟨c, q, hc⟩ | rfl := step_cases h
  · exact State.RosterOk.exec (s := { s with pending := q }) hs hc
  · exact hs.pass

/-- Settles O58: a GRANT is taken on a READY lane, and no other command changes what a grant fixed. -/
theorem transactionBytesFixed : Obligations.TransactionBytesFixed := fun c s u l f g h hm hf hg => by
  have hcontent : g.content = f.content := by
    by_cases hgrant : ∃ m, c = .grant m
    · obtain ⟨m, rfl⟩ := hgrant
      obtain ⟨-, hlane, -⟩ := execGrant_frame h
      rw [hlane l (by rw [hm]; decide), hf] at hg
      cases hg
      rfl
    · obtain ⟨e, he, hge⟩ := (exec_settled (fun m hc => hgrant ⟨m, hc⟩) h).flight l g hg
      rw [hf] at he
      cases he
      exact hge
  simpa only [InFlight.content, Prod.mk.injEq] using hcontent

end Sys2Proof.Machine
end

section
/-!
SUPPORT. The delivery of outcomes to the result store, the acyclic table and the roster (R75, R103, R104, R140), the
expiry of a deadline (R67, R72) and the end of a transaction (R74 to R77, R80, R137).
-/

set_option Elab.async false

namespace Sys2Proof.Machine

/-! ### The FILLING buffer of a claim (R103, R104) -/

section
variable {s : State} {k : CyclicClaim} {o : Outcome} {n : Nat} {d : List Byte}

theorem State.fillingFor_iff {b : BufId} :
    s.fillingFor k = some b ↔
      (s.buffers k.timer).find .filling = some b ∧ ((s.buffers k.timer).get b).run = k.run ∧
        ((s.buffers k.timer).get b).frame = k.frame := by
  unfold State.fillingFor
  cases (s.buffers k.timer).find .filling with
  | none => simp
  | some c =>
    dsimp only
    split
    · next hk =>
      refine ⟨fun h => ?_, fun h => h.1⟩
      cases h
      exact ⟨rfl, hk⟩
    · next hk =>
      refine ⟨fun h => (by cases h), fun ⟨hc, h⟩ => ?_⟩
      cases hc
      exact absurd h hk

/-- An outcome without response data is written into the status element alone (R104). -/
theorem Buffer.deliver_failed (b : Buffer) (e : Option ScanEntry) (position : Nat) (h : o.isGood = false) :
    b.deliver e position o n d =
      { b with status := b.status.modify position fun st => { st with outcome := o, attempts := n } } := by
  cases e <;> simp [Buffer.deliver, Buffer.mark, h]

/-- OK and NODE_FAULT bring the response data and age 0 (R104). -/
theorem Buffer.deliver_good (b : Buffer) (e : ScanEntry) (position : Nat) (h : o.isGood = true)
    (hd : d.length = e.m) :
    b.deliver (some e) position o n d =
      { b with
        status := b.status.modify position fun _ => { outcome := o, attempts := n, age := 0 }
        image := b.image.writeBytes e.resOffset d } := by
  simp [Buffer.deliver, Buffer.mark, h, ← hd]

theorem State.deliverResult_discarded (h : ∀ b, s.fillingFor k ≠ some b) : s.deliverResult k o n d = s := by
  rw [State.deliverResult, Option.eq_none_iff_forall_ne_some.mpr h]

theorem State.deliverResult_failed {b : BufId} (hb : s.fillingFor k = some b) (h : o.isGood = false) :
    s.deliverResult k o n d =
      s.onBuffer k.timer b fun x =>
        { x with status := x.status.modify k.position fun st => { st with outcome := o, attempts := n } } := by
  rw [State.deliverResult, hb]
  exact congrArg (s.onBuffer k.timer b) (funext fun x => x.deliver_failed _ _ h)

theorem State.deliverResult_good {b : BufId} {e : ScanEntry} (hb : s.fillingFor k = some b) (h : o.isGood = true)
    (he : s.entry k.timer k.position = some e) (hd : d.length = e.m) :
    s.deliverResult k o n d =
      s.onBuffer k.timer b fun x =>
        { x with
          status := x.status.modify k.position fun _ => { outcome := o, attempts := n, age := 0 }
          image := x.image.writeBytes e.resOffset d } := by
  rw [State.deliverResult, hb, he]
  exact congrArg (s.onBuffer k.timer b) (funext fun x => x.deliver_good e _ h hd)

end

/-! ### A claim that ends while it waits (R75, R140) -/

section
variable {s : State} (l : LaneId) (o : Outcome)

theorem State.deliverWaiting_cyclic {k : CyclicClaim} {e : ScanEntry} (he : s.entry k.timer k.position = some e) :
    s.deliverWaiting l o (.cyclic k) =
      (s.deliverResult k o k.attempt.waited []).rosterOutcome l e.node (k.attempt.rosterOutcome o) := by
  simp only [State.deliverWaiting, he]

theorem State.deliverWaiting_acyclic {tag : Half} {e : AcyclicEntry} (a : Attempt)
    (he : s.acyclicEntry tag = some e) :
    s.deliverWaiting l o (.acyclic tag a) =
      (State.notify { s with acyclic := s.acyclic.filter fun x => x.tag != tag }
        (.transactDone tag o a.waited [])).rosterOutcome l e.node (a.rosterOutcome o) := by
  simp only [State.deliverWaiting, he, State.completeAcyclic, ite_self]

end

/-- Settles O40: the FILLING buffer of the claim's frame, and the owner and the roster of a claim that waits. -/
theorem outcomesReachTheirOwners : Obligations.OutcomesReachTheirOwners := by
  refine ⟨fun s k o n d => ⟨fun h => ?_, fun b hb hok hfault => ?_, fun b e hb ho he hd => ?_⟩,
    fun s l o => ⟨fun k e he => ⟨fun ha => ?_, fun wire ha => ?_⟩, fun tag e he _ _ => ⟨?_, fun wire => ?_⟩⟩⟩
  · exact State.deliverResult_discarded fun b hb => h b (State.fillingFor_iff.mp hb)
  · exact State.deliverResult_failed (State.fillingFor_iff.mpr hb) (Outcome.isGood_false_iff.mpr ⟨hok, hfault⟩)
  · exact State.deliverResult_good (State.fillingFor_iff.mpr hb) (Outcome.isGood_iff.mpr ho) he hd
  · rw [State.deliverWaiting_cyclic l o he, ha]; rfl
  · rw [State.deliverWaiting_cyclic l o he, ha]; rfl
  · exact State.deliverWaiting_acyclic l o .first he
  · exact State.deliverWaiting_acyclic l o (.retry wire) he

/-! ### Deadlines (R67, R72) -/

theorem deadlinePassed_iff {now deadline : Time} :
    deadlinePassed now deadline = true ↔ (deadline - now + 0x80000000#32).toNat < 2147483648 := by
  rw [deadlinePassed, deadlineRank, decide_eq_true_iff]

/-- A deadline ahead of the present time by less than half a wrap has not passed (log 10). -/
theorem deadlinePassed_ahead (now : Time) {ticks : Nat} (h : ticks < 2147483648) :
    deadlinePassed now (now + BitVec.ofNat 32 ticks) = false := by
  rw [Bool.eq_false_iff, ne_eq, deadlinePassed_iff, add_sub_cancel_left, BitVec.toNat_add, BitVec.toNat_ofNat,
    BitVec.toNat_ofNat]
  omega

/-- A deadline behind the present time by half a wrap at most has passed (log 10). -/
theorem deadlinePassed_behind (now : Time) {ticks : Nat} (h1 : 1 ≤ ticks) (h : ticks ≤ 2147483648) :
    deadlinePassed now (now - BitVec.ofNat 32 ticks) = true := by
  rw [deadlinePassed_iff, sub_sub_cancel_left, BitVec.toNat_add, BitVec.toNat_neg, BitVec.toNat_ofNat,
    BitVec.toNat_ofNat]
  omega

theorem State.expired_eq {s : State} {l : LaneId} {k : CyclicClaim} (hr : s.resetting = none)
    (hk : (s.lane l).claims.find? (fun c => c.isAt k.timer k.position) = some (.cyclic k)) :
    s.expired l k.timer k.position = if deadlinePassed s.time k.deadline then some k else none := by
  simp [State.expired, hr, hk]

/-- Settles O49: the waiting claim of a position by its deadline, and the two sides of the present time. -/
theorem claimExpiryRemovesLateClaim : Obligations.ClaimExpiryRemovesLateClaim := by
  refine ⟨fun s l k hr hk => ⟨fun hd => ?_, fun hd => ?_⟩, fun now ticks =>
    ⟨deadlinePassed_ahead now, deadlinePassed_behind now⟩⟩
  · change execClaimExpiry l k.timer k.position s = _
    rw [execClaimExpiry, State.expired_eq hr hk, if_pos hd]
  · change execClaimExpiry l k.timer k.position s = _
    rw [execClaimExpiry, State.expired_eq hr hk, if_neg (Bool.eq_false_iff.mp hd)]

/-! ### The end of a transaction (R74 to R77, R137) -/

theorem Outcome.isRetriable_iff {o : Outcome} :
    o.isRetriable = true ↔ o = .noResponse ∨ o = .check ∨ o = .short ∨ o = .echo := by
  simp [Outcome.isRetriable, or_assoc]

theorem Attempt.sent_eq (a : Attempt) : a.sent = if a = .first then 1 else 2 := by
  cases a <;> rfl

/-- An acyclic retry claim stands behind the cyclic claims and before the other acyclic ones (R67, R77). -/
theorem insertAcyclicRetry_eq (c : Claim) (claims : List Claim) :
    insertAcyclicRetry c claims = claims.takeWhile Claim.isCyclic ++ c :: claims.dropWhile Claim.isCyclic := by
  induction claims with
  | nil => rfl
  | cons d rest ih => cases hd : d.isCyclic <;> simp [insertAcyclicRetry, hd, ih]

section
variable {s : State} {l : LaneId} {f : InFlight} {o : Outcome}

/-- A cyclic claim that comes back: a first attempt that failed on the wire, of an entry with retry, no orphan and
within its deadline (R76). -/
theorem State.retryClaim_cyclic {k : CyclicClaim} {c : Claim} (hk : f.claim = .cyclic k) :
    s.retryClaim l f o = some c ↔
      (o.isRetriable = true ∧ (s.lane l).sleepPending = false ∧ k.attempt = .first ∧ f.orphan = false ∧
        deadlinePassed s.time k.deadline = false ∧ ∃ e, s.entry k.timer k.position = some e ∧ e.retry = true) ∧
      c = .cyclic { k with attempt := .retry o } := by
  unfold State.retryClaim
  rw [hk]
  dsimp only
  cases k.attempt with
  | retry wire => simp
  | first =>
    cases s.entry k.timer k.position with
    | none => simp
    | some e => simp [and_assoc, and_left_comm, eq_comm (a := c)]

/-- An acyclic claim that comes back: a first attempt that failed on the wire, of an entry with retry (R77). -/
theorem State.retryClaim_acyclic {tag : Half} {a : Attempt} {c : Claim} (ha : f.claim = .acyclic tag a) :
    s.retryClaim l f o = some c ↔
      (o.isRetriable = true ∧ (s.lane l).sleepPending = false ∧ a = .first ∧
        ∃ e, s.acyclicEntry tag = some e ∧ e.retry = true) ∧
      c = .acyclic tag (.retry o) := by
  unfold State.retryClaim
  rw [ha]
  dsimp only
  cases a with
  | retry wire => simp
  | first =>
    cases s.acyclicEntry tag with
    | none => simp
    | some e => simp [and_assoc, eq_comm (a := c)]

theorem State.endTransaction_retries {c : Claim} (d : List Byte) (hsleep : (s.lane l).sleepPending = false)
    (h : s.retryClaim l f o = some c) :
    s.endTransaction l f o d =
      (s.onLane l fun x => { x with mode := .ready, inFlight := none }).placeRetry l o c := by
  rw [State.endTransaction, h, State.clearFlight_of_awake hsleep]

theorem State.endTransaction_final (d : List Byte) (h : ∀ c, s.retryClaim l f o ≠ some c) :
    s.endTransaction l f o d = (s.clearFlight l).deliverFinal l f o d := by
  rw [State.endTransaction, Option.eq_none_iff_forall_ne_some.mpr h]

end

theorem State.placeRetry_acyclic (s : State) (l : LaneId) (o : Outcome) (tag : Half) (a : Attempt) :
    s.placeRetry l o (.acyclic tag a) =
      State.onAcyclic
        (s.onLane l fun x =>
          { x with
            claims := x.claims.takeWhile Claim.isCyclic ++ .acyclic tag a :: x.claims.dropWhile Claim.isCyclic })
        tag fun e => { e with inFlight := false, attempt := .retry o } := by
  simp only [State.placeRetry, insertAcyclicRetry_eq]

theorem State.deliverFinal_cyclic {s : State} {l : LaneId} {f : InFlight} {k : CyclicClaim} (o : Outcome)
    (d : List Byte) (hk : f.claim = .cyclic k) :
    s.deliverFinal l f o d =
      (s.deliverResult k o (if k.attempt = .first then 1 else 2) d).rosterOutcome l f.node o := by
  simp only [State.deliverFinal, hk, Attempt.sent_eq]

theorem State.deliverFinal_acyclic {s : State} {l : LaneId} {f : InFlight} {tag : Half} {a : Attempt} (o : Outcome)
    (d : List Byte) (ha : f.claim = .acyclic tag a) :
    s.deliverFinal l f o d =
      (State.notify { s with acyclic := s.acyclic.filter fun e => e.tag != tag }
        (.transactDone tag o (if a = .first then 1 else 2) (if o = .ok ∨ o = .nodeFault then d else []))).rosterOutcome
          l f.node o := by
  simp only [State.deliverFinal, ha, State.completeAcyclic, Attempt.sent_eq, Outcome.isGood_iff]

/-- Settles O53: the claim that comes back, cyclic or acyclic, and every other outcome as final. -/
theorem transactionEnds : Obligations.TransactionEnds := by
  intro s l f o d failed free base
  have hfailed : failed ↔ o.isRetriable = true := Outcome.isRetriable_iff.symm
  refine ⟨fun k hk => ⟨fun h => ?_, fun h => ?_⟩, fun tag a ha => ⟨fun h => ?_, fun h => ?_⟩⟩
  · rw [hfailed] at h
    exact State.endTransaction_retries d h.2.1 ((State.retryClaim_cyclic hk).mpr ⟨h, rfl⟩)
  · rw [hfailed] at h
    rw [State.endTransaction_final d fun c hc => h ((State.retryClaim_cyclic hk).mp hc).1]
    exact State.deliverFinal_cyclic o d hk
  · rw [hfailed] at h
    rw [State.endTransaction_retries d h.2.1 ((State.retryClaim_acyclic ha).mpr ⟨h, rfl⟩)]
    exact State.placeRetry_acyclic ..
  · rw [hfailed] at h
    rw [State.endTransaction_final d fun c hc => h ((State.retryClaim_acyclic ha).mp hc).1]
    exact State.deliverFinal_acyclic o d ha

end Sys2Proof.Machine
end

section
/-!
SUPPORT. SLEEP_LANE and WAKE_LANE by the state of the lane (R81 to R84). The request that is taken leaves its queue, and
no delivery reads the message controller.
-/

set_option Elab.async false

namespace Sys2Proof.Machine

/-! ### Deliveries once the request has left its queue -/

theorem State.notifyIf_taken (s : State) (b : Option NoteBody) : s.taken.notifyIf b = (s.notifyIf b).taken := by
  cases b <;> rfl

theorem State.rosterOutcome_taken (s : State) (l : LaneId) (node : Nat) (o : Outcome) :
    s.taken.rosterOutcome l node o = (s.rosterOutcome l node o).taken := by
  unfold State.rosterOutcome
  split
  · rfl
  · exact State.notifyIf_taken (s.setNode l node _) _

theorem State.deliverResult_taken (s : State) (k : CyclicClaim) (o : Outcome) (n : Nat) (d : List Byte) :
    s.taken.deliverResult k o n d = (s.deliverResult k o n d).taken := by
  have hfilling : s.taken.fillingFor k = s.fillingFor k := rfl
  unfold State.deliverResult
  rw [hfilling]
  cases s.fillingFor k <;> rfl

theorem State.deliverWaiting_taken (s : State) (l : LaneId) (o : Outcome) (c : Claim) :
    s.taken.deliverWaiting l o c = (s.deliverWaiting l o c).taken := by
  cases c with
  | cyclic k =>
    have hentry : s.taken.entry k.timer k.position = s.entry k.timer k.position := rfl
    simp only [State.deliverWaiting, hentry, State.deliverResult_taken]
    cases s.entry k.timer k.position with
    | none => rfl
    | some e => exact State.rosterOutcome_taken ..
  | acyclic tag a =>
    have hentry : s.taken.acyclicEntry tag = s.acyclicEntry tag := rfl
    simp only [State.deliverWaiting, hentry]
    cases s.acyclicEntry tag with
    | none => rfl
    | some e => exact State.rosterOutcome_taken (s.completeAcyclic tag o a.waited []) ..

/-! ### SLEEPING -/

theorem State.onLane_onLane (s : State) (l : LaneId) (f g : Lane → Lane) :
    (s.onLane l f).onLane l g = s.onLane l fun x => g (f x) := by
  simp only [State.onLane, Four.get_set_same, Four.set_set]

/-- Entry to SLEEPING: the list is emptied, then its claims are resolved one by one (R82). -/
theorem State.enterSleeping_eq (s : State) (l : LaneId) :
    s.enterSleeping l =
      (s.lane l).claims.foldl (fun u c => u.deliverWaiting l .asleep c)
        (s.onLane l fun y =>
          { y with mode := .sleeping, sleepPending := false, sleep := some .waiting, claims := [] }) := by
  rw [State.enterSleeping, State.resolveAll, State.deliverAll, State.onLane_onLane, State.onLane_lane_same]

theorem State.deliverAll_taken (s : State) (l : LaneId) (o : Outcome) (cs : List Claim) :
    s.taken.deliverAll l o cs = (s.deliverAll l o cs).taken :=
  List.foldl_hom State.taken fun u c => u.deliverWaiting_taken l o c

theorem State.resolveAll_taken (s : State) (l : LaneId) (o : Outcome) :
    s.taken.resolveAll l o = (s.resolveAll l o).taken :=
  State.deliverAll_taken (s.onLane l fun x => { x with claims := [] }) l o (s.lane l).claims

theorem State.enterSleeping_taken (s : State) (l : LaneId) : s.taken.enterSleeping l = (s.enterSleeping l).taken :=
  State.resolveAll_taken
    (s.onLane l fun x => { x with mode := .sleeping, sleepPending := false, sleep := some .waiting }) l .asleep

/-! ### The rows -/

theorem execSleepLane_answers {s u : State} {seq : Byte} {l : LaneId} {code : ReplyCode}
    (hr : s.ready (requestOf seq 0x04 [laneCode l]) = true) (h : s.taken.sleepLane l = (u.taken, .plain code)) :
    exec (.sleepLane seq [laneCode l]) s = .next (u.replied (requestOf seq 0x04 [laneCode l]) code []) := by
  have hown : ownSleepLane [laneCode l] s.taken = s.taken.sleepLane l := by cases l <;> rfl
  exact congrArg Host.Outcome.next (State.serve_replied hr (hown.trans h))

theorem execWakeLane_answers {s u : State} {seq : Byte} {l : LaneId} {code : ReplyCode}
    (hr : s.ready (requestOf seq 0x05 [laneCode l]) = true) (h : s.taken.wakeLane l = (u.taken, .plain code)) :
    exec (.wakeLane seq [laneCode l]) s = .next (u.replied (requestOf seq 0x05 [laneCode l]) code []) := by
  have hown : ownWakeLane [laneCode l] s.taken = s.taken.wakeLane l := by cases l <;> rfl
  exact congrArg Host.Outcome.next (State.serve_replied hr (hown.trans h))

/-- Settles O47: the seven states of a lane, for each of the two requests. -/
theorem sleepAndWakeByState : Obligations.SleepAndWakeByState := by
  intro s seq l x rqs rqw slept woken
  have hmode : ∀ {m}, x.mode = m → (s.taken.lane l).mode = m := id
  refine ⟨fun hr => ⟨fun hm => ?_, fun hm => ?_, fun hm => ?_, fun hm => ?_, fun hm => ?_⟩,
    fun hr => ⟨fun hm => ?_, fun hm => ?_, fun hm => ?_, fun hm => ?_⟩⟩
  · refine execSleepLane_answers hr ?_
    rw [State.sleepLane, hmode hm, ← State.enterSleeping_eq, ← State.enterSleeping_taken]
  · refine execSleepLane_answers hr ?_
    rw [State.sleepLane, hmode hm]; rfl
  · refine execSleepLane_answers (u := s) hr ?_
    obtain hm | hm := hm <;> rw [State.sleepLane, hmode hm] <;> rfl
  · refine execSleepLane_answers (u := s) hr ?_
    rw [State.sleepLane, hmode hm]; rfl
  · refine execSleepLane_answers (u := s) hr ?_
    obtain hm | hm := hm <;> rw [State.sleepLane, hmode hm] <;> rfl
  · refine execWakeLane_answers hr ?_
    rw [State.wakeLane, hmode hm]; rfl
  · refine execWakeLane_answers hr ?_
    obtain hm | ⟨hm, hp⟩ := hm
    · rw [State.wakeLane, hmode hm]; rfl
    · rw [State.wakeLane, hmode hm]
      exact if_pos hp
  · refine execWakeLane_answers (u := s) hr ?_
    obtain ⟨hm, hp⟩ | hm | hm := hm
    · rw [State.wakeLane, hmode hm]
      exact if_neg (Bool.eq_false_iff.mp hp)
    all_goals rw [State.wakeLane, hmode hm]; rfl
  · refine execWakeLane_answers (u := s) hr ?_
    obtain hm | hm := hm <;> rw [State.wakeLane, hmode hm] <;> rfl

end Sys2Proof.Machine
end

section
/-!
SUPPORT. The node roster: READ_NODE and FORGET_NODE (R95, R96), and what each outcome makes of a node record and queues
(R88 to R92, R97).
-/

set_option Elab.async false

namespace Sys2Proof.Machine

/-! ### READ_NODE and FORGET_NODE -/

/-- A lane and a node in range are read back from their payload (R95, R96). -/
theorem parseNode_of {l : LaneId} {node : Nat} (h1 : 1 ≤ node) (h15 : node ≤ 15) :
    parseNode [laneCode l, BitVec.ofNat 8 node] = some (l, node) := by
  have b0 : laneOf (byteAt [laneCode l, BitVec.ofNat 8 node] 0) = some l := laneOf_laneCode l
  have b1 : byteAt [laneCode l, BitVec.ofNat 8 node] 1 = node := toNat_ofNat_byte (by omega)
  simp only [parseNode, b0, b1]
  exact if_pos ⟨h1, h15⟩

theorem ownReadNode_of {l : LaneId} {node : Nat} (h1 : 1 ≤ node) (h15 : node ≤ 15) (s : State) :
    ownReadNode [laneCode l, BitVec.ofNat 8 node] s = (s, nodeAnswer (s.node l node) (s.lane l).config) := by
  rw [ownReadNode, parseNode_of h1 h15]
  rfl

theorem ownForgetNode_of {l : LaneId} {node : Nat} (h1 : 1 ≤ node) (h15 : node ≤ 15) (s : State) :
    ownForgetNode [laneCode l, BitVec.ofNat 8 node] s = (s.setNode l node .reset, .plain .ok) := by
  rw [ownForgetNode, parseNode_of h1 h15]
  rfl

/-- The fields of a READ_NODE reply, each optional one sent, or else the value that stands for its absence (R169). -/
theorem nodeAnswer_eq (r : NodeRecord) (c : LaneConfig) :
    nodeAnswer r c =
      { code := .ok
        fields :=
          [r.mode.code, BitVec.ofNat 8 r.missCount, (match r.countdown with | some k => BitVec.ofNat 8 k | none => 0),
            (match r.lastOutcome with | some o => o.code | none => 0xFF),
            (match r.lastSeen with | some _ => 1 | none => 0)] ++
          (match r.lastSeen with | some time => bytes4 time.toNat | none => [0, 0, 0, 0]) ++
          [BitVec.ofNat 8 c.missLimit, BitVec.ofNat 8 c.probeInterval] } := by
  have hnever : bytes4 (0 : Time).toNat = [0, 0, 0, 0] := rfl
  obtain ⟨mode, missCount, countdown, lastOutcome, lastSeen⟩ := r
  have hcountdown : BitVec.ofNat 8 (countdown.getD 0) =
      match countdown with | some k => BitVec.ofNat 8 k | none => 0 := by
    cases countdown <;> rfl
  have houtcome : (lastOutcome.map Outcome.code).getD 0xFF =
      match lastOutcome with | some o => o.code | none => 0xFF := by
    cases lastOutcome <;> rfl
  rw [nodeAnswer, hcountdown, houtcome]
  cases lastSeen with
  | none => rw [Option.getD_none, hnever]; rfl
  | some time => rfl

theorem fieldOutside_node {kind : Kind} {lane node : Byte} (hk : kind = 0x1A ∨ kind = 0x1B)
    (h : 3 < lane.toNat ∨ node.toNat = 0 ∨ 15 < node.toNat) : fieldOutside kind [lane, node] = true := by
  obtain rfl | rfl := hk <;> exact decide_eq_true h

/-- Settles O43: the payload in range is read back, and a lane or an address out of range is malformed. -/
theorem readAndForgetNode : Obligations.ReadAndForgetNode := by
  refine ⟨fun s seq l node h1 h15 => ⟨fun hr => ?read, fun hr => ?forget⟩,
    fun s seq lane node hout => ⟨fun hr => ?readRefused, fun hr => ?forgetRefused⟩⟩
  case read =>
    refine congrArg Host.Outcome.next (State.serve_replied hr ?_)
    rw [ownReadNode_of h1 h15, nodeAnswer_eq]
    rfl
  case forget =>
    exact congrArg Host.Outcome.next (State.serve_replied hr (ownForgetNode_of h1 h15 _))
  case readRefused =>
    exact State.serve_badArg hr (ownReadNode_malformed _ (.inr (.inr (fieldOutside_node (.inl rfl) hout))))
  case forgetRefused =>
    exact State.serve_badArg hr (ownForgetNode_malformed _ (.inr (.inr (fieldOutside_node (.inr rfl) hout))))

/-! ### Outcomes on a record (R89 to R92) -/

theorem Outcome.isMiss_iff {o : Outcome} : o.isMiss = true ↔ o = .noResponse ∨ o = .check ∨ o = .short := by
  cases o <;> simp [Outcome.isMiss]

theorem Outcome.isGood_false_of_isMiss {o : Outcome} (h : o.isMiss = true) : o.isGood = false := by
  obtain rfl | rfl | rfl := Outcome.isMiss_iff.mp h <;> rfl

section
variable {r : NodeRecord} {o : Outcome} {c : LaneConfig} {now : Time}

theorem NodeRecord.apply_good (h : o.isGood = true) : r.apply o c now = r.seen o now := if_pos h

theorem NodeRecord.apply_miss (h : o.isMiss = true) (hm : r.mode ≠ .silent) : r.apply o c now = r.missed o c := by
  rw [NodeRecord.apply, Outcome.isGood_false_of_isMiss h, h]
  simp [hm]

/-- An outcome that is neither good nor counted as a miss is only recorded (R91, R92). -/
theorem NodeRecord.apply_recorded (hg : o.isGood = false) (h : o.isMiss = false ∨ r.mode = .silent) :
    r.apply o c now = { r with lastOutcome := some o } := by
  rw [NodeRecord.apply, hg]
  obtain h | h := h <;> simp [h]

theorem NodeRecord.missed_below (h : r.missCount + 1 < c.missLimit) :
    r.missed o c = { r with missCount := r.missCount + 1, lastOutcome := some o } := if_pos h

theorem NodeRecord.missed_at_limit (h : c.missLimit ≤ r.missCount + 1) :
    r.missed o c =
      { r with mode := .silent, missCount := 0, countdown := some c.probeInterval, lastOutcome := some o } :=
  if_neg (by omega)

end

/-! ### What an outcome queues (R97) -/

section
variable {l : LaneId} {node : Nat} {before after : NodeRecord}

theorem nodeNote_back (hb : before.mode = .silent) (ha : after.mode = .online) :
    nodeNote l node before after = some (.nodeBack l node) := by
  rw [nodeNote, hb, ha]

theorem nodeNote_silent (hb : before.mode ≠ .silent) (ha : after.mode = .silent) :
    nodeNote l node before after = some (.nodeSilent l node) := by
  rw [nodeNote, ha]
  cases hm : before.mode with
  | absent | online => rfl
  | silent => exact absurd hm hb

theorem nodeNote_online (hb : before.mode ≠ .silent) (ha : after.mode = .online) :
    nodeNote l node before after = none := by
  rw [nodeNote, ha]
  cases hm : before.mode with
  | absent | online => rfl
  | silent => exact absurd hm hb

theorem nodeNote_same (h : after.mode = before.mode) : nodeNote l node before after = none := by
  rw [nodeNote, h]
  cases before.mode <;> rfl

end

/-! ### Outcomes in the roster -/

section
variable {s : State} {l : LaneId} {node : Nat} {o : Outcome} {r : NodeRecord}

/-- An outcome changes one record and hands over what that change causes (R88, R97). -/
theorem State.rosterOutcome_eq {note : Option NoteBody} (hnode : 1 ≤ node)
    (hr : (s.node l node).apply o (s.lane l).config s.time = r) (hn : nodeNote l node (s.node l node) r = note) :
    s.rosterOutcome l node o = (s.setNode l node r).notifyIf note := by
  subst hr hn
  exact if_neg (by omega)

theorem State.rosterOutcome_broadcast (s : State) (l : LaneId) (o : Outcome) : s.rosterOutcome l 0 o = s := if_pos rfl

end

/-- Settles O44: the record by `NodeRecord.apply`, and the notification by the modes before and after. -/
theorem outcomesChangeNodeRecord : Obligations.OutcomesChangeNodeRecord := by
  intro s l o
  refine ⟨s.rosterOutcome_broadcast l o, fun node h1 _ => ?_⟩
  intro r c set good miss
  refine ⟨fun hg => ⟨fun hm => ?back, fun hm => ?seen⟩, fun ho hm => ⟨fun hlt => ?counted, fun hle => ?silent⟩,
    fun h => ?recorded⟩
  case back =>
    exact State.rosterOutcome_eq h1 (NodeRecord.apply_good (Outcome.isGood_iff.mpr hg)) (nodeNote_back hm rfl)
  case seen =>
    exact State.rosterOutcome_eq h1 (NodeRecord.apply_good (Outcome.isGood_iff.mpr hg)) (nodeNote_online hm rfl)
  case counted =>
    exact State.rosterOutcome_eq h1
      ((NodeRecord.apply_miss (Outcome.isMiss_iff.mpr ho) hm).trans (NodeRecord.missed_below hlt)) (nodeNote_same rfl)
  case silent =>
    exact State.rosterOutcome_eq h1
      ((NodeRecord.apply_miss (Outcome.isMiss_iff.mpr ho) hm).trans (NodeRecord.missed_at_limit hle))
      (nodeNote_silent hm rfl)
  case recorded =>
    have hrecorded : o.isGood = false ∧ (o.isMiss = false ∨ r.mode = .silent) := by
      obtain ⟨ho, hm⟩ | ⟨hg, ho⟩ := h
      · exact ⟨Outcome.isGood_false_of_isMiss (Outcome.isMiss_iff.mpr ho), .inr hm⟩
      · exact ⟨Bool.eq_false_iff.mpr (hg ∘ Outcome.isGood_iff.mp),
          .inl (Bool.eq_false_iff.mpr (ho ∘ Outcome.isMiss_iff.mp))⟩
    obtain ⟨hg, hcount⟩ := hrecorded
    exact State.rosterOutcome_eq h1 (NodeRecord.apply_recorded hg hcount) (nodeNote_same rfl)

end Sys2Proof.Machine
end

section
/-!
SUPPORT. What is written to the result store and the output store (R98, R99, R118): every command but FRAME_CLOSE, HOLD,
RELEASE and those of a reset writes FREE and FILLING buffers alone and images in their canonical form (`exec_fills`).
-/

set_option Elab.async false

namespace Sys2Proof.Machine

/-! ### Images in canonical form (log 24) -/

/-- The three images of a timer's output store are in canonical form. -/
def Outputs.Canonical (o : Outputs) : Prop := o.staged.wf = true ∧ o.active.wf = true ∧ o.fallback.wf = true

/-- The images of a timer's result buffers are in canonical form. -/
def Three.Canonical (bs : Three Buffer) : Prop := ∀ b, (bs.get b).image.wf = true

theorem State.imagesOk_iff {s : State} : s.ImagesOk ↔ ∀ i, (s.output i).Canonical ∧ (s.buffers i).Canonical :=
  forall_congr' fun _ => ⟨fun ⟨h1, h2, h3, h4⟩ => ⟨⟨h1, h2, h3⟩, h4⟩, fun ⟨⟨h1, h2, h3⟩, h4⟩ => ⟨h1, h2, h3, h4⟩⟩

/-- The staged image becomes the active image (R121, R122). -/
theorem Outputs.Canonical.publish {o : Outputs} (h : o.Canonical) : Outputs.Canonical { o with active := o.staged } :=
  have ⟨hstaged, _, hfallback⟩ := h
  ⟨hstaged, hstaged, hfallback⟩

/-- Bytes are written into the staged image (R119). -/
theorem Outputs.Canonical.writeStaged (a : Nat) (d : List Byte) {o : Outputs} (h : o.Canonical) :
    Outputs.Canonical { o with staged := o.staged.writeBytes a d } :=
  have ⟨hstaged, hrest⟩ := h
  ⟨Memory.writeBytes_wf a d hstaged, hrest⟩

/-- Bytes are written into the fallback image, which is then armed (R120). -/
theorem Outputs.Canonical.writeFallback (a : Nat) (d : List Byte) {o : Outputs} (h : o.Canonical) :
    Outputs.Canonical { o with fallback := o.fallback.writeBytes a d, armed := true } :=
  have ⟨hstaged, hactive, hfallback⟩ := h
  ⟨hstaged, hactive, Memory.writeBytes_wf a d hfallback⟩

/-- The fallback image, where it is armed, becomes the active image (R128). -/
theorem Outputs.Canonical.fallBack {o : Outputs} (h : o.Canonical) : o.fallBack.Canonical := by
  obtain ⟨hstaged, hactive, hfallback⟩ := h
  unfold Outputs.fallBack
  split
  · exact ⟨hstaged, hfallback, hfallback⟩
  · exact ⟨hstaged, hactive, hfallback⟩

/-- A delivery writes response bytes at most (R104). -/
theorem Buffer.deliver_image_wf {b : Buffer} (h : b.image.wf = true) (e : Option ScanEntry) (position : Nat)
    (o : Outcome) (n : Nat) (d : List Byte) : (b.deliver e position o n d).image.wf = true := by
  unfold Buffer.deliver
  dsimp only
  split
  · split
    · exact Memory.writeBytes_wf _ _ h
    · exact h
  · exact h

/-! ### Changes of FREE and FILLING buffers -/

/-- READY and HELD buffers stay as they are, and the images in canonical form. -/
structure Three.Fills (bs cs : Three Buffer) : Prop where
  closed : ∀ b, (bs.get b).mode = .ready ∨ (bs.get b).mode = .held → cs.get b = bs.get b
  images : bs.Canonical → cs.Canonical

theorem Three.Fills.refl (bs : Three Buffer) : bs.Fills bs := ⟨fun _ _ => rfl, id⟩

theorem Three.Fills.trans {bs cs ds : Three Buffer} (h : bs.Fills cs) (k : cs.Fills ds) : bs.Fills ds where
  closed b hb := by
    have hcs := h.closed b hb
    rw [k.closed b (by rw [hcs]; exact hb), hcs]
  images := k.images ∘ h.images

theorem Three.Canonical.set {bs : Three Buffer} (h : bs.Canonical) {v : Buffer} (hv : v.image.wf = true) (b : BufId) :
    (bs.set b v).Canonical := fun c => by
  rw [Three.get_set]
  split
  · exact hv
  · exact h c

theorem Three.Fills.set {bs : Three Buffer} {b : BufId} {v : Buffer}
    (hb : (bs.get b).mode = .free ∨ (bs.get b).mode = .filling) (hv : bs.Canonical → v.image.wf = true) :
    bs.Fills (bs.set b v) where
  closed c hc := Three.get_set_other _ _ fun hcb => by
    subst hcb
    rcases hb with hb | hb <;> simp [hb] at hc
  images h := h.set (hv h) b

theorem Three.Fills.onFilling (bs : Three Buffer) {f : Buffer → Buffer} (hf : ∀ b, (f b).image = b.image) :
    bs.Fills (bs.onFilling f) := by
  unfold Three.onFilling
  split
  · next b hb => exact .set (.inr (Three.find_some hb)) fun h => by rw [hf]; exact h b
  · exact .refl bs

theorem Three.Fills.prepareFirst {bs cs : Three Buffer} {run : Half} (h : bs.prepareFirst run = some cs) :
    bs.Fills cs := by
  unfold Three.prepareFirst at h
  split at h
  · next b hb => cases h; exact .set (.inl (Three.find_some hb)) fun _ => rfl
  · cases h

theorem Three.Fills.prepare {bs cs : Three Buffer} {run : Half} {frame : Time} (h : bs.prepare run frame = some cs) :
    bs.Fills cs := by
  unfold Three.prepare at h
  split at h
  · next f r hf _ => cases h; exact .set (.inl (Three.find_some hf)) fun hbs => hbs r
  · cases h

/-- A change of the stores that leaves READY and HELD buffers alone and keeps images in canonical form. -/
structure State.Fills (s t : State) : Prop where
  buffers : ∀ i, (s.buffers i).Fills (t.buffers i)
  outputs : ∀ i, (s.output i).Canonical → (t.output i).Canonical

theorem State.Fills.trans {s t u : State} (h : s.Fills t) (k : t.Fills u) : s.Fills u :=
  ⟨fun i => (h.buffers i).trans (k.buffers i), fun i => k.outputs i ∘ h.outputs i⟩

theorem State.Fills.of_same {s t : State} (hresults : t.results = s.results := by simp)
    (houtputs : t.outputs = s.outputs := by simp) : s.Fills t where
  buffers i := by simp only [State.buffers, hresults]; exact .refl _
  outputs i := by simp only [State.output, houtputs]; exact id

theorem State.Fills.refl (s : State) : s.Fills s := .of_same

theorem State.Fills.onBuffers {s : State} {i : TimerId} {f : Three Buffer → Three Buffer}
    (h : (s.buffers i).Fills (f (s.buffers i))) : s.Fills (s.onBuffers i f) where
  buffers j := by
    rw [State.onBuffers_buffers]
    split
    · next hj => subst hj; exact h
    · exact .refl _
  outputs _ := id

/-- A change of the FILLING buffer, if there is one, that leaves its image. -/
theorem State.Fills.onFilling {s : State} {i : TimerId} {f : Buffer → Buffer}
    (hf : ∀ b, (f b).image = b.image := by exact fun _ => rfl) : s.Fills (s.onBuffers i fun bs => bs.onFilling f) :=
  .onBuffers (.onFilling _ hf)

theorem State.Fills.onOutputs {s : State} {i : TimerId} {f : Outputs → Outputs}
    (h : (s.output i).Canonical → (f (s.output i)).Canonical) : s.Fills (s.onOutputs i f) where
  buffers _ := .refl _
  outputs j := by
    rw [State.onOutputs_output]
    split
    · next hj => subst hj; exact h
    · exact id

/-- What every single step of a fold is, the fold is. -/
theorem State.Fills.foldl {α : Type} {f : State → α → State} (h : ∀ (s : State) a, s.Fills (f s a)) (xs : List α)
    (s : State) : s.Fills (xs.foldl f s) :=
  List.foldlRecOn (motive := s.Fills) xs f (.refl s) fun u hu a _ => hu.trans (h u a)

theorem State.Fills.imagesOk {s t : State} (h : s.Fills t) (hs : s.ImagesOk) : t.ImagesOk :=
  State.imagesOk_iff.mpr fun i =>
    have ⟨ho, hb⟩ := State.imagesOk_iff.mp hs i
    ⟨h.outputs i ho, (h.buffers i).images hb⟩

/-! ### The delivery of outcomes -/

theorem State.deliverResult_fills (s : State) (c : CyclicClaim) (o : Outcome) (n : Nat) (d : List Byte) :
    s.Fills (s.deliverResult c o n d) := by
  unfold State.deliverResult
  split
  · next b hb =>
    exact .onBuffers (.set (.inr (Three.find_some (State.fillingFor_find hb))) fun h =>
      Buffer.deliver_image_wf (h b) ..)
  · exact .refl s

theorem State.recordOverrun_fills (s : State) (c : CyclicClaim) : s.Fills (s.recordOverrun c) := by
  unfold State.recordOverrun
  split
  · next b hb => exact .onBuffers (.set (.inr (Three.find_some (State.fillingFor_find hb))) fun h => h b)
  · exact .refl s

theorem State.deliverWaiting_fills (s : State) (l : LaneId) (o : Outcome) (c : Claim) :
    s.Fills (s.deliverWaiting l o c) := by
  cases c with
  | cyclic k =>
    exact (s.deliverResult_fills k o k.attempt.waited []).trans (.of_same (s.deliverWaiting_cyclic_results l o k))
  | acyclic tag a =>
    simp only [State.deliverWaiting]
    split
    · exact .of_same
    · exact .refl s

theorem State.deliverAll_fills (s : State) (l : LaneId) (o : Outcome) (cs : List Claim) :
    s.Fills (s.deliverAll l o cs) := .foldl (fun u c => u.deliverWaiting_fills l o c) cs s

theorem State.deliverFinal_fills (s : State) (l : LaneId) (f : InFlight) (o : Outcome) (d : List Byte) :
    s.Fills (s.deliverFinal l f o d) := by
  unfold State.deliverFinal
  split
  · next k _ => exact (s.deliverResult_fills k o k.attempt.sent d).trans .of_same
  · exact .of_same

theorem State.resolveAll_fills (s : State) (l : LaneId) (o : Outcome) : s.Fills (s.resolveAll l o) :=
  .trans (t := s.onLane l fun x => { x with claims := [] }) .of_same (State.deliverAll_fills ..)

theorem State.enterSleeping_fills (s : State) (l : LaneId) : s.Fills (s.enterSleeping l) :=
  .trans .of_same (State.resolveAll_fills ..)

theorem State.clearFlight_fills (s : State) (l : LaneId) : s.Fills (s.clearFlight l) := by
  unfold State.clearFlight
  dsimp only
  split
  · exact .trans .of_same (State.enterSleeping_fills ..)
  · exact .of_same

theorem State.endTransaction_fills (s : State) (l : LaneId) (f : InFlight) (o : Outcome) (d : List Byte) :
    s.Fills (s.endTransaction l f o d) := by
  unfold State.endTransaction
  split
  · exact (s.clearFlight_fills l).trans .of_same
  · exact (s.clearFlight_fills l).trans (State.deliverFinal_fills ..)

/-! ### Posting -/

theorem State.post_fills (s : State) (e : ScanEntry) (c : CyclicClaim) : s.Fills (s.post e c) := by
  obtain ⟨-, h⟩ | ⟨-, o, -, h⟩ | h := s.post_cases e c
  · exact .of_same h
  · exact (s.deliverResult_fills c o c.attempt.waited []).trans (.of_same h)
  · rw [h]; exact .refl s

theorem State.postAll_fills (s : State) (i : TimerId) : s.Fills (s.postAll i) :=
  s.postAll_keeps (.refl s) (fun u _ e _ _ _ hu => hu.trans (u.post_fills e _)) fun _ _ hu => hu.trans .of_same

/-! ### Frames -/

theorem State.applyPublish_fills (s : State) (i : TimerId) : s.Fills (s.applyPublish i) := by
  unfold State.applyPublish
  split
  · exact .trans (t := s.onOutputs i fun o => { o with active := o.staged }) (.onOutputs .publish) .of_same
  · exact .refl s

theorem State.startCommit_fills (s : State) (i : TimerId) : s.Fills (s.startCommit i) := by
  unfold State.startCommit
  split
  · have hcommit : s.Fills ((s.onTables i Tables.apply).onTimer i fun x => { x with pendingCommit := false }) :=
      .of_same
    exact (hcommit.trans (.onFilling (i := i) (f := fun b => b.recommit (s.table i).staged))).trans .of_same
  · exact .refl s

theorem State.frameStart_fills (s : State) (i : TimerId) : s.Fills (s.frameStart i) :=
  have hpending := (s.startCommit_fills i).trans (State.applyPublish_fills _ i)
  .trans (t := ((s.startCommit i).applyPublish i).markPositions i) (hpending.trans .onFilling)
    (.of_same rfl rfl)

theorem State.openNext_fills (s : State) (i : TimerId) : s.Fills (s.openNext i) :=
  .trans (t := s.onTimer i fun x => { x with frame := x.frame + 1 }) .of_same
    ((State.frameStart_fills _ i).trans (State.postAll_fills _ i))

theorem State.openFirst_fills {s t : State} {i : TimerId} (h : s.openFirst i = some t) : s.Fills t := by
  unfold State.openFirst at h
  rw [Option.map_eq_some_iff] at h
  obtain ⟨u, hu, rfl⟩ := h
  obtain ⟨bs, hbs, rfl⟩ := State.firstFrame_some hu
  exact .trans (.onBuffers (.prepareFirst hbs)) ((State.frameStart_fills _ i).trans (State.postAll_fills _ i))

theorem State.stopped_fills (s : State) (i : TimerId) : s.Fills (s.stopped i) where
  buffers _ := .refl _
  outputs j h := by
    unfold State.output State.stopped
    dsimp only
    split
    · rw [Two.get_set]
      split
      · next hj => subst hj; exact h.publish
      · exact h
    · exact h

theorem State.freeFilling_fills (s : State) (i : TimerId) : s.Fills (s.onBuffers i Three.freeFilling) :=
  .onFilling

theorem State.stopWaiting_fills (s : State) (i : TimerId) : s.Fills (s.stopWaiting i) := by
  rw [State.stopWaiting_eq_stopped]
  exact (s.freeFilling_fills i).trans (State.stopped_fills _ i)

theorem State.stopRunning_fills (s : State) (i : TimerId) : s.Fills (s.stopRunning i) := by
  rw [State.stopRunning_eq_stopped]
  exact (s.freeFilling_fills i).trans (.trans .of_same (State.stopped_fills _ i))

theorem State.stopAtEnd_fills (s : State) (i : TimerId) : s.Fills (s.stopAtEnd i) := by
  unfold State.stopAtEnd
  split
  · exact .of_same
  · exact .refl s
  · exact .of_same rfl rfl
  · exact s.stopWaiting_fills i
  · exact .refl s

theorem State.stopAtOnce_fills (s : State) (i : TimerId) : s.Fills (s.stopAtOnce i) := by
  unfold State.stopAtOnce
  split
  · exact s.stopRunning_fills i
  · exact s.stopRunning_fills i
  · exact .of_same rfl rfl
  · exact s.stopWaiting_fills i
  · exact .refl s

theorem State.commitNow_fills (s : State) (i : TimerId) : s.Fills (s.commitNow i) := by
  unfold State.commitNow
  split
  · exact .trans (t := s.onTables i Tables.apply) .of_same .onFilling
  · exact .of_same

theorem State.withdrawLate_fills (s : State) (i : TimerId) (r : Half) (n : Time) (l : LaneId) :
    s.Fills (s.withdrawLate i r n l) :=
  .trans (t := s.onLane l fun x => { x with claims := x.claims.filter fun c => !c.isOfFrame i r n }) .of_same
    (State.deliverAll_fills ..)

theorem State.overrun_fills (s : State) (i : TimerId) (r : Half) (n : Time) (l : LaneId) :
    s.Fills (s.overrun i r n l) := by
  unfold State.overrun
  split
  · split
    · split
      · next k _ _ => exact (s.recordOverrun_fills k).trans .of_same
      · exact .refl s
    · exact .refl s
  · exact .refl s

theorem State.endFrame_fills (s : State) (i : TimerId) : s.Fills (s.endFrame i) := by
  unfold State.endFrame
  dsimp only
  exact .trans (.foldl (fun u l => u.withdrawLate_fills ..) _ _) (.foldl (fun u l => u.overrun_fills ..) _ _)

/-! ### The owners of the requests -/

theorem State.take_fills {s : State} {rq : Request} {run : State → State} (h : ∀ u : State, u.Fills (run u)) :
    s.Fills (s.take rq run) := by
  obtain ht | ⟨u, hu, ⟨k, -, hk⟩ | hr⟩ := s.take_cases rq run
  · rw [ht]; exact .refl s
  · obtain ⟨-, -, -, rest, rfl, -⟩ := State.accept_some hu
    rw [hk]
    exact .of_same
  · obtain ⟨-, -, -, rest, rfl, -⟩ := State.accept_some hu
    rw [hr]
    exact .trans .of_same (h _)

theorem State.serve_fills {s : State} {seq kind : Byte} {p : List Byte} {owner : State → State × Answer}
    (h : ∀ u : State, u.Fills (owner u).1) : s.Fills (s.serve seq kind p owner) :=
  State.take_fills fun u => (h u).trans .of_same

theorem ownConfigureLane_fills (p : List Byte) (s : State) : s.Fills (ownConfigureLane p s).1 := by
  unfold ownConfigureLane State.tryConfigureLane
  repeat' split
  all_goals exact .of_same rfl rfl

theorem ownSleepLane_fills (p : List Byte) (s : State) : s.Fills (ownSleepLane p s).1 := by
  unfold ownSleepLane State.sleepLane
  split
  · split
    · split
      · exact s.enterSleeping_fills _
      all_goals exact .of_same rfl rfl
    · exact .refl s
  · exact .refl s

theorem ownWakeLane_fills (p : List Byte) (s : State) : s.Fills (ownWakeLane p s).1 := by
  unfold ownWakeLane State.wakeLane
  repeat' split
  all_goals exact .of_same rfl rfl

theorem ownConfigureTimer_fills (p : List Byte) (s : State) : s.Fills (ownConfigureTimer p s).1 := by
  unfold ownConfigureTimer State.configureTimer
  repeat' split
  all_goals exact .of_same rfl rfl

theorem ownStart_fills (p : List Byte) (s : State) : s.Fills (ownStart p s).1 := by
  unfold ownStart State.startTimer
  repeat' split
  all_goals exact .of_same rfl rfl

theorem ownStop_fills {act : State → TimerId → State} (hact : ∀ (s : State) i, s.Fills (act s i)) (p : List Byte)
    (code : Nat) (s : State) : s.Fills (ownStop p code act s).1 := by
  unfold ownStop
  split
  · split
    · split
      · exact hact s _
      · exact .refl s
    · exact .refl s
  · exact .refl s

theorem ownStageEntry_fills (p : List Byte) (s : State) : s.Fills (ownStageEntry p s).1 := by
  unfold ownStageEntry State.stage
  dsimp only
  repeat' split
  all_goals exact .of_same rfl rfl

theorem ownClearStaged_fills (p : List Byte) (s : State) : s.Fills (ownClearStaged p s).1 := by
  unfold ownClearStaged
  repeat' split
  all_goals exact .of_same rfl rfl

theorem ownCommit_fills (p : List Byte) (s : State) : s.Fills (ownCommit p s).1 := by
  unfold ownCommit State.commitTable
  repeat' split
  case h_2.isFalse => exact s.commitNow_fills _
  all_goals exact .of_same rfl rfl

theorem ownWithdraw_fills (p : List Byte) (s : State) : s.Fills (ownWithdraw p s).1 := by
  unfold ownWithdraw
  repeat' split
  all_goals exact .of_same rfl rfl

theorem ownWriteOutput_fills (p : List Byte) (s : State) : s.Fills (ownWriteOutput p s).1 := by
  unfold ownWriteOutput
  split
  · dsimp only
    exact .onOutputs (.writeStaged _ _)
  · exact .refl s

theorem ownWriteFallback_fills (p : List Byte) (s : State) : s.Fills (ownWriteFallback p s).1 := by
  unfold ownWriteFallback
  split
  · dsimp only
    exact .onOutputs (.writeFallback _ _)
  · exact .refl s

theorem ownPublish_fills (p : List Byte) (s : State) : s.Fills (ownPublish p s).1 := by
  have hpublish (i : TimerId) : s.Fills ((s.onOutputs i fun o => { o with active := o.staged }).onTimer i fun x =>
      { x with pendingPublish := false }) :=
    .trans (t := s.onOutputs i fun o => { o with active := o.staged }) (.onOutputs .publish) .of_same
  unfold ownPublish State.publishImage
  repeat' split
  case isFalse.isFalse => exact hpublish _
  all_goals exact .of_same rfl rfl

theorem ownSetSupervision_fills (p : List Byte) (s : State) : s.Fills (ownSetSupervision p s).1 := by
  unfold ownSetSupervision State.superviseFor
  repeat' split
  all_goals exact .of_same rfl rfl

theorem ownResume_fills (p : List Byte) (s : State) : s.Fills (ownResume p s).1 := by
  unfold ownResume
  repeat' split
  all_goals exact .of_same rfl rfl

theorem ownTransact_fills (p : List Byte) (s : State) : s.Fills (ownTransact p s).1 := by
  unfold ownTransact
  repeat' split
  all_goals exact .of_same rfl rfl

theorem ownCancel_fills (p : List Byte) (s : State) : s.Fills (ownCancel p s).1 := by
  unfold ownCancel
  split
  · split
    · split
      · exact .refl s
      · exact .of_same
    · exact .refl s
  · exact .refl s

theorem ownForgetNode_fills (p : List Byte) (s : State) : s.Fills (ownForgetNode p s).1 := by
  unfold ownForgetNode
  repeat' split
  all_goals exact .of_same rfl rfl

theorem ownFetch_fills (p : List Byte) (s : State) : s.Fills (ownFetch p s).1 := by
  unfold ownFetch
  repeat' split
  all_goals exact .of_same rfl rfl

theorem execReset_fills {seq : Byte} {p : List Byte} {s t : State} (h : execReset seq p s = .next t) : s.Fills t := by
  unfold execReset at h
  cases h
  refine State.take_fills fun u => ?_
  dsimp only
  split <;> exact .of_same

/-! ### The host link -/

theorem State.nak_fills (s : State) (seq : Byte) (code : NakCode) : s.Fills (s.nak seq code) := by
  unfold State.nak
  split <;> exact .of_same

theorem State.hostActivity_fills (s : State) : s.Fills s.hostActivity := by
  unfold State.hostActivity
  split <;> exact .of_same

theorem State.judgeFrame_fills (s : State) (got : List Byte) (marked : Bool) : s.Fills (s.judgeFrame got marked) := by
  unfold State.judgeFrame
  dsimp only
  split
  · exact s.nak_fills ..
  · split
    · exact s.hostActivity_fills.trans .of_same
    · exact s.hostActivity_fills.trans (State.nak_fills ..)

theorem State.receiveByte_fills (s : State) (byte : Byte) (mark : Bool) : s.Fills (s.receiveByte byte mark) := by
  unfold State.receiveByte
  dsimp only
  repeat' split
  case h_3.isTrue => exact .trans .of_same (State.nak_fills ..)
  case h_6.isTrue => exact .trans .of_same (State.judgeFrame_fills ..)
  all_goals exact .of_same

/-! ### Timers and lanes -/

theorem execFirstFrameStart_fills {i : TimerId} {s t : State} (h : execFirstFrameStart i s = .next t) : s.Fills t := by
  unfold execFirstFrameStart at h
  split at h
  · exact State.openFirst_fills (bufferOrFault_next h)
  · cases h; exact .refl s

theorem execTrigEdge_fills {i : TimerId} {s t : State} (h : execTrigEdge i s = .next t) : s.Fills t := by
  unfold execTrigEdge at h
  split at h
  · cases h; exact .refl s
  · have ht := bufferOrFault_next h
    unfold State.trigger at ht
    split at ht
    · exact State.openFirst_fills ht
    · exact State.openFirst_fills ht
    · cases ht; exact s.openNext_fills i
    · cases ht; exact .of_same rfl rfl
    · cases ht; exact .of_same rfl rfl
    · cases ht; exact .refl s

theorem execClaimExpiry_fills {l : LaneId} {i : TimerId} {position : Nat} {s t : State}
    (h : execClaimExpiry l i position s = .next t) : s.Fills t := by
  unfold execClaimExpiry at h
  cases h
  split
  · exact .trans .of_same (State.deliverWaiting_fills ..)
  · exact .refl s

theorem State.failEcho_fills (s : State) (l : LaneId) : s.Fills (s.failEcho l) := by
  unfold State.failEcho
  split
  · exact s.endTransaction_fills ..
  · split <;> exact .of_same

theorem execResponseCharacterReceived_fills {l : LaneId} {byte : Byte} {mark : Bool} {s t : State}
    (h : execResponseCharacterReceived l byte mark s = .next t) : s.Fills t := by
  unfold execResponseCharacterReceived at h
  cases h
  repeat' split
  all_goals exact .of_same

theorem execResponseComplete_fills {l : LaneId} {byte : Byte} {mark : Bool} {s t : State}
    (h : execResponseComplete l byte mark s = .next t) : s.Fills t := by
  unfold execResponseComplete at h
  cases h
  split
  · split
    · exact s.endTransaction_fills ..
    · exact .refl s
  · exact .refl s

theorem execAcyclicTimeout_fills {tag : Half} {s t : State} (h : execAcyclicTimeout tag s = .next t) : s.Fills t := by
  unfold execAcyclicTimeout at h
  cases h
  repeat' split
  all_goals exact .of_same

theorem execSupervisionExpiry_fills {s t : State} (h : execSupervisionExpiry s = .next t) : s.Fills t := by
  unfold execSupervisionExpiry at h
  cases h
  split
  · exact ⟨fun _ => .refl _, fun i h => by cases i <;> exact h.fallBack⟩
  · exact .refl s

/-! ### Every command but those that move a closed buffer -/

/-- The commands that may change a READY or HELD buffer: FRAME_CLOSE, HOLD, RELEASE, and those that begin or end a
reset (R106, R111, R116, R165). -/
def movesClosed : Instr → Bool
  | .frameClose _ => true
  | .hold .. => true
  | .release .. => true
  | .powerOn _ => true
  | .rstPin _ => true
  | .replySent => true
  | .resetEnd => true
  | _ => false

theorem exec_fills {c : Instr} {s t : State} (hc : movesClosed c = false) (h : exec c s = .next t) : s.Fills t := by
  cases c
  case frameClose | hold | release | powerOn | rstPin | replySent | resetEnd => cases hc
  case query seq p => cases h; exact State.serve_fills fun u => by rw [(ownReads_same p u).1]; exact .refl u
  case reset => exact execReset_fills h
  case configureLane seq p => cases h; exact State.serve_fills (ownConfigureLane_fills p)
  case sleepLane seq p => cases h; exact State.serve_fills (ownSleepLane_fills p)
  case wakeLane seq p => cases h; exact State.serve_fills (ownWakeLane_fills p)
  case configureTimer seq p => cases h; exact State.serve_fills (ownConfigureTimer_fills p)
  case start seq p => cases h; exact State.serve_fills (ownStart_fills p)
  case stopEnd seq p =>
    cases h
    split
    · exact .refl s
    · exact State.serve_fills (ownStop_fills State.stopAtEnd_fills p 0)
  case stopNow seq p =>
    cases h
    split
    · exact .refl s
    · exact State.serve_fills (ownStop_fills State.stopAtOnce_fills p 1)
  case stageEntry seq p => cases h; exact State.serve_fills (ownStageEntry_fills p)
  case clearStaged seq p => cases h; exact State.serve_fills (ownClearStaged_fills p)
  case readEntry seq p => cases h; exact State.serve_fills fun u => by rw [(ownReads_same p u).2.1]; exact .refl u
  case commit seq p => cases h; exact State.serve_fills (ownCommit_fills p)
  case withdraw seq p => cases h; exact State.serve_fills (ownWithdraw_fills p)
  case writeOutput seq p => cases h; exact State.serve_fills (ownWriteOutput_fills p)
  case writeFallback seq p => cases h; exact State.serve_fills (ownWriteFallback_fills p)
  case publish seq p => cases h; exact State.serve_fills (ownPublish_fills p)
  case setSupervision seq p => cases h; exact State.serve_fills (ownSetSupervision_fills p)
  case resume seq p => cases h; exact State.serve_fills (ownResume_fills p)
  case readImage seq p => cases h; exact State.serve_fills fun u => by rw [(ownReads_same p u).2.2.1]; exact .refl u
  case readStatus seq p =>
    cases h; exact State.serve_fills fun u => by rw [(ownReads_same p u).2.2.2.1]; exact .refl u
  case transact seq p => cases h; exact State.serve_fills (ownTransact_fills p)
  case cancel seq p => cases h; exact State.serve_fills (ownCancel_fills p)
  case readNode seq p => cases h; exact State.serve_fills fun u => by rw [(ownReads_same p u).2.2.2.2]; exact .refl u
  case forgetNode seq p => cases h; exact State.serve_fills (ownForgetNode_fills p)
  case fetch seq p => cases h; exact State.serve_fills (ownFetch_fills p)
  case duplicateReplay seq kind p =>
    cases h
    split
    · exact State.take_fills .refl
    · exact .refl s
  case unknownKind seq kind p =>
    cases h
    split
    · exact .refl s
    · exact State.serve_fills .refl
  case frameReceived byte mark =>
    cases h
    split
    · exact s.receiveByte_fills byte mark
    · exact .refl s
  case lengthNak byte mark =>
    cases h
    split
    · exact s.receiveByte_fills byte mark
    · exact .refl s
  case hostByteReceived byte mark => cases h; exact s.receiveByte_fills byte mark
  case firstFrameStart => exact execFirstFrameStart_fills h
  case trigEdge => exact execTrigEdge_fills h
  case postClaims i =>
    cases h
    split
    · exact s.postAll_fills i
    · exact .refl s
  case claimExpiry => exact execClaimExpiry_fills h
  case echoMismatch l echo =>
    cases h
    split
    · exact s.failEcho_fills l
    · exact .refl s
  case responseTimeout l =>
    cases h
    split
    · exact s.endTransaction_fills ..
    · exact .refl s
  case characterLimitExpiry l =>
    cases h
    split
    · exact s.endTransaction_fills ..
    · exact .refl s
  case responseComplete => exact execResponseComplete_fills h
  case broadcastComplete l =>
    cases h
    split
    · exact s.endTransaction_fills ..
    · exact .refl s
  case lineFault l =>
    cases h
    split
    · exact .trans .of_same (State.resolveAll_fills ..)
    · exact .refl s
  case sleepCommandEnd l =>
    cases h
    repeat' split
    all_goals exact .of_same
  case acyclicTimeout => exact execAcyclicTimeout_fills h
  case supervisionExpiry => exact execSupervisionExpiry_fills h
  case responseCharacterReceived => exact execResponseCharacterReceived_fills h
  case partialFrameDiscard | skipEnd | syncEnd | grant | sleepCommandStart | wakePulseEnd | settleEnd | nodeWake |
      lineFaultRecovery =>
    cases h
    split <;> exact .of_same

end Sys2Proof.Machine
end

section
/-!
SUPPORT. READY and HELD buffers at a frame close, at HOLD and at RELEASE (R106, R111, R113, R116), and the images over
every command (R98, R118).
-/

set_option Elab.async false

namespace Sys2Proof.Machine

/-! ### The three buffers of a timer -/

/-- A change of one buffer that leaves its image. -/
theorem Three.Canonical.set_same {bs : Three Buffer} (h : bs.Canonical) {b : BufId} {v : Buffer}
    (hv : v.image.wf = (bs.get b).image.wf := by rfl) : (bs.set b v).Canonical := h.set (hv.trans (h b)) b

/-- Changes of two buffers that leave their images. -/
theorem Three.Canonical.set_two {bs : Three Buffer} (h : bs.Canonical) {b c : BufId} {v w : Buffer}
    (hv : v.image.wf = (bs.get b).image.wf := by rfl) (hw : w.image.wf = (bs.get c).image.wf := by rfl) :
    ((bs.set b v).set c w).Canonical := (h.set_same hv).set (hw.trans (h c)) c

theorem Three.close_canonical {bs : Three Buffer} (h : bs.Canonical) : bs.close.Canonical := by
  unfold Three.close
  split
  · exact h
  · split
    · exact h.set_two
    · exact h.set_same

theorem Three.hold_canonical {bs : Three Buffer} (h : bs.Canonical) : bs.hold.1.Canonical := by
  obtain ⟨r, f, -, -, he⟩ | ⟨r, -, -, he⟩ | he := bs.hold_cases
  · rw [he]; exact h.set_two
  · rw [he]; exact h.set_same
  · rw [he]; exact h

theorem Three.release_canonical {bs : Three Buffer} (h : bs.Canonical) : bs.release.1.Canonical := by
  unfold Three.release
  split
  · exact h.set_same
  · exact h

/-- A close leaves a HELD buffer alone (R106). -/
theorem Three.close_held {bs : Three Buffer} {b : BufId} (hb : (bs.get b).mode = .held) :
    bs.close.get b = bs.get b := by
  have hne {c : BufId} {m : BufMode} (hc : bs.find m = some c) (hm : m ≠ .held) : b ≠ c := by
    rintro rfl
    exact hm ((Three.find_some hc).symm.trans hb)
  unfold Three.close
  split
  · rfl
  · next f hf =>
    split
    · next r hr =>
      rw [Three.get_set_other _ _ (hne hf (by decide)), Three.get_set_other _ _ (hne hr (by decide))]
    · rw [Three.get_set_other _ _ (hne hf (by decide))]

/-! ### A frame close -/

/-- What a close does after its step 4 leaves READY and HELD buffers alone (R14, R16, R107). -/
theorem State.close_after_fills {s t : State} {i : TimerId} (h : s.close i = some t) : (s.closeFrame i).Fills t := by
  unfold State.close at h
  dsimp only at h
  split at h
  · cases h
    rw [State.drain_eq_stopped]
    exact State.stopped_fills _ i
  · rw [Option.map_eq_some_iff] at h
    obtain ⟨u, hu, rfl⟩ := h
    obtain ⟨bs, hbs, rfl⟩ := State.prepareNext_some hu
    have hprepared : (s.closeFrame i).Fills ((s.closeFrame i).onBuffers i fun _ => bs) := .onBuffers (.prepare hbs)
    split
    · exact hprepared.trans .of_same
    · exact hprepared.trans (State.openNext_fills _ i)

theorem State.closeFrame_imagesOk {s : State} (hs : s.ImagesOk) (i : TimerId) : (s.closeFrame i).ImagesOk :=
  State.imagesOk_iff.mpr fun j => by
    obtain ⟨ho, hb⟩ := State.imagesOk_iff.mp ((s.endFrame_fills i).imagesOk hs) j
    refine ⟨by simpa [State.output] using ho, ?_⟩
    rw [State.closeFrame_buffers]
    split
    · next hj => subst hj; exact Three.close_canonical hb
    · exact hb

/-- A frame close leaves a HELD buffer of either timer alone (R106). -/
theorem State.close_held {s t : State} {i j : TimerId} {b : BufId} (h : s.close i = some t)
    (hb : ((s.buffers j).get b).mode = .held) : (t.buffers j).get b = (s.buffers j).get b := by
  have hend : ((s.endFrame i).buffers j).get b = (s.buffers j).get b :=
    ((s.endFrame_fills i).buffers j).closed b (.inr hb)
  have hclose : ((s.closeFrame i).buffers j).get b = (s.buffers j).get b := by
    rw [State.closeFrame_buffers, ← hend]
    split
    · next hj => subst hj; exact Three.close_held (by rw [hend]; exact hb)
    · rfl
  have hafter := ((State.close_after_fills h).buffers j).closed b (.inr (by rw [hclose]; exact hb))
  rw [hafter, hclose]

/-- A close makes the FILLING buffer the READY one, dropped when a READY one stood before, with its frame's number
(R106). -/
theorem State.close_closed {s t : State} {i : TimerId} {f : BufId} {m : TimerMode} (h : s.close i = some t)
    (hs : (s.buffers i).Serves m) (hf : (s.buffers i).find .filling = some f) :
    ((t.buffers i).get f).mode = .ready ∧ ((t.buffers i).get f).frame = ((s.buffers i).get f).frame ∧
      ((t.buffers i).get f).dropped = ((s.buffers i).find .ready).isSome := by
  have hfind (n : BufMode) : ((s.endFrame i).buffers i).find n = (s.buffers i).find n :=
    State.find_of_heads (s.endFrame_heads i) i n
  obtain ⟨-, -, hframe⟩ := Buffer.head_eq (congrFun (congrFun (s.endFrame_heads i) i) f)
  have hbuffers : (s.closeFrame i).buffers i = ((s.endFrame i).buffers i).close := by
    rw [State.closeFrame_buffers, if_pos rfl]
  have hclosed := ((State.endFrame_serves hs i).close_eq ((hfind _).trans hf)).1
  rw [hfind, ← hbuffers] at hclosed
  have hafter := ((State.close_after_fills h).buffers i).closed f (.inl (by rw [hclosed]))
  rw [hafter, hclosed]
  exact ⟨rfl, hframe, rfl⟩

/-- A close leaves the message controller alone, and begins no reset. -/
theorem State.close_link {s t : State} {i : TimerId} (h : s.close i = some t) :
    t.resetting = s.resetting ∧ t.link = s.link := by
  have hpost (u : State) : (u.postAll i).resetting = u.resetting ∧ (u.postAll i).link = u.link :=
    u.postAll_keeps (P := fun v => v.resetting = u.resetting ∧ v.link = u.link) ⟨rfl, rfl⟩
      (fun v _ _ _ _ _ hv => by simpa using hv) fun _ _ hv => hv
  unfold State.close at h
  dsimp only at h
  split at h
  · cases h
    simp [State.drain_eq_stopped]
  · rw [Option.map_eq_some_iff] at h
    obtain ⟨u, hu, rfl⟩ := h
    obtain ⟨bs, -, rfl⟩ := State.prepareNext_some hu
    split
    · simp
    · simp [State.openNext, hpost, State.nextFrame]

theorem execFrameClose_close {i : TimerId} {s t : State} (h : execFrameClose i s = .next t) :
    t = s ∨ s.close i = some t := by
  unfold execFrameClose at h
  split at h
  · exact .inr (bufferOrFault_next h)
  · cases h; exact .inl rfl

/-! ### Images over every command -/

/-- What a taken request keeps of the images, its owner keeps. -/
theorem State.serve_imagesOk {s : State} {seq kind : Byte} {p : List Byte} {owner : State → State × Answer}
    (hs : s.ImagesOk) (h : ∀ u : State, u.ImagesOk → (owner u).1.ImagesOk) : (s.serve seq kind p owner).ImagesOk := by
  unfold State.serve
  obtain ht | ⟨u, hu, ⟨k, -, hk⟩ | hr⟩ :=
    s.take_cases (requestOf seq kind p) fun s1 => (owner s1).1.answer (requestOf seq kind p) (owner s1).2
  · rw [ht]; exact hs
  · obtain ⟨-, -, -, rest, rfl, -⟩ := State.accept_some hu
    rw [hk]
    exact hs
  · obtain ⟨-, -, -, rest, rfl, -⟩ := State.accept_some hu
    rw [hr]
    exact h _ hs

theorem State.onBuffers_imagesOk {s : State} (hs : s.ImagesOk) {i : TimerId} {f : Three Buffer → Three Buffer}
    (hf : (s.buffers i).Canonical → (f (s.buffers i)).Canonical) : (s.onBuffers i f).ImagesOk :=
  State.imagesOk_iff.mpr fun j => by
    obtain ⟨ho, hb⟩ := State.imagesOk_iff.mp hs j
    refine ⟨ho, ?_⟩
    rw [State.onBuffers_buffers]
    split
    · next hj => subst hj; exact hf hb
    · exact hb

theorem ownHold_imagesOk (p : List Byte) {s : State} (hs : s.ImagesOk) : (ownHold p s).1.ImagesOk := by
  unfold ownHold
  split
  · split
    · exact State.onBuffers_imagesOk hs Three.hold_canonical
    · exact hs
  · exact hs

theorem ownRelease_imagesOk (p : List Byte) {s : State} (hs : s.ImagesOk) : (ownRelease p s).1.ImagesOk := by
  unfold ownRelease
  split
  · split
    · exact State.onBuffers_imagesOk hs Three.release_canonical
    · exact hs
  · exact hs

/-- Within a reset every image is empty (R98, R118, R165). -/
theorem State.cleared_imagesOk (pins : Pins) (q : List Instr) (r : Option Resetting) :
    (State.cleared pins q r).ImagesOk := State.reset_imagesOk

theorem State.ImagesOk.exec {c : Instr} {s t : State} (hs : s.ImagesOk) (h : exec c s = .next t) : t.ImagesOk := by
  cases hc : movesClosed c with
  | false => exact (exec_fills hc h).imagesOk hs
  | true =>
    cases c
    case hold seq p => cases h; exact State.serve_imagesOk hs fun _ => ownHold_imagesOk p
    case release seq p => cases h; exact State.serve_imagesOk hs fun _ => ownRelease_imagesOk p
    case powerOn => cases h; exact State.cleared_imagesOk _ _ _
    case rstPin asserted =>
      cases h
      split
      · exact State.cleared_imagesOk _ _ _
      · split <;> exact hs
    case replySent =>
      cases h
      split
      · split
        · exact hs
        · split
          · exact State.cleared_imagesOk _ _ _
          · exact hs
      · exact hs
    case resetEnd =>
      cases h
      split
      · split
        · exact State.reset_imagesOk
        · exact hs
      · exact hs
    case frameClose i =>
      obtain rfl | hclose := execFrameClose_close h
      · exact hs
      · exact (State.close_after_fills hclose).imagesOk (State.closeFrame_imagesOk hs i)
    all_goals cases hc

/-- Time leaves the stores alone. -/
theorem State.pass_fills (s : State) : s.Fills s.pass := by
  obtain ⟨r, -, h | h⟩ | ⟨-, -, h⟩ | ⟨-, -, h⟩ := s.pass_cases <;> rw [h] <;> exact .of_same

/-- Settles O34: writes keep the canonical form, and every other command moves images or leaves them alone. -/
theorem imagesStayCanonical : Obligations.ImagesStayCanonical := fun s t hs h => by
  obtain ⟨c, q, hc⟩ | rfl := step_cases h
  · exact State.ImagesOk.exec (s := { s with pending := q }) hs hc
  · exact s.pass_fills.imagesOk hs

/-! ### HELD buffers -/

/-- Settles O37: a FRAME_CLOSE frees READY buffers alone, and every other command writes FREE and FILLING ones. -/
theorem heldBufferUntouched : Obligations.HeldBufferUntouched := fun c s u t b h hb hhold hpins hreply hreset => by
  cases hc : movesClosed c with
  | false => exact ((exec_fills hc h).buffers t).closed b (.inr hb)
  | true =>
    cases c
    case frameClose i =>
      obtain rfl | hclose := execFrameClose_close h
      · rfl
      · exact State.close_held hclose hb
    case hold seq p => exact absurd rfl (hhold seq p).1
    case release seq p => exact absurd rfl (hhold seq p).2
    case powerOn x => exact absurd rfl (hpins x).1
    case rstPin x => exact absurd rfl (hpins x).2
    case replySent => exact absurd rfl hreply
    case resetEnd => exact absurd rfl hreset
    all_goals cases hc

/-- A RELEASE that leaves the buffers as `f` makes them. -/
theorem execRelease_answers {s : State} {seq : Byte} {t : TimerId} (f : Three Buffer → Three Buffer) {code : ReplyCode}
    (hr : s.ready (requestOf seq 0x17 [timerCode t]) = true)
    (h : (s.buffers t).release = (f (s.buffers t), .plain code)) :
    exec (.release seq [timerCode t]) s =
      .next ((s.onBuffers t f).replied (requestOf seq 0x17 [timerCode t]) code []) := by
  have hown : ownRelease [timerCode t] s.taken = ((s.onBuffers t f).taken, .plain code) := by
    have hbuffers : s.taken.onBuffers t (fun bs => bs.release.1) = s.taken.onBuffers t f :=
      State.onBuffers_congr (congrArg Prod.fst h)
    have hanswer : (s.taken.buffers t).release.2 = .plain code := congrArg Prod.snd h
    simp only [ownRelease, List.length_singleton, if_true, byteAt_cons_zero, timerOf_timerCode, hbuffers, hanswer]
    rfl
  exact congrArg Host.Outcome.next (State.serve_replied hr hown)

/-- Settles O36: RELEASE by the HELD buffer of the timer, and an index that names no timer. -/
theorem releaseFreesHeldBuffer : Obligations.ReleaseFreesHeldBuffer := by
  refine ⟨fun s seq t => ?timer, fun s seq index hi hr => ?index⟩
  case timer =>
    intro rq hr
    refine ⟨fun h hh => ?_, fun hnone => ?_⟩
    · exact execRelease_answers (fun bs => bs.set h { bs.get h with mode := .free }) hr
        (by simp only [Three.release, hh])
    · have hsame := execRelease_answers (fun bs => bs) hr (code := .none) (by simp only [Three.release, hnone])
      rwa [State.onBuffers_id] at hsame
  case index =>
    have hbad : Malformed 0x17 [index] := .inr (.inl ⟨hi, by decide⟩)
    exact State.serve_badArg (owner := ownRelease [index]) hr (hbad.refused_timer rfl nofun)

/-! ### A HOLD that meets a close -/

/-- A ready HOLD is taken: it changes the buffers of its timer, and the message controller beside (R111). -/
theorem execHold_next {s : State} {seq : Byte} {t : TimerId} (hr : s.ready (requestOf seq 0x14 [timerCode t]) = true) :
    ∃ u, exec (.hold seq [timerCode t]) s = .next u ∧ u.buffers t = (s.buffers t).hold.1 ∧ u.timers = s.timers ∧
      u.resetting = s.resetting :=
  ⟨_, execHold_answers (fun bs => bs.hold.1) hr rfl, s.onBuffers_buffers_same t fun bs => bs.hold.1, rfl, rfl⟩

theorem State.BuffersOk.oneReady {s : State} (hs : s.BuffersOk) (i : TimerId) : (s.buffers i).AtMostOne .ready :=
  have ⟨_, h, _⟩ := hs i
  h

theorem State.BuffersOk.oneHeld {s : State} (hs : s.BuffersOk) (i : TimerId) : (s.buffers i).AtMostOne .held :=
  have ⟨_, _, h, _⟩ := hs i
  h

theorem State.BuffersOk.exec {c : Instr} {s t : State} (hs : s.BuffersOk) (h : exec c s = .next t) : t.BuffersOk :=
  fun i => ((exec_does h).keepsBuffers i (hs i)).1

section
variable {bs : Three Buffer} {r : BufId}

/-- HOLD makes the READY buffer HELD, with its frame (R111). -/
theorem Three.hold_ready (hr : bs.find .ready = some r) : bs.hold.1.get r = { bs.get r with mode := .held } := by
  cases hh : bs.find .held <;> simp only [Three.hold, hr, hh, Three.get_set_same]

/-- HOLD makes no buffer READY. -/
theorem Three.hold_not_ready {b : BufId} (hb : (bs.get b).mode ≠ .ready) : (bs.hold.1.get b).mode ≠ .ready := by
  have hset {cs : Three Buffer} {c : BufId} {v : Buffer} (hv : v.mode ≠ .ready) (hcs : (cs.get b).mode ≠ .ready) :
      ((cs.set c v).get b).mode ≠ .ready := by
    rw [Three.get_set]
    split
    · exact hv
    · exact hcs
  obtain ⟨q, h, -, -, he⟩ | ⟨q, -, -, he⟩ | he := bs.hold_cases
  · rw [he]; exact hset (by simp) (hset (by simp) hb)
  · rw [he]; exact hset (by simp) hb
  · rw [he]; exact hb

end

/-- A FRAME_CLOSE that is due is taken, and leaves the frame closed. -/
theorem execFrameClose_next {s : State} {i : TimerId} (hs : s.BuffersOk) (hr : s.resetting = none)
    (hm : (s.timer i).mode.inFrame = true) (hc : (s.timer i).closeDue = true) :
    ∃ u, exec (.frameClose i) s = .next u ∧ s.close i = some u := by
  obtain ⟨u, hu⟩ := State.close_isSome hs hm
  exact ⟨u, by rw [execFrameClose_eq hr hm hc, hu]; rfl, hu⟩

theorem State.ready_resetting {s : State} {rq : Request} (h : s.ready rq = true) : s.resetting = none := by
  simp only [State.ready, Bool.and_eq_true, Option.isNone_iff_eq_none] at h
  obtain ⟨⟨⟨⟨hr, -⟩, -⟩, -⟩, -⟩ := h
  exact hr

theorem State.ready_congr {s t : State} (hr : t.resetting = s.resetting) (hl : t.link = s.link) (rq : Request) :
    t.ready rq = s.ready rq := by
  simp only [State.ready, hr, hl]

/-- Where one buffer is the only one in a state, another is not in it. -/
theorem Three.AtMostOne.mode_ne {bs : Three Buffer} {m : BufMode} (h : bs.AtMostOne m) {b c : BufId}
    (hb : (bs.get b).mode = m) (hne : c ≠ b) : (bs.get c).mode ≠ m := fun hc => hne (h c b hc hb)

/-- Two buffers found in different states are not the same. -/
theorem Three.find_ne {bs : Three Buffer} {m n : BufMode} {b c : BufId} (hb : bs.find m = some b)
    (hc : bs.find n = some c) (h : m ≠ n) : b ≠ c := by
  rintro rfl
  exact h ((Three.find_some hb).symm.trans (Three.find_some hc))

section
variable {s : State} {seq : Byte} {t : TimerId} {f r : BufId}
  (hready : s.ready (requestOf seq 0x14 [timerCode t]) = true) (hm : (s.timer t).mode.inFrame = true)
  (hc : (s.timer t).closeDue = true) (hs : s.BuffersOk) (hf : (s.buffers t).find .filling = some f)
  (hr : (s.buffers t).find .ready = some r)
include hready hm hc hs hf hr

/-- HOLD first, then the close: the older frame is HELD, and the frame then closed is READY and not dropped (R113). -/
theorem exec_hold_frameClose :
    ∃ v u, exec (.hold seq [timerCode t]) s = .next v ∧ exec (.frameClose t) v = .next u ∧
      ((u.buffers t).get r).mode = .held ∧ ((u.buffers t).get r).frame = ((s.buffers t).get r).frame ∧
      ((u.buffers t).get f).mode = .ready ∧ ((u.buffers t).get f).dropped = false ∧
      ∀ h, (s.buffers t).find .held = some h → ((u.buffers t).get h).mode ≠ .held := by
  obtain ⟨v, hv, hbuffers, htimers, hresetting⟩ := execHold_next hready
  have htimer : v.timer t = s.timer t := by simp only [State.timer, htimers]
  have hvs := hs.exec hv
  obtain ⟨u, hu, hclose⟩ :=
    execFrameClose_next hvs (hresetting.trans (State.ready_resetting hready)) (htimer ▸ hm) (htimer ▸ hc)
  have hheld : (v.buffers t).get r = { (s.buffers t).get r with mode := .held } := by
    rw [hbuffers, Three.hold_ready hr]
  have hur : (u.buffers t).get r = { (s.buffers t).get r with mode := .held } :=
    (State.close_held hclose (by rw [hheld])).trans hheld
  have hvfill : (v.buffers t).find .filling = some f := by rw [hbuffers, (s.buffers t).hold_filling.1, hf]
  have hvready : (v.buffers t).find .ready = none := Three.find_none.mpr fun b => by
    rw [hbuffers]
    by_cases hb : b = r
    · subst hb; rw [Three.hold_ready hr]; nofun
    · exact Three.hold_not_ready ((hs.oneReady t).mode_ne (Three.find_some hr) hb)
  obtain ⟨hmode, -, hdropped⟩ := State.close_closed hclose (hvs.serves t) hvfill
  refine ⟨v, u, hv, hu, by rw [hur], by rw [hur], hmode, by rw [hdropped, hvready]; rfl, fun h hh => ?_⟩
  exact ((hvs.exec hu).oneHeld t).mode_ne (by rw [hur]) (Three.find_ne hh hr (by decide))

/-- The close first, then HOLD: the frame just closed is HELD, marked dropped, and the older frame is lost (R113). -/
theorem exec_frameClose_hold :
    ∃ v u, exec (.frameClose t) s = .next v ∧ exec (.hold seq [timerCode t]) v = .next u ∧
      ((u.buffers t).get f).mode = .held ∧ ((u.buffers t).get f).dropped = true ∧
      ((u.buffers t).get f).frame = ((s.buffers t).get f).frame ∧
      ((u.buffers t).get r).mode ≠ .ready ∧ ((u.buffers t).get r).mode ≠ .held ∧
      ∀ h, (s.buffers t).find .held = some h → ((u.buffers t).get h).mode ≠ .held := by
  obtain ⟨v, hv, hclose⟩ := execFrameClose_next hs (State.ready_resetting hready) hm hc
  have hvs := hs.exec hv
  obtain ⟨hresetting, hlink⟩ := State.close_link hclose
  obtain ⟨hmode, hframe, hdropped⟩ := State.close_closed hclose (hs.serves t) hf
  obtain ⟨u, hu, hbuffers, -⟩ := execHold_next ((State.ready_congr hresetting hlink _).trans hready)
  have hvready := (hvs.oneReady t).find_eq hmode
  have huf : (u.buffers t).get f = { (v.buffers t).get f with mode := .held } := by
    rw [hbuffers, Three.hold_ready hvready]
  have honly := (hvs.exec hu).oneHeld t
  have hne : r ≠ f := Three.find_ne hr hf (by decide)
  refine ⟨v, u, hv, hu, by rw [huf], by rw [huf, hdropped, hr]; rfl, by rw [huf, hframe], ?_,
    honly.mode_ne (by rw [huf]) hne, fun h hh => honly.mode_ne (by rw [huf]) (Three.find_ne hh hf (by decide))⟩
  rw [hbuffers]
  exact Three.hold_not_ready ((hvs.oneReady t).mode_ne hmode hne)

end

/-- Settles O38: HOLD then FRAME_CLOSE, and FRAME_CLOSE then HOLD. -/
theorem holdMeetsClose : Obligations.HoldMeetsClose := fun _ _ _ _ _ hready hm hc hs hf hr =>
  ⟨exec_hold_frameClose hready hm hc hs hf hr, exec_frameClose_hold hready hm hc hs hf hr⟩

end Sys2Proof.Machine
end

section
/-!
SUPPORT. Every step keeps the supervisor in range for its state, and no publish pending while it is EXPIRED (R125,
R128). Most commands leave the supervisor alone and make no publish pending; PUBLISH, SET_SUPERVISION, RESUME, the bytes of the
host, the expiry and the ticks of the supervisor are taken one by one.
-/

set_option Elab.async false

namespace Sys2Proof.Machine

/-! ### The supervisor (R125 to R128) -/

/-- The period and the remaining time lie in their ranges for the supervisor's state (R125). -/
def Supervisor.InRange (x : Supervisor) : Prop :=
  match x.mode with
  | .off => x.period = 0 ∧ x.remaining = 0
  | .armed => 10 ≤ x.period ∧ x.period ≤ 60000 ∧ x.remaining ≤ x.period * 1000
  | .expired => 10 ≤ x.period ∧ x.period ≤ 60000 ∧ x.remaining = 0

theorem State.supervisionOk_iff {s : State} :
    s.SupervisionOk ↔
      s.supervisor.InRange ∧ (s.supervisor.mode = .expired → ∀ i, (s.timer i).pendingPublish = false) := by
  unfold State.SupervisionOk Supervisor.InRange
  cases s.supervisor.mode <;> simp [and_assoc]

theorem Supervisor.InRange.period {x : Supervisor} (h : x.InRange) (hm : x.mode ≠ .off) :
    10 ≤ x.period ∧ x.period ≤ 60000 := by
  unfold Supervisor.InRange at h
  split at h
  · contradiction
  · obtain ⟨hlow, hhigh, -⟩ := h
    exact ⟨hlow, hhigh⟩
  · obtain ⟨hlow, hhigh, -⟩ := h
    exact ⟨hlow, hhigh⟩

/-- A supervisor armed with a period in range for that period (R126, R130). -/
theorem Supervisor.InRange.armed {period : Nat} (h : 10 ≤ period ∧ period ≤ 60000) :
    Supervisor.InRange { mode := .armed, period := period, remaining := period * 1000 } :=
  have ⟨hlow, hhigh⟩ := h
  ⟨hlow, hhigh, Nat.le_refl _⟩

theorem Supervisor.active_mode (x : Supervisor) : x.active.mode = x.mode := by
  unfold Supervisor.active
  split <;> rfl

/-- Host activity restarts the remaining time within its range (R127). -/
theorem Supervisor.InRange.active {x : Supervisor} (h : x.InRange) : x.active.InRange := by
  obtain ⟨mode, period, remaining⟩ := x
  cases mode with
  | armed => exact .armed (h.period nofun)
  | off | expired => exact h

theorem Supervisor.tick_mode (x : Supervisor) : x.tick.mode = x.mode := by
  unfold Supervisor.tick
  split <;> rfl

/-- A tick takes the remaining time down at most (R125). -/
theorem Supervisor.InRange.tick {x : Supervisor} (h : x.InRange) : x.tick.InRange := by
  obtain ⟨mode, period, remaining⟩ := x
  cases mode with
  | armed =>
    obtain ⟨hlow, hhigh, hremaining⟩ := h
    exact ⟨hlow, hhigh, (Nat.sub_le _ _).trans hremaining⟩
  | off | expired => exact h

/-- Host activity is that of the supervisor alone (R127). -/
theorem State.hostActivity_eq (s : State) : s.hostActivity = { s with supervisor := s.supervisor.active } := by
  unfold State.hostActivity Supervisor.active
  split
  · next h => rw [if_pos h]
  · next h => rw [if_neg h]

/-! ### Changes that keep supervision -/

/-- A change that keeps the supervisor in range, and no publish pending while it is EXPIRED. -/
structure State.KeepsSupervision (s t : State) : Prop where
  ok : s.SupervisionOk → t.SupervisionOk

theorem State.KeepsSupervision.refl (s : State) : s.KeepsSupervision s := ⟨id⟩

theorem State.KeepsSupervision.trans {s t u : State} (h : s.KeepsSupervision t) (k : t.KeepsSupervision u) :
    s.KeepsSupervision u := ⟨k.ok ∘ h.ok⟩

/-- A change of a supervisor that keeps its state and its range, and makes no publish pending. -/
theorem State.KeepsSupervision.of_supervisor {s t : State} (hmode : t.supervisor.mode = s.supervisor.mode)
    (hrange : s.supervisor.InRange → t.supervisor.InRange)
    (hpublish : ∀ i, (t.timer i).pendingPublish = true → (s.timer i).pendingPublish = true) :
    s.KeepsSupervision t where
  ok hs := by
    obtain ⟨hr, hp⟩ := State.supervisionOk_iff.mp hs
    refine State.supervisionOk_iff.mpr ⟨hrange hr, fun hm i => Bool.eq_false_iff.mpr fun hi => ?_⟩
    exact Bool.eq_false_iff.mp (hp (hmode ▸ hm) i) (hpublish i hi)

/-- The supervisor stays, and no publish becomes pending. -/
theorem State.KeepsSupervision.of_publishes {s t : State} (hsupervisor : t.supervisor = s.supervisor)
    (hpublish : ∀ i, (t.timer i).pendingPublish = true → (s.timer i).pendingPublish = true) :
    s.KeepsSupervision t := .of_supervisor (by rw [hsupervisor]) (by rw [hsupervisor]; exact id) hpublish

theorem State.KeepsSupervision.of_same {s t : State} (hsupervisor : t.supervisor = s.supervisor := by simp)
    (htimers : t.timers = s.timers := by simp) : s.KeepsSupervision t :=
  .of_publishes hsupervisor fun i => by simp only [State.timer, htimers]; exact id

/-- A supervisor in range that is not EXPIRED, whatever is pending. -/
theorem State.KeepsSupervision.of_not_expired {s t : State} (h : t.supervisor.mode ≠ .expired)
    (hrange : s.supervisor.InRange → t.supervisor.InRange) : s.KeepsSupervision t where
  ok hs :=
    have ⟨hr, _⟩ := State.supervisionOk_iff.mp hs
    State.supervisionOk_iff.mpr ⟨hrange hr, fun hm => absurd hm h⟩

theorem State.KeepsSupervision.onTimer {s : State} {i : TimerId} {f : Timer → Timer}
    (h : (f (s.timer i)).pendingPublish = true → (s.timer i).pendingPublish = true := by exact id) :
    s.KeepsSupervision (s.onTimer i f) :=
  .of_publishes rfl fun j => by
    rw [State.onTimer_timer]
    split
    · next hj => subst hj; exact h
    · exact id

/-- Within a reset supervision is OFF (R125, R165). -/
theorem State.KeepsSupervision.cleared (s : State) (pins : Pins) (q : List Instr) (r : Option Resetting) :
    s.KeepsSupervision (State.cleared pins q r) where
  ok _ := ⟨rfl, rfl⟩

/-! ### Frames and stops -/

/-- A stop applies a pending publish (R19, R122). -/
theorem State.stopped_keepsSupervision (s : State) (i : TimerId) : s.KeepsSupervision (s.stopped i) :=
  .of_publishes rfl fun j => by
    by_cases h : j = i
    · subst h; rw [State.stopped_timer_same]; nofun
    · rw [s.stopped_timer_other h]; exact id

/-- A frame start applies a pending publish (R17, R122). -/
theorem State.frameStart_keepsSupervision (s : State) (i : TimerId) : s.KeepsSupervision (s.frameStart i) :=
  .of_publishes (by simp) fun j => by
    by_cases h : j = i
    · subst h; rw [State.frameStart_timer_same]; nofun
    · rw [s.frameStart_timer_other h]; exact id

theorem State.postAll_keepsSupervision (s : State) (i : TimerId) : s.KeepsSupervision (s.postAll i) :=
  s.postAll_keeps (.refl s) (fun _ _ _ _ _ _ hu => hu.trans .of_same) fun _ _ hu => hu.trans .onTimer

theorem State.openFirst_keepsSupervision {s t : State} {i : TimerId} (h : s.openFirst i = some t) :
    s.KeepsSupervision t := by
  unfold State.openFirst at h
  rw [Option.map_eq_some_iff] at h
  obtain ⟨u, hu, rfl⟩ := h
  obtain ⟨bs, -, rfl⟩ := State.firstFrame_some hu
  exact .trans .of_same ((State.frameStart_keepsSupervision _ i).trans (State.postAll_keepsSupervision _ i))

theorem State.openNext_keepsSupervision (s : State) (i : TimerId) : s.KeepsSupervision (s.openNext i) :=
  .trans (t := s.onTimer i fun x => { x with frame := x.frame + 1 }) .onTimer
    ((State.frameStart_keepsSupervision _ i).trans (State.postAll_keepsSupervision _ i))

theorem State.close_keepsSupervision {s t : State} {i : TimerId} (h : s.close i = some t) : s.KeepsSupervision t := by
  refine .trans (t := s.closeFrame i) .of_same ?_
  unfold State.close at h
  dsimp only at h
  split at h
  · cases h
    rw [State.drain_eq_stopped]
    exact State.stopped_keepsSupervision _ i
  · rw [Option.map_eq_some_iff] at h
    obtain ⟨u, hu, rfl⟩ := h
    obtain ⟨bs, -, rfl⟩ := State.prepareNext_some hu
    split
    · exact .trans .of_same .onTimer
    · exact .trans .of_same (State.openNext_keepsSupervision _ i)

theorem State.halt_keepsSupervision (s : State) (i : TimerId) : s.KeepsSupervision (s.halt i) :=
  .trans (t := s.onTimer i fun x => x.rest .stopped) .onTimer (.of_same rfl rfl)

theorem State.stopWaiting_keepsSupervision (s : State) (i : TimerId) : s.KeepsSupervision (s.stopWaiting i) := by
  rw [State.stopWaiting_eq_stopped]
  exact .trans .of_same (State.stopped_keepsSupervision _ i)

theorem State.stopRunning_keepsSupervision (s : State) (i : TimerId) : s.KeepsSupervision (s.stopRunning i) := by
  rw [State.stopRunning_eq_stopped]
  exact .trans .of_same (State.stopped_keepsSupervision _ i)

theorem State.stopAtEnd_keepsSupervision (s : State) (i : TimerId) : s.KeepsSupervision (s.stopAtEnd i) := by
  unfold State.stopAtEnd
  split
  · exact .onTimer
  · exact .refl s
  · exact s.halt_keepsSupervision i
  · exact s.stopWaiting_keepsSupervision i
  · exact .refl s

theorem State.stopAtOnce_keepsSupervision (s : State) (i : TimerId) : s.KeepsSupervision (s.stopAtOnce i) := by
  unfold State.stopAtOnce
  split
  · exact s.stopRunning_keepsSupervision i
  · exact s.stopRunning_keepsSupervision i
  · exact s.halt_keepsSupervision i
  · exact s.stopWaiting_keepsSupervision i
  · exact .refl s

/-! ### Requests that take part in supervision -/

theorem State.take_keepsSupervision {s : State} {rq : Request} {run : State → State}
    (h : ∀ u : State, u.KeepsSupervision (run u)) : s.KeepsSupervision (s.take rq run) := by
  obtain ht | ⟨u, hu, ⟨k, -, hk⟩ | hr⟩ := s.take_cases rq run
  · rw [ht]; exact .refl s
  · obtain ⟨-, -, -, rest, rfl, -⟩ := State.accept_some hu
    rw [hk]
    exact .of_same
  · obtain ⟨-, -, -, rest, rfl, -⟩ := State.accept_some hu
    rw [hr]
    exact .trans .of_same (h _)

theorem State.serve_keepsSupervision {s : State} {seq kind : Byte} {p : List Byte} {owner : State → State × Answer}
    (h : ∀ u : State, u.KeepsSupervision (owner u).1) : s.KeepsSupervision (s.serve seq kind p owner) :=
  State.take_keepsSupervision fun u => (h u).trans .of_same

/-- PUBLISH makes no publish pending in EXPIRED (R121). -/
theorem State.publishImage_keepsSupervision (s : State) (i : TimerId) : s.KeepsSupervision (s.publishImage i).1 := by
  unfold State.publishImage
  split
  · exact .refl s
  · next hm =>
    have hkeeps {t : State} (ht : t.supervisor = s.supervisor) : s.KeepsSupervision t :=
      .of_not_expired (by rwa [ht]) (by rw [ht]; exact id)
    repeat' split
    all_goals exact hkeeps rfl

theorem ownPublish_keepsSupervision (p : List Byte) (s : State) : s.KeepsSupervision (ownPublish p s).1 := by
  unfold ownPublish
  split
  · split
    · exact s.publishImage_keepsSupervision _
    · exact .refl s
  · exact .refl s

/-- SET_SUPERVISION takes a period in range, or turns supervision OFF (R126). -/
theorem State.superviseFor_keepsSupervision (s : State) (period : Nat) :
    s.KeepsSupervision (s.superviseFor period).1 := by
  unfold State.superviseFor
  split
  · exact .refl s
  · split
    · exact .refl s
    · split
      · exact .of_not_expired nofun fun _ => ⟨rfl, rfl⟩
      · exact .of_not_expired nofun fun _ => .armed (by omega)

theorem ownSetSupervision_keepsSupervision (p : List Byte) (s : State) :
    s.KeepsSupervision (ownSetSupervision p s).1 := by
  unfold ownSetSupervision
  split
  · exact s.superviseFor_keepsSupervision _
  · exact .refl s

/-- RESUME arms the supervisor for the period it was EXPIRED with (R130). -/
theorem ownResume_keepsSupervision (p : List Byte) (s : State) : s.KeepsSupervision (ownResume p s).1 := by
  unfold ownResume
  split
  · split
    · next hm => exact .of_not_expired nofun fun hr => .armed (hr.period (by rw [hm]; nofun))
    · exact .refl s
  · exact .refl s

theorem ownStop_keepsSupervision {act : State → TimerId → State}
    (hact : ∀ (s : State) i, s.KeepsSupervision (act s i)) (p : List Byte) (code : Nat) (s : State) :
    s.KeepsSupervision (ownStop p code act s).1 := by
  unfold ownStop
  split
  · split
    · split
      · exact hact s _
      · exact .refl s
    · exact .refl s
  · exact .refl s

/-! ### Requests in which neither the supervisor nor a publish takes part -/

theorem ownConfigureLane_keepsSupervision (p : List Byte) (s : State) :
    s.KeepsSupervision (ownConfigureLane p s).1 := by
  unfold ownConfigureLane State.tryConfigureLane
  repeat' split
  all_goals exact .of_same rfl rfl

theorem ownSleepLane_keepsSupervision (p : List Byte) (s : State) : s.KeepsSupervision (ownSleepLane p s).1 := by
  unfold ownSleepLane State.sleepLane
  repeat' split
  case h_1 => exact .of_same
  all_goals exact .of_same rfl rfl

theorem ownWakeLane_keepsSupervision (p : List Byte) (s : State) : s.KeepsSupervision (ownWakeLane p s).1 := by
  unfold ownWakeLane State.wakeLane
  repeat' split
  all_goals exact .of_same rfl rfl

theorem ownConfigureTimer_keepsSupervision (p : List Byte) (s : State) :
    s.KeepsSupervision (ownConfigureTimer p s).1 := by
  unfold ownConfigureTimer State.configureTimer
  repeat' split
  case h_2 => dsimp only; exact .onTimer
  all_goals exact .refl s

theorem ownStart_keepsSupervision (p : List Byte) (s : State) : s.KeepsSupervision (ownStart p s).1 := by
  unfold ownStart State.startTimer
  repeat' split
  case h_1.isTrue => dsimp only; exact .onTimer
  all_goals exact .refl s

theorem ownStageEntry_keepsSupervision (p : List Byte) (s : State) : s.KeepsSupervision (ownStageEntry p s).1 := by
  unfold ownStageEntry State.stage
  dsimp only
  repeat' split
  all_goals exact .of_same rfl rfl

theorem ownClearStaged_keepsSupervision (p : List Byte) (s : State) :
    s.KeepsSupervision (ownClearStaged p s).1 := by
  unfold ownClearStaged
  repeat' split
  all_goals exact .of_same rfl rfl

theorem State.commitNow_keepsSupervision (s : State) (i : TimerId) : s.KeepsSupervision (s.commitNow i) := by
  unfold State.commitNow
  split <;> exact .of_same

theorem State.commitLater_keepsSupervision (s : State) (i : TimerId) : s.KeepsSupervision (s.commitLater i) :=
  .trans (t := s.onTables i fun x => { x with frozen := true }) .of_same .onTimer

theorem ownCommit_keepsSupervision (p : List Byte) (s : State) : s.KeepsSupervision (ownCommit p s).1 := by
  unfold ownCommit State.commitTable
  repeat' split
  case h_2.isTrue => exact s.commitLater_keepsSupervision _
  case h_2.isFalse => exact s.commitNow_keepsSupervision _
  all_goals exact .refl s

theorem ownWithdraw_keepsSupervision (p : List Byte) (s : State) : s.KeepsSupervision (ownWithdraw p s).1 := by
  unfold ownWithdraw
  repeat' split
  case h_1.isTrue i _ _ =>
    exact .trans (t := s.onTimer i fun x => { x with pendingCommit := false }) .onTimer (.of_same rfl rfl)
  all_goals exact .refl s

theorem ownWriteOutput_keepsSupervision (p : List Byte) (s : State) :
    s.KeepsSupervision (ownWriteOutput p s).1 := by
  unfold ownWriteOutput
  split <;> exact .of_same rfl rfl

theorem ownWriteFallback_keepsSupervision (p : List Byte) (s : State) :
    s.KeepsSupervision (ownWriteFallback p s).1 := by
  unfold ownWriteFallback
  split <;> exact .of_same rfl rfl

theorem ownHold_keepsSupervision (p : List Byte) (s : State) : s.KeepsSupervision (ownHold p s).1 := by
  unfold ownHold
  repeat' split
  all_goals exact .of_same rfl rfl

theorem ownRelease_keepsSupervision (p : List Byte) (s : State) : s.KeepsSupervision (ownRelease p s).1 := by
  unfold ownRelease
  repeat' split
  all_goals exact .of_same rfl rfl

theorem ownTransact_keepsSupervision (p : List Byte) (s : State) : s.KeepsSupervision (ownTransact p s).1 := by
  unfold ownTransact
  repeat' split
  all_goals exact .of_same rfl rfl

theorem ownCancel_keepsSupervision (p : List Byte) (s : State) : s.KeepsSupervision (ownCancel p s).1 := by
  unfold ownCancel
  split
  · split
    · split
      · exact .refl s
      · exact .of_same
    · exact .refl s
  · exact .refl s

theorem ownForgetNode_keepsSupervision (p : List Byte) (s : State) : s.KeepsSupervision (ownForgetNode p s).1 := by
  unfold ownForgetNode
  repeat' split
  all_goals exact .of_same rfl rfl

theorem ownFetch_keepsSupervision (p : List Byte) (s : State) : s.KeepsSupervision (ownFetch p s).1 := by
  unfold ownFetch
  repeat' split
  all_goals exact .of_same rfl rfl

theorem execReset_keepsSupervision {seq : Byte} {p : List Byte} {s t : State} (h : execReset seq p s = .next t) :
    s.KeepsSupervision t := by
  unfold execReset at h
  cases h
  refine State.take_keepsSupervision fun u => ?_
  dsimp only
  split <;> exact .of_same

/-! ### The host link and the resets -/

theorem State.nak_keepsSupervision (s : State) (seq : Byte) (code : NakCode) : s.KeepsSupervision (s.nak seq code) := by
  unfold State.nak
  split <;> exact .of_same

theorem State.hostActivity_keepsSupervision (s : State) : s.KeepsSupervision s.hostActivity := by
  rw [State.hostActivity_eq]
  exact .of_supervisor s.supervisor.active_mode Supervisor.InRange.active fun _ => id

theorem State.judgeFrame_keepsSupervision (s : State) (got : List Byte) (marked : Bool) :
    s.KeepsSupervision (s.judgeFrame got marked) := by
  unfold State.judgeFrame
  dsimp only
  split
  · exact s.nak_keepsSupervision ..
  · split
    · exact s.hostActivity_keepsSupervision.trans .of_same
    · exact s.hostActivity_keepsSupervision.trans (State.nak_keepsSupervision ..)

theorem State.receiveByte_keepsSupervision (s : State) (byte : Byte) (mark : Bool) :
    s.KeepsSupervision (s.receiveByte byte mark) := by
  unfold State.receiveByte
  dsimp only
  repeat' split
  case h_3.isTrue => exact .trans .of_same (State.nak_keepsSupervision ..)
  case h_6.isTrue => exact .trans .of_same (State.judgeFrame_keepsSupervision ..)
  all_goals exact .of_same

theorem execReplySent_keepsSupervision {s t : State} (h : execReplySent s = .next t) : s.KeepsSupervision t := by
  unfold execReplySent at h
  cases h
  split
  · split
    · exact .refl s
    · split
      · exact .cleared s ..
      · exact .of_same
  · exact .refl s

theorem execRstPin_keepsSupervision {asserted : Bool} {s t : State} (h : execRstPin asserted s = .next t) :
    s.KeepsSupervision t := by
  unfold execRstPin at h
  cases h
  split
  · exact .cleared s ..
  · split <;> exact .of_same

theorem execResetEnd_keepsSupervision {s t : State} (h : execResetEnd s = .next t) : s.KeepsSupervision t := by
  unfold execResetEnd at h
  cases h
  split
  · split
    · exact .trans (.cleared s s.pins s.pending none) (.of_same rfl rfl)
    · exact .refl s
  · exact .refl s

/-- The expiry leaves no publish pending (R128). -/
theorem execSupervisionExpiry_keepsSupervision {s t : State} (h : execSupervisionExpiry s = .next t) :
    s.KeepsSupervision t := by
  unfold execSupervisionExpiry at h
  cases h
  split
  · next hover =>
    refine ⟨fun hs => ?_⟩
    have hm : s.supervisor.mode ≠ .off := fun hm => by simp [State.supervisionOver, hm] at hover
    obtain ⟨hlow, hhigh⟩ := (State.supervisionOk_iff.mp hs).1.period hm
    exact ⟨hlow, hhigh, rfl, fun i => by cases i <;> rfl⟩
  · exact .refl s

/-! ### Timers and lanes -/

theorem execFirstFrameStart_keepsSupervision {i : TimerId} {s t : State} (h : execFirstFrameStart i s = .next t) :
    s.KeepsSupervision t := by
  unfold execFirstFrameStart at h
  split at h
  · exact State.openFirst_keepsSupervision (bufferOrFault_next h)
  · cases h; exact .refl s

theorem execFrameClose_keepsSupervision {i : TimerId} {s t : State} (h : execFrameClose i s = .next t) :
    s.KeepsSupervision t := by
  obtain rfl | hclose := execFrameClose_close h
  · exact .refl _
  · exact State.close_keepsSupervision hclose

theorem State.missTrigger_keepsSupervision (s : State) (i : TimerId) : s.KeepsSupervision (s.missTrigger i) :=
  .trans (t := s.onTimer i fun x => { x with missed := min (x.missed + 1) 65535 }) .onTimer (.of_same rfl rfl)

theorem execTrigEdge_keepsSupervision {i : TimerId} {s t : State} (h : execTrigEdge i s = .next t) :
    s.KeepsSupervision t := by
  unfold execTrigEdge at h
  split at h
  · cases h; exact .refl s
  · have ht := bufferOrFault_next h
    unfold State.trigger at ht
    split at ht
    · exact State.openFirst_keepsSupervision ht
    · exact State.openFirst_keepsSupervision ht
    · cases ht; exact s.openNext_keepsSupervision i
    · cases ht; exact s.missTrigger_keepsSupervision i
    · cases ht; exact s.missTrigger_keepsSupervision i
    · cases ht; exact .refl s

theorem State.failEcho_keepsSupervision (s : State) (l : LaneId) : s.KeepsSupervision (s.failEcho l) := by
  unfold State.failEcho
  repeat' split
  all_goals exact .of_same

/-! ### Every step -/

theorem exec_keepsSupervision {c : Instr} {s t : State} (h : exec c s = .next t) : s.KeepsSupervision t := by
  cases c
  case query seq p =>
    cases h; exact State.serve_keepsSupervision fun u => by rw [(ownReads_same p u).1]; exact .refl u
  case reset => exact execReset_keepsSupervision h
  case configureLane seq p => cases h; exact State.serve_keepsSupervision (ownConfigureLane_keepsSupervision p)
  case sleepLane seq p => cases h; exact State.serve_keepsSupervision (ownSleepLane_keepsSupervision p)
  case wakeLane seq p => cases h; exact State.serve_keepsSupervision (ownWakeLane_keepsSupervision p)
  case configureTimer seq p => cases h; exact State.serve_keepsSupervision (ownConfigureTimer_keepsSupervision p)
  case start seq p => cases h; exact State.serve_keepsSupervision (ownStart_keepsSupervision p)
  case stopEnd seq p =>
    cases h
    split
    · exact .refl s
    · exact State.serve_keepsSupervision (ownStop_keepsSupervision State.stopAtEnd_keepsSupervision p 0)
  case stopNow seq p =>
    cases h
    split
    · exact .refl s
    · exact State.serve_keepsSupervision (ownStop_keepsSupervision State.stopAtOnce_keepsSupervision p 1)
  case stageEntry seq p => cases h; exact State.serve_keepsSupervision (ownStageEntry_keepsSupervision p)
  case clearStaged seq p => cases h; exact State.serve_keepsSupervision (ownClearStaged_keepsSupervision p)
  case readEntry seq p =>
    cases h; exact State.serve_keepsSupervision fun u => by rw [(ownReads_same p u).2.1]; exact .refl u
  case commit seq p => cases h; exact State.serve_keepsSupervision (ownCommit_keepsSupervision p)
  case withdraw seq p => cases h; exact State.serve_keepsSupervision (ownWithdraw_keepsSupervision p)
  case writeOutput seq p => cases h; exact State.serve_keepsSupervision (ownWriteOutput_keepsSupervision p)
  case writeFallback seq p => cases h; exact State.serve_keepsSupervision (ownWriteFallback_keepsSupervision p)
  case publish seq p => cases h; exact State.serve_keepsSupervision (ownPublish_keepsSupervision p)
  case setSupervision seq p => cases h; exact State.serve_keepsSupervision (ownSetSupervision_keepsSupervision p)
  case resume seq p => cases h; exact State.serve_keepsSupervision (ownResume_keepsSupervision p)
  case hold seq p => cases h; exact State.serve_keepsSupervision (ownHold_keepsSupervision p)
  case readImage seq p =>
    cases h; exact State.serve_keepsSupervision fun u => by rw [(ownReads_same p u).2.2.1]; exact .refl u
  case readStatus seq p =>
    cases h; exact State.serve_keepsSupervision fun u => by rw [(ownReads_same p u).2.2.2.1]; exact .refl u
  case release seq p => cases h; exact State.serve_keepsSupervision (ownRelease_keepsSupervision p)
  case transact seq p => cases h; exact State.serve_keepsSupervision (ownTransact_keepsSupervision p)
  case cancel seq p => cases h; exact State.serve_keepsSupervision (ownCancel_keepsSupervision p)
  case readNode seq p =>
    cases h; exact State.serve_keepsSupervision fun u => by rw [(ownReads_same p u).2.2.2.2]; exact .refl u
  case forgetNode seq p => cases h; exact State.serve_keepsSupervision (ownForgetNode_keepsSupervision p)
  case fetch seq p => cases h; exact State.serve_keepsSupervision (ownFetch_keepsSupervision p)
  case duplicateReplay seq kind p =>
    cases h
    split
    · exact State.take_keepsSupervision .refl
    · exact .refl s
  case unknownKind seq kind p =>
    cases h
    split
    · exact .refl s
    · exact State.serve_keepsSupervision .refl
  case frameReceived byte mark | lengthNak byte mark =>
    cases h
    split
    · exact s.receiveByte_keepsSupervision byte mark
    · exact .refl s
  case hostByteReceived byte mark => cases h; exact s.receiveByte_keepsSupervision byte mark
  case powerOn => cases h; exact .cleared s ..
  case rstPin => exact execRstPin_keepsSupervision h
  case replySent => exact execReplySent_keepsSupervision h
  case resetEnd => exact execResetEnd_keepsSupervision h
  case supervisionExpiry => exact execSupervisionExpiry_keepsSupervision h
  case firstFrameStart => exact execFirstFrameStart_keepsSupervision h
  case frameClose => exact execFrameClose_keepsSupervision h
  case trigEdge => exact execTrigEdge_keepsSupervision h
  case postClaims i =>
    cases h
    split
    · exact s.postAll_keepsSupervision i
    · exact .refl s
  case syncEnd i =>
    cases h
    split
    · exact .onTimer
    · exact .refl s
  case echoMismatch l echo =>
    cases h
    split
    · exact s.failEcho_keepsSupervision l
    · exact .refl s
  case responseCharacterReceived l byte mark | responseComplete l byte mark | sleepCommandEnd l | acyclicTimeout tag =>
    cases h
    repeat' split
    all_goals exact .of_same
  case partialFrameDiscard | skipEnd | grant | claimExpiry | responseTimeout | characterLimitExpiry |
      broadcastComplete | sleepCommandStart | wakePulseEnd | settleEnd | nodeWake | lineFault | lineFaultRecovery =>
    cases h
    split <;> exact .of_same

theorem Timer.advance_pendingPublish (x : Timer) : x.advance.pendingPublish = x.pendingPublish := by
  unfold Timer.advance
  repeat' split
  all_goals rfl

/-- Time takes the remaining time down, and makes no publish pending (R125). -/
theorem State.pass_keepsSupervision (s : State) : s.KeepsSupervision s.pass := by
  obtain ⟨r, -, h | h⟩ | ⟨-, -, h⟩ | ⟨-, -, h⟩ := s.pass_cases
  · rw [h]; exact .of_same
  · rw [h]; exact .refl s
  · rw [h]; exact .of_same
  · rw [h]
    refine .trans (t := s.halfTick) .of_same (.of_supervisor (Supervisor.tick_mode _) Supervisor.InRange.tick ?_)
    intro i
    have hi : (s.halfTick.nextTick.timer i).pendingPublish = (s.halfTick.timer i).pendingPublish := by
      cases i <;> exact Timer.advance_pendingPublish _
    rw [hi]
    exact id

/-- Settles O33: every command keeps supervision, and so does the passing of time. -/
theorem supervisionKept : Obligations.SupervisionKept := fun s t hs h => by
  obtain ⟨c, q, hc⟩ | rfl := step_cases h
  · exact (exec_keepsSupervision (s := { s with pending := q }) hc).ok hs
  · exact s.pass_keepsSupervision.ok hs

end Sys2Proof.Machine
end

section
/-!
SUPPORT. The requests of the output store and of the host supervisor, and the expiry (R119 to R121, R126, R128, R130).
-/

set_option Elab.async false

namespace Sys2Proof.Machine

/-! ### WRITE_OUTPUT and WRITE_FALLBACK (R119, R120) -/

section
variable {t : TimerId} {offset : Nat} {data : List Byte}

/-- The fields of a write payload are read back from it (R168). -/
theorem writePayload_fields (ho : offset ≤ 65535) (hl : data.length ≤ 255) :
    (writePayload t offset data).length = 4 + data.length ∧ halfAt (writePayload t offset data) 1 = offset ∧
      byteAt (writePayload t offset data) 3 = data.length ∧ (writePayload t offset data).drop 4 = data :=
  ⟨by simp [writePayload, bytes2]; omega, halfAt_of_bytes ho rfl rfl, toNat_ofNat_byte hl, rfl⟩

/-- A write that lies within an image names its timer (R119). -/
theorem parseWrite_payload (h1 : 1 ≤ data.length) (h200 : data.length ≤ 200) (h512 : offset + data.length ≤ 512) :
    parseWrite (writePayload t offset data) = some t := by
  obtain ⟨hlength, hoffset, hcount, -⟩ :=
    writePayload_fields (t := t) (show offset ≤ 65535 by omega) (show data.length ≤ 255 by omega)
  rw [parseWrite, hlength, hoffset, hcount, if_pos ⟨by omega, rfl⟩,
    if_pos ⟨h1, h200, by omega, h512⟩]
  exact timerOf_timerCode t

/-- A write of no bytes, of more than 200, or beyond an image is refused (R119). -/
theorem parseWrite_outside (ho : offset ≤ 65535) (hl : data.length ≤ 246)
    (h : data.length = 0 ∨ 200 < data.length ∨ 512 < offset + data.length ∨ 511 < offset) :
    parseWrite (writePayload t offset data) = none := by
  obtain ⟨hlength, hoffset, hcount, -⟩ := writePayload_fields (t := t) ho (show data.length ≤ 255 by omega)
  have hout : ¬ (1 ≤ data.length ∧ data.length ≤ 200 ∧ offset ≤ 511 ∧ offset + data.length ≤ Config.outputSize) := by
    simp only [Config.outputSize]
    omega
  rw [parseWrite, hlength, hoffset, hcount, if_pos ⟨by omega, rfl⟩, if_neg hout]

end

/-! ### PUBLISH (R121) -/

theorem execPublish_answers {s u : State} {seq : Byte} {t : TimerId} {code : ReplyCode}
    (hr : s.ready (requestOf seq 0x11 [timerCode t]) = true)
    (h : s.taken.publishImage t = (u.taken, .plain code)) :
    exec (.publish seq [timerCode t]) s = .next (u.replied (requestOf seq 0x11 [timerCode t]) code []) := by
  have hown : ownPublish [timerCode t] s.taken = (u.taken, .plain code) := by simp [ownPublish, h]
  exact congrArg Host.Outcome.next (State.serve_replied hr hown)

section
variable {s : State} {t : TimerId}

theorem State.publishImage_expired (h : s.supervisor.mode = .expired) : s.publishImage t = refuse .hostLost s :=
  if_pos h

/-- With no frame in progress the staged image is copied at once. -/
theorem State.publishImage_now (h : s.supervisor.mode ≠ .expired) (hm : (s.timer t).mode.inFrame = false) :
    s.publishImage t =
      ((s.onOutputs t fun o => { o with active := o.staged }).onTimer t fun x => { x with pendingPublish := false },
        .plain .ok) := by
  rw [State.publishImage, if_neg h, if_neg (Bool.eq_false_iff.mp hm)]

/-- Within a frame the publish becomes pending, where it is not. -/
theorem State.publishImage_later (h : s.supervisor.mode ≠ .expired) (hm : (s.timer t).mode.inFrame = true) :
    s.publishImage t =
      if (s.timer t).pendingPublish then refuse .ok s
      else (s.onTimer t fun x => { x with pendingPublish := true }, .plain .pendingAccepted) := by
  rw [State.publishImage, if_neg h, if_pos hm]

end

/-- Settles O30: the two writes by their range, an image read back, and PUBLISH by the states of supervisor and
timer. -/
theorem outputWritesAndPublish : Obligations.OutputWritesAndPublish := by
  refine ⟨fun s seq t offset data ho hl => ⟨fun h1 h200 h512 => ?inside, fun hout => ?outside⟩,
    fun m offset data a hm => ?image, fun s seq t => ?publish⟩
  case inside =>
    obtain ⟨-, hoffset, -, hdata⟩ := writePayload_fields (t := t) ho (show data.length ≤ 255 by omega)
    have hparse : parseWrite (writePayload t offset data) = some t := parseWrite_payload h1 h200 h512
    refine ⟨fun hr => congrArg Host.Outcome.next (State.serve_replied hr ?_),
      fun hr => congrArg Host.Outcome.next (State.serve_replied hr ?_)⟩
    · rw [ownWriteOutput, hparse, hoffset, hdata]
      rfl
    · rw [ownWriteFallback, hparse, hoffset, hdata]
      rfl
  case outside =>
    have hparse : parseWrite (writePayload t offset data) = none := parseWrite_outside ho hl hout
    refine ⟨fun hr => congrArg Host.Outcome.next (State.serve_replied hr ?_),
      fun hr => congrArg Host.Outcome.next (State.serve_replied hr ?_)⟩
    · rw [ownWriteOutput, hparse]
      rfl
    · rw [ownWriteFallback, hparse]
      rfl
  case image =>
    rw [Memory.read_writeBytes offset a data hm]
    exact ⟨fun hlow hhigh => if_pos ⟨hlow, hhigh⟩, fun h => if_neg (by omega)⟩
  case publish =>
    intro rq answer hr
    refine ⟨fun he => ?_, fun he => ⟨fun hm => ?_, fun hm => ?_⟩⟩
    · exact execPublish_answers hr (State.publishImage_expired (s := s.taken) he)
    · refine execPublish_answers hr (State.publishImage_now (s := s.taken) he ?_)
      change (s.timer t).mode.inFrame = false
      obtain h | h | h := hm <;> rw [h] <;> rfl
    · have hframe : (s.timer t).mode.inFrame = true := by obtain h | h := hm <;> rw [h] <;> rfl
      have hlater := State.publishImage_later (s := s.taken) he hframe
      refine ⟨fun hp => ?_, fun hp => ?_⟩
      · exact execPublish_answers hr (hlater.trans (if_pos hp))
      · exact execPublish_answers hr (hlater.trans (if_neg (Bool.eq_false_iff.mp hp)))

/-! ### SET_SUPERVISION (R126) -/

theorem execSetSupervision_answers {s u : State} {seq : Byte} {period : Nat} {code : ReplyCode}
    (hp : period ≤ 65535) (hr : s.ready (requestOf seq 0x12 (bytes2 period)) = true)
    (h : s.taken.superviseFor period = (u.taken, .plain code)) :
    exec (.setSupervision seq (bytes2 period)) s =
      .next (u.replied (requestOf seq 0x12 (bytes2 period)) code []) := by
  have hperiod : halfAt (bytes2 period) 0 = period := halfAt_of_bytes hp rfl rfl
  have hown : ownSetSupervision (bytes2 period) s.taken = (u.taken, .plain code) := by
    rw [ownSetSupervision, if_pos (show (bytes2 period).length = 2 from rfl), hperiod, h]
  exact congrArg Host.Outcome.next (State.serve_replied hr hown)

section
variable {s : State} {period : Nat}

theorem State.superviseFor_outside (h : (1 ≤ period ∧ period ≤ 9) ∨ 60000 < period) :
    s.superviseFor period = refuse .badArg s := if_pos h

theorem State.superviseFor_expired (h : s.supervisor.mode = .expired)
    (hp : period = 0 ∨ (10 ≤ period ∧ period ≤ 60000)) : s.superviseFor period = refuse .badState s := by
  rw [State.superviseFor, if_neg (by omega), if_pos h]

theorem State.superviseFor_zero (h : s.supervisor.mode ≠ .expired) :
    s.superviseFor 0 = ({ s with supervisor := { mode := .off, period := 0, remaining := 0 } }, .plain .ok) := by
  rw [State.superviseFor, if_neg (by omega), if_neg h, if_pos rfl]

theorem State.superviseFor_arms (h : s.supervisor.mode ≠ .expired) (hlow : 10 ≤ period) (hhigh : period ≤ 60000) :
    s.superviseFor period =
      ({ s with supervisor := { mode := .armed, period := period, remaining := period * 1000 } }, .plain .ok) := by
  rw [State.superviseFor, if_neg (by omega), if_neg h, if_neg (by omega)]

end

/-- Settles O31: the four steps of R126, in their order. -/
theorem setSupervisionByPeriod : Obligations.SetSupervisionByPeriod := by
  intro s seq period hp rq answer hr
  refine ⟨fun hout => ?_, fun he hin => ?_, fun he hz => ?_, fun he hlow hhigh => ?_⟩
  · exact execSetSupervision_answers hp hr (State.superviseFor_outside hout)
  · exact execSetSupervision_answers hp hr (State.superviseFor_expired (s := s.taken) he hin)
  · subst hz
    exact execSetSupervision_answers hp hr (State.superviseFor_zero (s := s.taken) he)
  · exact execSetSupervision_answers hp hr (State.superviseFor_arms (s := s.taken) he hlow hhigh)

/-! ### The expiry and RESUME (R128, R130) -/

/-- An armed fallback image becomes the active image, and nothing else changes (R128). -/
theorem Outputs.fallBack_eq (o : Outputs) :
    o.fallBack = { o with active := if o.armed then o.fallback else o.active } := by
  unfold Outputs.fallBack
  split <;> rfl

/-- Settles O32: the expiry in full, and RESUME by the supervisor's state. -/
theorem expiryAndResume : Obligations.ExpiryAndResume := by
  refine ⟨fun s hs hm h0 => ?expiry, fun s seq => ?resume⟩
  case expiry =>
    have hover : s.supervisionOver = true := by simp [State.supervisionOver, hs, hm, h0]
    refine congrArg Host.Outcome.next ((if_pos hover).trans ?_)
    simp only [State.expireHost, Outputs.fallBack_eq]
    rfl
  case resume =>
    intro rq hr
    refine ⟨fun he => ?_, fun he => ?_⟩
    · exact congrArg Host.Outcome.next (State.serve_replied (owner := ownResume []) hr (if_pos he))
    · exact congrArg Host.Outcome.next (State.serve_replied (u := s) (owner := ownResume []) hr (if_neg he))

end Sys2Proof.Machine
end

section
/-!
SUPPORT. The receive side of the host link: a NAK, the judgement of a frame, and the bytes of a good frame taken one by
one from HUNT (R127, R155, R156, R158).
-/

set_option Elab.async false

namespace Sys2Proof.Machine

/-! ### The judgement of a frame (R156) -/

/-- A NAK is queued, or lost, in the message controller alone (R158). -/
theorem State.nak_eq (s : State) (seq : Byte) (code : NakCode) :
    s.nak seq code = { s with link := s.link.nakked seq code } := by
  unfold State.nak Link.nakked
  split
  · next h => exact congrArg (fun k => { s with link := k }) (if_pos h).symm
  · next h => exact congrArg (fun k => { s with link := k }) (if_neg h).symm

section
variable {s : State} {got : List Byte} {marked : Bool}

/-- A framing mark or a CRC other than that of the bytes before it. -/
theorem State.judgeFrame_bad
    (h : marked = true ∨ halfAt got (4 + halfAt got 0) ≠ (crc16 (got.take (4 + halfAt got 0))).toNat) :
    s.judgeFrame got marked = s.nak (got.getD 2 0) .check := by
  refine if_pos ?_
  rw [Bool.or_eq_true, bne_iff_ne]
  refine h.imp_right fun hne heq => hne ?_
  rw [← heq, BitVec.toNat_ofNat, Nat.mod_eq_of_lt (halfAt_lt ..)]

/-- A good frame is host activity; its request is stored where a place is left, or a QUEUE NAK is queued (R127). -/
theorem State.judgeFrame_good (hm : marked = false)
    (hcrc : halfAt got (4 + halfAt got 0) = (crc16 (got.take (4 + halfAt got 0))).toNat) :
    s.judgeFrame got marked =
      if s.link.requests.length < 4 then
        { s with
          supervisor := s.supervisor.active
          link := { s.link with
            requests := s.link.requests ++
              [{ seq := got.getD 2 0, kind := got.getD 3 0, payload := (got.drop 4).take (halfAt got 0)
                 crc := crc16 (got.take (4 + halfAt got 0)) }] } }
      else { s with supervisor := s.supervisor.active, link := s.link.nakked (got.getD 2 0) .queue } := by
  have hgood : ¬ (marked || BitVec.ofNat 16 (halfAt got (4 + halfAt got 0)) !=
      crc16 (got.take (4 + halfAt got 0))) = true := by
    simp [hm, hcrc]
  refine (if_neg hgood).trans ?_
  simp only [State.nak_eq, State.hostActivity_eq]
  rfl

end

/-! ### The second CRC byte (R156) -/

theorem halfAt_append {p q : List Byte} {i : Nat} (h : i + 2 ≤ p.length) : halfAt (p ++ q) i = halfAt p i := by
  simp only [halfAt, byteAt, List.getD_append _ _ _ _ (show i < p.length by omega),
    List.getD_append _ _ _ _ (show i + 1 < p.length by omega)]

/-- The second CRC byte of a frame completes it, and the frame is judged. -/
theorem State.receiveByte_last {s : State} (hr : s.resetting = none) (he : s.link.early = false)
    (hx : s.link.rx = .crc) (hl : s.link.got.length + 1 = 6 + halfAt s.link.got 0) (byte : Byte) (mark : Bool) :
    s.receiveByte byte mark =
      State.judgeFrame { s with link := { s.link.leavesFrame .hunt with gap := 0 } } (s.link.got ++ [byte])
        (s.link.marked || mark) := by
  rw [State.receiveByte, if_neg (by simp [hr]), if_neg (by simp [he])]
  simp only [hx, hl, if_true]
  rfl

/-- The second CRC byte by either row. -/
theorem exec_lastByte {s : State} {byte : Byte} {mark : Bool} {c : Instr} (hr : s.resetting = none)
    (he : s.link.early = false) (hx : s.link.rx = .crc) (hl : s.link.got.length + 1 = 6 + halfAt s.link.got 0)
    (hc : c = .frameReceived byte mark ∨ c = .hostByteReceived byte mark) :
    exec c s =
      .next (State.judgeFrame { s with link := { s.link.leavesFrame .hunt with gap := 0 } } (s.link.got ++ [byte])
        (s.link.marked || mark)) := by
  rw [← State.receiveByte_last hr he hx hl]
  obtain rfl | rfl := hc
  · exact congrArg Host.Outcome.next (if_pos (by simp [Link.atFrameEnd, hx, hl]))
  · rfl

/-- Settles O12: the judgement of the frame that the byte completes. -/
theorem frameReceivedJudgesFrame : Obligations.FrameReceivedJudgesFrame := by
  intro s byte mark c hr he hx hl hc len whole crc k
  have hlen : halfAt whole 0 = len := halfAt_append (by omega)
  have hexec := exec_lastByte hr he hx hl hc
  refine ⟨fun hbad => ?_, fun hm hmark hcrc hroom => ?_, fun hm hmark hcrc hfull => ?_⟩
  · rw [hexec, State.judgeFrame_bad, State.nak_eq]
    rw [hlen, Bool.or_eq_true, or_assoc]
    exact hbad
  · rw [hexec, State.judgeFrame_good (by rw [hm, hmark]; rfl) (by rw [hlen]; exact hcrc)]
    refine (congrArg Host.Outcome.next (if_pos hroom)).trans ?_
    rw [hlen]
    rfl
  · rw [hexec, State.judgeFrame_good (by rw [hm, hmark]; rfl) (by rw [hlen]; exact hcrc)]
    exact congrArg Host.Outcome.next (if_neg (Nat.not_lt.mpr hfull))

end Sys2Proof.Machine
end

section
/-!
SUPPORT. The bytes of a good frame, taken one by one from HUNT (R154 to R156, R166), and the characters of the host link
on RXD and TXD (R153, R162).
-/

set_option Elab.async false

namespace Sys2Proof.Machine

/-! ### The bytes of a frame (R155) -/

/-- The state with the receive side within a frame, no framing mark so far. -/
def State.receiving (s : State) (rx : RxMode) (got : List Byte) : State :=
  { s with link := { s.link with rx := rx, got := got, marked := false, gap := 0 } }

/-- The receive state after one more byte of a frame that goes on, by the bytes before it (R155). -/
def RxMode.after (rx : RxMode) (got : List Byte) : RxMode :=
  match rx with
  | .length => if got.length = 1 then .sequence else .length
  | .sequence => .kind
  | .kind => if halfAt got 0 = 0 then .crc else .payload
  | .payload => if got.length + 1 = 4 + halfAt got 0 then .crc else .payload
  | rx => rx

/-- The bytes of the host taken by the receive side, none with a framing mark. -/
def State.receiveAll (s : State) (bytes : List Byte) : State := bytes.foldl (fun u b => u.receiveByte b false) s

theorem State.receiveAll_append (s : State) (xs ys : List Byte) :
    s.receiveAll (xs ++ ys) = (s.receiveAll xs).receiveAll ys := List.foldl_append ..

theorem execAll_hostBytes (bytes : List Byte) (s : State) :
    execAll (bytes.map fun b => .hostByteReceived b false) s = .next (s.receiveAll bytes) := by
  induction bytes generalizing s with
  | nil => rfl
  | cons b bytes ih => exact ih (s.receiveByte b false)

theorem byteAt_append_right (p q : List Byte) (i : Nat) : byteAt (p ++ q) (p.length + i) = byteAt q i := by
  rw [byteAt, List.getD_append_right _ _ _ _ (Nat.le_add_right ..), Nat.add_sub_cancel_left, byteAt]

/-- A half-word laid out after other bytes is read back (R166). -/
theorem halfAt_append_bytes2 (p : List Byte) {x : Nat} (h : x ≤ 65535) : halfAt (p ++ bytes2 x) p.length = x :=
  halfAt_of_bytes h (byteAt_append_right p (bytes2 x) 0) (byteAt_append_right p (bytes2 x) 1)

theorem halfAt_bytes2_append {x : Nat} (h : x ≤ 65535) (rest : List Byte) : halfAt (bytes2 x ++ rest) 0 = x :=
  halfAt_of_bytes h rfl rfl

/-- The bytes of a frame that its CRC covers: length, sequence, kind and payload (R154). -/
def frameBody (seq kind : Byte) (p : List Byte) : List Byte := bytes2 p.length ++ seq :: kind :: p

theorem frameBody_length (seq kind : Byte) (p : List Byte) : (frameBody seq kind p).length = 4 + p.length := by
  simp [frameBody, bytes2]
  omega

theorem halfAt_frameBody {seq kind : Byte} {p : List Byte} (h : p.length ≤ 65535) (rest : List Byte) :
    halfAt (frameBody seq kind p ++ rest) 0 = p.length := by
  rw [frameBody, List.append_assoc, halfAt_bytes2_append h]

section
variable {s : State} (hr : s.resetting = none) (he : s.link.early = false)
include hr he

/-- The start byte begins a frame (R155). -/
theorem State.receiveByte_start (hx : s.link.rx = .hunt) :
    s.receiveByte Config.startByte false = s.receiving .length [] := by
  rw [State.receiveByte, if_neg (by simp [hr]), if_neg (by simp [he])]
  simp only [hx, and_self, if_true]
  rfl

/-- A byte of a frame that is neither too long nor complete with it is collected (R155). -/
theorem State.receiveByte_receiving {rx : RxMode} {got : List Byte} (hx : rx.inFrame = true)
    (hlong : rx ≠ .sequence ∨ halfAt got 0 ≤ 250) (hlast : rx ≠ .crc ∨ got.length + 1 ≠ 6 + halfAt got 0) (b : Byte) :
    (s.receiving rx got).receiveByte b false = s.receiving (rx.after got) (got ++ [b]) := by
  rw [State.receiveByte, if_neg (by simp [State.receiving, hr]), if_neg (by simp [State.receiving, he])]
  cases rx with
  | hunt | skip => cases hx
  | length | kind | payload => rfl
  | sequence => exact if_neg (Nat.not_lt.mpr (hlong.resolve_left (not_not.mpr rfl)))
  | crc => exact if_neg (hlast.resolve_left (not_not.mpr rfl))

/-- The payload fills, and CRC follows (R155). -/
theorem State.receiveAll_payload {p got : List Byte} (hp : p ≠ []) (h2 : 2 ≤ got.length)
    (hl : got.length + p.length = 4 + halfAt got 0) :
    (s.receiving .payload got).receiveAll p = s.receiving .crc (got ++ p) := by
  induction p generalizing got with
  | nil => exact absurd rfl hp
  | cons b p ih =>
    change ((s.receiving .payload got).receiveByte b false).receiveAll p = _
    rw [State.receiveByte_receiving hr he rfl (.inl (by decide)) (.inl (by decide))]
    rw [List.length_cons] at hl
    cases p with
    | nil => exact congrArg (s.receiving · (got ++ [b])) (if_pos hl)
    | cons c p =>
      have hhalf : halfAt (got ++ [b]) 0 = halfAt got 0 := halfAt_append h2
      have hlength : (got ++ [b]).length = got.length + 1 := List.length_append
      rw [List.length_cons] at hl
      rw [RxMode.after, if_neg (by omega), ih nofun (by omega) (by rw [hlength, hhalf, List.length_cons]; omega),
        List.append_assoc]
      rfl

/-- Length, sequence and kind fill; the payload follows, or CRC where it is empty (R154, R155). -/
theorem State.receiveAll_head {n : Nat} (hn : n ≤ 250) (seq kind : Byte) :
    (s.receiving .length []).receiveAll (bytes2 n ++ [seq, kind]) =
      s.receiving (if n = 0 then .crc else .payload) (bytes2 n ++ [seq, kind]) := by
  obtain ⟨low, high, hbytes⟩ : ∃ low high, bytes2 n = [low, high] := ⟨_, _, rfl⟩
  have hlen (rest : List Byte) : halfAt (low :: high :: rest) 0 = n := by
    have h := halfAt_bytes2_append (show n ≤ 65535 by omega) rest
    rwa [hbytes] at h
  have hlow : (s.receiving .length []).receiveByte low false = s.receiving .length [low] :=
    State.receiveByte_receiving hr he rfl (.inl (by decide)) (.inl (by decide)) low
  have hhigh : (s.receiving .length [low]).receiveByte high false = s.receiving .sequence [low, high] :=
    State.receiveByte_receiving hr he rfl (.inl (by decide)) (.inl (by decide)) high
  have hseq : (s.receiving .sequence [low, high]).receiveByte seq false = s.receiving .kind [low, high, seq] :=
    State.receiveByte_receiving hr he rfl (.inr ((hlen []).trans_le hn)) (.inl (by decide)) seq
  have hkind := State.receiveByte_receiving (rx := .kind) (got := [low, high, seq]) hr he rfl (.inl (by decide))
    (.inl (by decide)) kind
  rw [RxMode.after, hlen] at hkind
  simp only [State.receiveAll, hbytes, List.cons_append, List.nil_append, List.foldl_cons, List.foldl_nil, hlow, hhigh,
    hseq, hkind]

/-- Length, sequence, kind and payload fill, and CRC follows (R154, R155). -/
theorem State.receiveAll_body {p : List Byte} (hp : p.length ≤ 250) (seq kind : Byte) :
    (s.receiving .length []).receiveAll (frameBody seq kind p) = s.receiving .crc (frameBody seq kind p) := by
  have hsplit : frameBody seq kind p = (bytes2 p.length ++ [seq, kind]) ++ p := by simp [frameBody]
  rw [hsplit, State.receiveAll_append, State.receiveAll_head hr he hp]
  cases p with
  | nil => rw [List.append_nil]; rfl
  | cons b p =>
    refine State.receiveAll_payload hr he nofun (by simp [bytes2]) ?_
    rw [halfAt_bytes2_append (by omega)]
    simp [bytes2]

/-- A good frame, taken from HUNT, is judged with all its bytes (R156). -/
theorem State.receiveAll_frame (hx : s.link.rx = .hunt) {p : List Byte} (hp : p.length ≤ 250) (seq kind : Byte)
    (crc : Half) :
    s.receiveAll (Config.startByte :: (frameBody seq kind p ++ bytes2 crc.toNat)) =
      (s.receiving .hunt []).judgeFrame (frameBody seq kind p ++ bytes2 crc.toNat) false := by
  obtain ⟨low, high, hbytes⟩ : ∃ low high, bytes2 crc.toNat = [low, high] := ⟨_, _, rfl⟩
  have hlen := frameBody_length seq kind p
  have hhalf := halfAt_frameBody (seq := seq) (kind := kind) (show p.length ≤ 65535 by omega)
  have hfirst : (s.receiving .crc (frameBody seq kind p)).receiveByte low false =
      s.receiving .crc (frameBody seq kind p ++ [low]) := by
    have h := hhalf []
    rw [List.append_nil] at h
    exact State.receiveByte_receiving (rx := .crc) hr he rfl (.inl (by decide)) (.inr (by omega)) low
  have hlast : (s.receiving .crc (frameBody seq kind p ++ [low])).receiveByte high false =
      (s.receiving .hunt []).judgeFrame (frameBody seq kind p ++ [low] ++ [high]) false :=
    State.receiveByte_last (s := s.receiving .crc (frameBody seq kind p ++ [low])) hr he rfl
      (by change (frameBody seq kind p ++ [low]).length + 1 = 6 + halfAt (frameBody seq kind p ++ [low]) 0
          rw [hhalf, List.length_append, hlen, List.length_singleton]
          omega) high false
  change (s.receiveByte Config.startByte false).receiveAll _ = _
  rw [State.receiveByte_start hr he hx, State.receiveAll_append, State.receiveAll_body hr he hp, hbytes]
  change ((s.receiving .crc (frameBody seq kind p)).receiveByte low false).receiveByte high false = _
  rw [hfirst, hlast, List.append_assoc]
  rfl

/-- A good frame, taken from HUNT with a place in the request queue, stores the request it spells (R127, R156). -/
theorem execAll_frame (hx : s.link.rx = .hunt) (hroom : s.link.requests.length < 4) {p : List Byte}
    (hp : p.length ≤ 250) (seq kind : Byte) :
    execAll ((Config.startByte :: (frameBody seq kind p ++ bytes2 (frameCrc seq kind p).toNat)).map
        fun b => .hostByteReceived b false) s =
      .next { s with
        supervisor := s.supervisor.active
        link := { s.link with
          requests := s.link.requests ++ [requestOf seq kind p]
          rx := .hunt, got := [], marked := false, gap := 0 } } := by
  have hlen := frameBody_length seq kind p
  have hhalf := halfAt_frameBody (seq := seq) (kind := kind) (show p.length ≤ 65535 by omega)
    (bytes2 (frameCrc seq kind p).toNat)
  have hbody : (frameBody seq kind p ++ bytes2 (frameCrc seq kind p).toNat).take (4 + p.length) =
      frameBody seq kind p := by rw [← hlen, List.take_left]
  have hcrc : halfAt (frameBody seq kind p ++ bytes2 (frameCrc seq kind p).toNat) (4 + p.length) =
      (frameCrc seq kind p).toNat := by
    rw [← hlen, halfAt_append_bytes2 _ (Nat.le_of_lt_succ (BitVec.isLt _))]
  have hpayload : ((frameBody seq kind p ++ bytes2 (frameCrc seq kind p).toNat).drop 4).take p.length = p :=
    List.take_left
  rw [execAll_hostBytes, State.receiveAll_frame hr he hx hp,
    State.judgeFrame_good rfl (by rw [hhalf, hcrc, hbody]; rfl), hhalf, hbody, hpayload]
  exact congrArg Host.Outcome.next (if_pos hroom)

end

/-! ### Characters of the host link (R153) -/

/-- Data bit i of a character is at the stop-bit level exactly when it is 1. -/
theorem linkCharacterLevel_data (b : Byte) {i : Nat} (hi : i < 8) :
    linkCharacterLevel b (i + 1) = .stop ↔ b.getLsbD i = true := by
  rw [linkCharacterLevel, if_neg (Nat.succ_ne_zero i), if_pos (Nat.succ_le_of_lt hi), Nat.add_sub_cancel]
  split
  · next h => simp [h]
  · next h => simp [h]

/-- Bit i of the byte that eight data bits spell is set exactly when data bit i is at the stop-bit level. -/
theorem linkData_getLsbD (bits : List LinkLevel) {i : Nat} (hi : i < 8) :
    (BitVec.ofNat 8 (linkData bits)).getLsbD i = true ↔ bits[i]? = some .stop := by
  rw [BitVec.getLsbD_ofNat, decide_eq_true hi, Bool.true_and, linkData_testBit]

/-- The data bits of a character spell its byte. -/
theorem linkData_character (b : Byte) :
    BitVec.ofNat 8 (linkData ((List.range 8).map fun i => linkCharacterLevel b (i + 1))) = b :=
  BitVec.eq_of_getLsbD_eq fun i hi => Bool.eq_iff_iff.mpr <| by
    rw [linkData_getLsbD _ hi, ← linkCharacterLevel_data b hi]
    simp [hi]

/-- Ten levels are a first one, eight data bits and a last one. -/
theorem exists_character {levels : List LinkLevel} (h : levels.length = 10) :
    ∃ first bits last, levels = first :: (bits ++ [last]) ∧ bits.length = 8 := by
  match levels, h with
  | [a, b, c, d, e, f, g, i, j, k], _ => exact ⟨a, [b, c, d, e, f, g, i, j], k, rfl, rfl⟩

/-- Ten levels from a start bit are a byte with its framing mark. -/
theorem rxdCommand_start {bits : List LinkLevel} (h : bits.length = 8) (last : LinkLevel) :
    rxdCommand (.start :: (bits ++ [last])) =
      some (.hostByteReceived (BitVec.ofNat 8 (linkData bits)) (last == .start)) := by
  match bits, h with
  | [_, _, _, _, _, _, _, _], _ => rfl

/-- A character sent arrives as it was sent. -/
theorem rxdCommand_character (b : Byte) :
    rxdCommand ((List.range 10).map (linkCharacterLevel b)) = some (.hostByteReceived b false) := by
  have hlevels : (List.range 10).map (linkCharacterLevel b) =
      .start :: ((List.range 8).map (fun i => linkCharacterLevel b (i + 1)) ++ [.stop]) := rfl
  rw [hlevels, rxdCommand_start (by simp), linkData_character]
  rfl

/-- The levels of the bit times of a reply's characters, back to back (R153, R162). -/
theorem Reply.level_char {r : Reply} {i j : Nat} {b : Byte} (hb : r.frame[i]? = some b) (hj : j < 10) :
    r.level (10 * i + j) = linkCharacterLevel b j := by
  rw [Reply.level, show (10 * i + j) / 10 = i by omega, show (10 * i + j) % 10 = j by omega, hb]

/-- After the last character of a reply TXD is idle (R162). -/
theorem Reply.level_out {r : Reply} {bit : Nat} (h : (7 + r.payload.length) * 10 ≤ bit) : r.level bit = .stop := by
  rw [Reply.level, List.getElem?_eq_none (by rw [Reply.frame_length]; omega)]

theorem State.txd_reply {s : State} {r : Reply} {rest : List Reply} (hr : s.resetting = none)
    (hq : s.link.replies = r :: rest) : s.txd = r.level (s.link.sending / 2000000) := by
  rw [State.txd, hr, hq]
  rfl

/-- Settles O11: the frame byte by byte, the character on RXD both ways, and TXD by the oldest reply. -/
theorem hostFrameYieldsItsRequest : Obligations.HostFrameYieldsItsRequest := by
  refine ⟨fun s seq kind p hr he hx hp hroom => execAll_frame hr he hx hroom hp seq kind,
    fun b => ⟨rfl, rfl, fun i => linkCharacterLevel_data b, rxdCommand_character b⟩,
    fun levels hl => ?rxd, fun s => ⟨fun r rest hr hq => ⟨fun i j b hb hj hbit => ?sending, fun hout => ?out⟩, ?idle⟩⟩
  case rxd =>
    obtain ⟨first, bits, last, rfl, hbits⟩ := exists_character hl
    refine ⟨fun hstart => ?_, fun hstop => ?_⟩
    · cases hstart
      refine ⟨_, _, rxdCommand_start hbits last, fun i hi => ?_, ?_⟩
      · rw [linkData_getLsbD bits hi, List.getElem?_cons_succ, List.getElem?_append_left (by omega)]
      · rw [List.getElem?_cons_succ, ← hbits, List.getElem?_concat_length, beq_iff_eq, Option.some_inj]
    · cases hstop
      rfl
  case sending =>
    rw [State.txd_reply hr hq, hbit]
    exact Reply.level_char hb hj
  case out =>
    rw [State.txd_reply hr hq]
    exact Reply.level_out hout
  case idle =>
    intro h
    exact State.txd_idle (by obtain h | h := h <;> simp [State.txdSending, h])

end Sys2Proof.Machine
end

section
/-!
SUPPORT. What the blocks make of the acyclic table (R131): every operation outside the message controller leaves its
queues alone, and entries change without their tags or leave the table (`State.KeepsEntries`); one is added at TRANSACT
alone, where a place and its tag are free (R132).
-/

set_option Elab.async false

namespace Sys2Proof.Machine

/-! ### The two limits -/

/-- At most four requests and four replies wait (R159). -/
def Link.QueuesOk (k : Link) : Prop := k.requests.length ≤ 4 ∧ k.replies.length ≤ 4

/-- At most 16 acyclic entries with pairwise distinct tags (R131). -/
def EntriesOk (entries : List AcyclicEntry) : Prop := entries.length ≤ 16 ∧ (entries.map AcyclicEntry.tag).Nodup

theorem State.queuesOk_iff {s : State} : s.QueuesOk ↔ s.link.QueuesOk ∧ EntriesOk s.acyclic := by
  simp only [State.QueuesOk, Link.QueuesOk, EntriesOk, and_assoc]

/-- Where the tags that are left are among those before, in order, the entries keep their limit. -/
theorem EntriesOk.of_sublist {old new : List AcyclicEntry} (h : EntriesOk old)
    (hsub : (new.map AcyclicEntry.tag).Sublist (old.map AcyclicEntry.tag)) : EntriesOk new := by
  obtain ⟨hlength, hnodup⟩ := h
  refine ⟨?_, hnodup.sublist hsub⟩
  simpa using hsub.length_le.trans (by simpa using hlength)

/-- An entry that finds a place and a tag not in use (R132 steps 2 and 3). -/
theorem EntriesOk.concat {entries : List AcyclicEntry} (h : EntriesOk entries) {e : AcyclicEntry}
    (hroom : entries.length < 16) (hnew : ∀ x ∈ entries, x.tag ≠ e.tag) : EntriesOk (entries ++ [e]) := by
  obtain ⟨-, hnodup⟩ := h
  refine ⟨by simpa using hroom, ?_⟩
  rw [List.map_append, List.nodup_append]
  refine ⟨hnodup, List.nodup_singleton _, fun g hg f hf => ?_⟩
  obtain ⟨x, hx, rfl⟩ := List.mem_map.mp hg
  rw [List.mem_singleton.mp hf]
  exact hnew x hx

/-! ### Changes outside the message controller -/

/-- A change that leaves the message controller alone and keeps the acyclic entries within their limit. -/
structure State.KeepsEntries (s t : State) : Prop where
  link : t.link = s.link
  entries : EntriesOk s.acyclic → EntriesOk t.acyclic

theorem State.KeepsEntries.trans {s t u : State} (h : s.KeepsEntries t) (k : t.KeepsEntries u) : s.KeepsEntries u :=
  ⟨k.link.trans h.link, k.entries ∘ h.entries⟩

theorem State.KeepsEntries.of_same {s t : State} (hlink : t.link = s.link := by simp)
    (hacyclic : t.acyclic = s.acyclic := by simp) : s.KeepsEntries t :=
  ⟨hlink, by rw [hacyclic]; exact id⟩

theorem State.KeepsEntries.refl (s : State) : s.KeepsEntries s := .of_same

/-- Entries change without their tags, or leave the table. -/
theorem State.KeepsEntries.of_sublist {s t : State} (hlink : t.link = s.link)
    (hsub : (t.acyclic.map AcyclicEntry.tag).Sublist (s.acyclic.map AcyclicEntry.tag)) : s.KeepsEntries t :=
  ⟨hlink, fun h => h.of_sublist hsub⟩

/-- What every single step of a fold is, the fold is. -/
theorem State.KeepsEntries.foldl {α : Type} {f : State → α → State}
    (h : ∀ (s : State) a, s.KeepsEntries (f s a)) (xs : List α) (s : State) : s.KeepsEntries (xs.foldl f s) :=
  List.foldlRecOn (motive := s.KeepsEntries) xs f (.refl s) fun u hu a _ => hu.trans (h u a)

theorem State.onAcyclic_keepsEntries (s : State) (tag : Half) {f : AcyclicEntry → AcyclicEntry}
    (hf : ∀ e, (f e).tag = e.tag) : s.KeepsEntries (s.onAcyclic tag f) := by
  refine .of_sublist rfl ?_
  have htags : (s.onAcyclic tag f).acyclic.map AcyclicEntry.tag = s.acyclic.map AcyclicEntry.tag := by
    simp only [State.onAcyclic, List.map_map]
    refine List.map_congr_left fun e _ => ?_
    simp only [Function.comp_apply]
    split
    · exact hf e
    · rfl
  rw [htags]

/-! ### Entries that complete -/

theorem State.completeAcyclic_keepsEntries (s : State) (tag : Half) (o : Outcome) (n : Nat) (d : List Byte) :
    s.KeepsEntries (s.completeAcyclic tag o n d) :=
  .of_sublist rfl (List.filter_sublist.map _)

theorem State.dropAcyclic_keepsEntries (s : State) (e : AcyclicEntry) (o : Outcome) :
    s.KeepsEntries (s.dropAcyclic e o) := by
  have hgone : (s.dropAcyclic e o).acyclic = s.acyclic.filter fun x => x.tag != e.tag := by
    simp [State.dropAcyclic, State.completeAcyclic]
  refine .of_sublist (by simp) ?_
  rw [hgone]
  exact List.filter_sublist.map _

theorem State.timeOut_keepsEntries (s : State) (e : AcyclicEntry) : s.KeepsEntries (s.timeOut e) := by
  unfold State.timeOut
  split
  · exact s.onAcyclic_keepsEntries e.tag fun _ => rfl
  · exact s.dropAcyclic_keepsEntries e .expired

theorem State.deliverWaiting_keepsEntries (s : State) (l : LaneId) (o : Outcome) (c : Claim) :
    s.KeepsEntries (s.deliverWaiting l o c) := by
  cases c with
  | cyclic k => exact .of_same (by simp) (s.deliverWaiting_cyclic_acyclic l o k)
  | acyclic tag a =>
    simp only [State.deliverWaiting]
    split
    · exact (s.completeAcyclic_keepsEntries tag o a.waited []).trans .of_same
    · exact .refl s

theorem State.resolveAll_keepsEntries (s : State) (l : LaneId) (o : Outcome) : s.KeepsEntries (s.resolveAll l o) :=
  .trans (t := s.onLane l fun x => { x with claims := [] }) .of_same
    (.foldl (fun u c => u.deliverWaiting_keepsEntries l o c) _ _)

theorem State.enterSleeping_keepsEntries (s : State) (l : LaneId) : s.KeepsEntries (s.enterSleeping l) :=
  .trans .of_same (State.resolveAll_keepsEntries ..)

theorem State.clearFlight_keepsEntries (s : State) (l : LaneId) : s.KeepsEntries (s.clearFlight l) := by
  unfold State.clearFlight
  dsimp only
  split
  · exact .trans .of_same (State.enterSleeping_keepsEntries ..)
  · exact .of_same

theorem State.placeRetry_keepsEntries (s : State) (l : LaneId) (o : Outcome) (c : Claim) :
    s.KeepsEntries (s.placeRetry l o c) := by
  cases c with
  | cyclic k => exact .of_same rfl rfl
  | acyclic tag a =>
    exact .trans (t := s.onLane l fun x => { x with claims := insertAcyclicRetry (.acyclic tag a) x.claims }) .of_same
      (State.onAcyclic_keepsEntries _ tag fun _ => rfl)

theorem State.deliverFinal_keepsEntries (s : State) (l : LaneId) (f : InFlight) (o : Outcome) (d : List Byte) :
    s.KeepsEntries (s.deliverFinal l f o d) := by
  unfold State.deliverFinal
  split
  · exact .of_same
  · next tag a _ => exact (s.completeAcyclic_keepsEntries tag o a.sent d).trans .of_same

theorem State.endTransaction_keepsEntries (s : State) (l : LaneId) (f : InFlight) (o : Outcome) (d : List Byte) :
    s.KeepsEntries (s.endTransaction l f o d) := by
  unfold State.endTransaction
  split
  · exact (s.clearFlight_keepsEntries l).trans (State.placeRetry_keepsEntries ..)
  · exact (s.clearFlight_keepsEntries l).trans (State.deliverFinal_keepsEntries ..)

theorem State.failEcho_keepsEntries (s : State) (l : LaneId) : s.KeepsEntries (s.failEcho l) := by
  unfold State.failEcho
  split
  · exact s.endTransaction_keepsEntries ..
  · split <;> exact .of_same

theorem State.markGranted_keepsEntries (s : State) (c : Claim) : s.KeepsEntries (s.markGranted c) := by
  cases c with
  | cyclic k => exact .refl s
  | acyclic tag a => exact s.onAcyclic_keepsEntries tag fun _ => rfl

/-! ### Frames and stops -/

theorem State.postAll_keepsEntries (s : State) (i : TimerId) : s.KeepsEntries (s.postAll i) :=
  s.postAll_keeps (.refl s) (fun u _ e _ _ _ hu => hu.trans (.of_same (by simp) (u.post_acyclic e _)))
    fun _ _ hu => hu.trans .of_same

theorem State.openFirst_keepsEntries {s t : State} {i : TimerId} (h : s.openFirst i = some t) : s.KeepsEntries t := by
  unfold State.openFirst at h
  rw [Option.map_eq_some_iff] at h
  obtain ⟨u, hu, rfl⟩ := h
  obtain ⟨bs, -, rfl⟩ := State.firstFrame_some hu
  exact .trans .of_same (State.postAll_keepsEntries _ i)

theorem State.openNext_keepsEntries (s : State) (i : TimerId) : s.KeepsEntries (s.openNext i) :=
  .trans (t := s.nextFrame i) (.of_same (by simp [State.nextFrame]) (by simp [State.nextFrame]))
    (State.postAll_keepsEntries _ i)

theorem State.close_keepsEntries {s t : State} {i : TimerId} (h : s.close i = some t) : s.KeepsEntries t := by
  refine .trans (t := s.closeFrame i) .of_same ?_
  unfold State.close at h
  dsimp only at h
  split at h
  · cases h
    rw [State.drain_eq_stopped]
    exact .of_same
  · rw [Option.map_eq_some_iff] at h
    obtain ⟨u, hu, rfl⟩ := h
    obtain ⟨bs, -, rfl⟩ := State.prepareNext_some hu
    split
    · exact .of_same
    · exact .trans .of_same (State.openNext_keepsEntries _ i)

theorem State.stopWaiting_keepsEntries (s : State) (i : TimerId) : s.KeepsEntries (s.stopWaiting i) := by
  rw [State.stopWaiting_eq_stopped]
  exact .of_same

theorem State.stopAtEnd_keepsEntries (s : State) (i : TimerId) : s.KeepsEntries (s.stopAtEnd i) := by
  unfold State.stopAtEnd
  split
  case h_4 => exact s.stopWaiting_keepsEntries i
  all_goals exact .of_same rfl rfl

theorem State.stopAtOnce_keepsEntries (s : State) (i : TimerId) : s.KeepsEntries (s.stopAtOnce i) := by
  have hrunning : s.KeepsEntries (s.stopRunning i) := by
    rw [State.stopRunning_eq_stopped]
    exact .of_same
  unfold State.stopAtOnce
  split
  · exact hrunning
  · exact hrunning
  · exact .of_same rfl rfl
  · exact s.stopWaiting_keepsEntries i
  · exact .refl s

end Sys2Proof.Machine
end

section
/-!
SUPPORT. Every step keeps the limits of the request queue, the reply queue and the acyclic table (R131, R159): the owner of
a request leaves both queues alone, and the message controller stores a request and queues a reply only where a place is
free (R156, R158, R160).
-/

set_option Elab.async false

namespace Sys2Proof.Machine

/-! ### The owners of the requests -/

/-- A TRANSACT that is not refused finds a place and a tag not in use (R132 steps 2 and 3). -/
theorem State.transactRefusal_room {s : State} {e : AcyclicEntry} (h : s.transactRefusal e = none) :
    s.acyclic.length < 16 ∧ ∀ x ∈ s.acyclic, x.tag ≠ e.tag := by
  have hroom : s.acyclic.length < 16 := by
    refine Nat.lt_of_not_le fun hfull => ?_
    rw [State.transactRefusal_full hfull] at h
    cases h
  refine ⟨hroom, fun x hx htag => ?_⟩
  rw [State.transactRefusal_taken hroom ⟨x, hx, htag⟩] at h
  cases h

theorem ownTransact_keepsEntries (p : List Byte) (s : State) : s.KeepsEntries (ownTransact p s).1 := by
  unfold ownTransact
  split
  · split
    · split
      · exact .refl s
      · next hrefusal =>
        obtain ⟨hroom, hnew⟩ := State.transactRefusal_room hrefusal
        exact ⟨rfl, fun h => h.concat hroom hnew⟩
    · exact .refl s
  · exact .refl s

theorem ownCancel_keepsEntries (p : List Byte) (s : State) : s.KeepsEntries (ownCancel p s).1 := by
  unfold ownCancel
  split
  · split
    · split
      · exact .refl s
      · exact s.dropAcyclic_keepsEntries ..
    · exact .refl s
  · exact .refl s

theorem ownSleepLane_keepsEntries (p : List Byte) (s : State) : s.KeepsEntries (ownSleepLane p s).1 := by
  unfold ownSleepLane State.sleepLane
  split
  · split
    · split
      · exact s.enterSleeping_keepsEntries _
      all_goals exact .of_same rfl rfl
    · exact .refl s
  · exact .refl s

theorem ownStop_keepsEntries {act : State → TimerId → State} (hact : ∀ (s : State) i, s.KeepsEntries (act s i))
    (p : List Byte) (code : Nat) (s : State) : s.KeepsEntries (ownStop p code act s).1 := by
  unfold ownStop
  split
  · split
    · split
      · exact hact s _
      · exact .refl s
    · exact .refl s
  · exact .refl s

theorem ownConfigureLane_keepsEntries (p : List Byte) (s : State) : s.KeepsEntries (ownConfigureLane p s).1 := by
  unfold ownConfigureLane State.tryConfigureLane
  repeat' split
  all_goals exact .of_same rfl rfl

theorem ownWakeLane_keepsEntries (p : List Byte) (s : State) : s.KeepsEntries (ownWakeLane p s).1 := by
  unfold ownWakeLane State.wakeLane
  repeat' split
  all_goals exact .of_same rfl rfl

theorem ownConfigureTimer_keepsEntries (p : List Byte) (s : State) : s.KeepsEntries (ownConfigureTimer p s).1 := by
  unfold ownConfigureTimer State.configureTimer
  repeat' split
  all_goals exact .of_same rfl rfl

theorem ownStart_keepsEntries (p : List Byte) (s : State) : s.KeepsEntries (ownStart p s).1 := by
  unfold ownStart State.startTimer
  repeat' split
  all_goals exact .of_same rfl rfl

theorem ownStageEntry_keepsEntries (p : List Byte) (s : State) : s.KeepsEntries (ownStageEntry p s).1 := by
  unfold ownStageEntry State.stage
  dsimp only
  repeat' split
  all_goals exact .of_same rfl rfl

theorem ownClearStaged_keepsEntries (p : List Byte) (s : State) : s.KeepsEntries (ownClearStaged p s).1 := by
  unfold ownClearStaged
  repeat' split
  all_goals exact .of_same rfl rfl

theorem ownCommit_keepsEntries (p : List Byte) (s : State) : s.KeepsEntries (ownCommit p s).1 := by
  unfold ownCommit State.commitTable State.commitNow
  repeat' split
  all_goals exact .of_same rfl rfl

theorem ownWithdraw_keepsEntries (p : List Byte) (s : State) : s.KeepsEntries (ownWithdraw p s).1 := by
  unfold ownWithdraw
  repeat' split
  all_goals exact .of_same rfl rfl

theorem ownWriteOutput_keepsEntries (p : List Byte) (s : State) : s.KeepsEntries (ownWriteOutput p s).1 := by
  unfold ownWriteOutput
  split <;> exact .of_same rfl rfl

theorem ownWriteFallback_keepsEntries (p : List Byte) (s : State) : s.KeepsEntries (ownWriteFallback p s).1 := by
  unfold ownWriteFallback
  split <;> exact .of_same rfl rfl

theorem ownPublish_keepsEntries (p : List Byte) (s : State) : s.KeepsEntries (ownPublish p s).1 := by
  unfold ownPublish State.publishImage
  repeat' split
  all_goals exact .of_same rfl rfl

theorem ownSetSupervision_keepsEntries (p : List Byte) (s : State) : s.KeepsEntries (ownSetSupervision p s).1 := by
  unfold ownSetSupervision State.superviseFor
  repeat' split
  all_goals exact .of_same rfl rfl

theorem ownResume_keepsEntries (p : List Byte) (s : State) : s.KeepsEntries (ownResume p s).1 := by
  unfold ownResume
  repeat' split
  all_goals exact .of_same rfl rfl

theorem ownHold_keepsEntries (p : List Byte) (s : State) : s.KeepsEntries (ownHold p s).1 := by
  unfold ownHold
  repeat' split
  all_goals exact .of_same rfl rfl

theorem ownRelease_keepsEntries (p : List Byte) (s : State) : s.KeepsEntries (ownRelease p s).1 := by
  unfold ownRelease
  repeat' split
  all_goals exact .of_same rfl rfl

theorem ownForgetNode_keepsEntries (p : List Byte) (s : State) : s.KeepsEntries (ownForgetNode p s).1 := by
  unfold ownForgetNode
  repeat' split
  all_goals exact .of_same rfl rfl

theorem ownFetch_keepsEntries (p : List Byte) (s : State) : s.KeepsEntries (ownFetch p s).1 := by
  unfold ownFetch
  repeat' split
  all_goals exact .of_same rfl rfl

/-! ### The queues of the message controller -/

/-- A change that keeps the limits of the two queues and of the acyclic table. -/
structure State.KeepsQueues (s t : State) : Prop where
  ok : s.QueuesOk → t.QueuesOk

theorem State.KeepsQueues.trans {s t u : State} (h : s.KeepsQueues t) (k : t.KeepsQueues u) : s.KeepsQueues u :=
  ⟨k.ok ∘ h.ok⟩

theorem State.KeepsQueues.of_link {s t : State} (hlink : s.link.QueuesOk → t.link.QueuesOk)
    (hacyclic : t.acyclic = s.acyclic := by rfl) : s.KeepsQueues t where
  ok hs := by
    obtain ⟨hk, ha⟩ := State.queuesOk_iff.mp hs
    exact State.queuesOk_iff.mpr ⟨hlink hk, hacyclic ▸ ha⟩

/-- A change of the message controller in which no request or reply comes or goes. -/
theorem State.KeepsQueues.of_same {s t : State} (hrequests : t.link.requests = s.link.requests := by rfl)
    (hreplies : t.link.replies = s.link.replies := by rfl) (hacyclic : t.acyclic = s.acyclic := by rfl) :
    s.KeepsQueues t := .of_link (by simp only [Link.QueuesOk, hrequests, hreplies]; exact id) hacyclic

theorem State.KeepsQueues.refl (s : State) : s.KeepsQueues s := .of_same

theorem State.KeepsEntries.queues {s t : State} (h : s.KeepsEntries t) : s.KeepsQueues t where
  ok hs := by
    obtain ⟨hk, ha⟩ := State.queuesOk_iff.mp hs
    exact State.queuesOk_iff.mpr ⟨h.link ▸ hk, h.entries ha⟩

/-- A reply that finds a place (R159). -/
theorem State.pushReply_keepsQueues {s : State} (h : s.link.replies.length < 4) (r : Reply) :
    s.KeepsQueues (s.pushReply r) :=
  .of_link fun ⟨hrequests, _⟩ => ⟨hrequests, by simpa [State.pushReply] using h⟩

theorem State.answer_keepsQueues {s : State} (h : s.link.replies.length < 4) (rq : Request) (a : Answer) :
    s.KeepsQueues (s.answer rq a) :=
  (State.pushReply_keepsQueues h { seq := rq.seq, kind := rq.kind, payload := a.payload }).trans .of_same

/-- A request is taken only where its reply finds a place (R160). -/
theorem State.take_keepsQueues {s : State} {rq : Request} {run : State → State}
    (h : ∀ u : State, u.link.replies.length < 4 → u.KeepsQueues (run u)) : s.KeepsQueues (s.take rq run) := by
  obtain ht | ⟨u, hu, hrun⟩ := s.take_cases rq run
  · rw [ht]; exact .refl s
  · obtain ⟨-, -, hroom, rest, hrest, hlength⟩ := State.accept_some hu
    have hplace : u.link.replies.length < 4 := by rw [hrest]; exact hroom
    have htaken : s.KeepsQueues u := by
      rw [hrest]
      exact .of_link fun ⟨hrequests, hreplies⟩ => ⟨hlength.trans hrequests, hreplies⟩
    obtain ⟨k, -, hk⟩ | hr := hrun
    · rw [hk]; exact htaken.trans (State.pushReply_keepsQueues hplace _)
    · rw [hr]; exact htaken.trans (h u hplace)

theorem State.serve_keepsQueues {s : State} {seq kind : Byte} {p : List Byte} {owner : State → State × Answer}
    (h : ∀ u : State, u.KeepsEntries (owner u).1) : s.KeepsQueues (s.serve seq kind p owner) :=
  State.take_keepsQueues fun u hroom =>
    (h u).queues.trans (State.answer_keepsQueues (by rw [(h u).link]; exact hroom) _ _)

theorem execReset_keepsQueues {seq : Byte} {p : List Byte} {s t : State} (h : execReset seq p s = .next t) :
    s.KeepsQueues t := by
  unfold execReset at h
  cases h
  refine State.take_keepsQueues fun u hroom => ?_
  dsimp only
  split
  · exact (State.pushReply_keepsQueues hroom _).trans .of_same
  · exact State.pushReply_keepsQueues hroom _

/-- A NAK is queued only where it finds a place (R158). -/
theorem State.nak_keepsQueues (s : State) (seq : Byte) (code : NakCode) : s.KeepsQueues (s.nak seq code) := by
  unfold State.nak
  split
  · next hroom => exact State.pushReply_keepsQueues hroom _
  · exact .refl s

/-- A request is stored only where it finds a place (R156). -/
theorem State.judgeFrame_keepsQueues (s : State) (got : List Byte) (marked : Bool) :
    s.KeepsQueues (s.judgeFrame got marked) := by
  have hactive : s.KeepsQueues s.hostActivity := by rw [State.hostActivity_eq]; exact .of_same
  unfold State.judgeFrame
  dsimp only
  split
  · exact s.nak_keepsQueues ..
  · split
    · next hroom =>
      exact hactive.trans (.of_link fun ⟨_, hreplies⟩ => ⟨by rw [List.length_append]; exact hroom, hreplies⟩)
    · exact hactive.trans (State.nak_keepsQueues ..)

theorem State.receiveByte_keepsQueues (s : State) (byte : Byte) (mark : Bool) :
    s.KeepsQueues (s.receiveByte byte mark) := by
  unfold State.receiveByte
  dsimp only
  repeat' split
  case h_3.isTrue => exact .trans .of_same (State.nak_keepsQueues ..)
  case h_6.isTrue => exact .trans .of_same (State.judgeFrame_keepsQueues ..)
  all_goals exact .of_same

/-- Within a reset the queues and the acyclic table are empty (R131, R159, R165). -/
theorem State.cleared_keepsQueues (s : State) (pins : Pins) (q : List Instr) (r : Option Resetting) :
    s.KeepsQueues (State.cleared pins q r) where
  ok _ := ⟨Nat.zero_le _, Nat.zero_le _, Nat.zero_le _, List.nodup_nil⟩

theorem execReplySent_keepsQueues {s t : State} (h : execReplySent s = .next t) : s.KeepsQueues t := by
  unfold execReplySent at h
  cases h
  split
  · split
    · exact .refl s
    · next r rest hreplies =>
      split
      · exact s.cleared_keepsQueues ..
      · refine .of_link fun ⟨hrequests, hlength⟩ => ⟨hrequests, ?_⟩
        rw [hreplies] at hlength
        exact (Nat.le_succ _).trans hlength
  · exact .refl s

theorem execRstPin_keepsQueues {asserted : Bool} {s t : State} (h : execRstPin asserted s = .next t) :
    s.KeepsQueues t := by
  unfold execRstPin at h
  cases h
  split
  · exact s.cleared_keepsQueues ..
  · split <;> exact .of_same

theorem execResetEnd_keepsQueues {s t : State} (h : execResetEnd s = .next t) : s.KeepsQueues t := by
  unfold execResetEnd at h
  cases h
  split
  · split
    · exact (s.cleared_keepsQueues s.pins s.pending none).trans .of_same
    · exact .refl s
  · exact .refl s

/-! ### Timers and lanes -/

theorem execFirstFrameStart_keepsEntries {i : TimerId} {s t : State} (h : execFirstFrameStart i s = .next t) :
    s.KeepsEntries t := by
  unfold execFirstFrameStart at h
  split at h
  · exact State.openFirst_keepsEntries (bufferOrFault_next h)
  · cases h; exact .refl s

theorem execFrameClose_keepsEntries {i : TimerId} {s t : State} (h : execFrameClose i s = .next t) :
    s.KeepsEntries t := by
  obtain rfl | hclose := execFrameClose_close h
  · exact .refl _
  · exact State.close_keepsEntries hclose

theorem execTrigEdge_keepsEntries {i : TimerId} {s t : State} (h : execTrigEdge i s = .next t) : s.KeepsEntries t := by
  unfold execTrigEdge at h
  split at h
  · cases h; exact .refl s
  · have ht := bufferOrFault_next h
    unfold State.trigger at ht
    split at ht
    · exact State.openFirst_keepsEntries ht
    · exact State.openFirst_keepsEntries ht
    · cases ht; exact s.openNext_keepsEntries i
    all_goals cases ht; exact .of_same rfl rfl

theorem execGrant_keepsEntries {l : LaneId} {s t : State} (h : execGrant l s = .next t) : s.KeepsEntries t := by
  unfold execGrant at h
  cases h
  split
  · exact .trans .of_same (State.markGranted_keepsEntries ..)
  · exact .refl s

theorem execClaimExpiry_keepsEntries {l : LaneId} {i : TimerId} {position : Nat} {s t : State}
    (h : execClaimExpiry l i position s = .next t) : s.KeepsEntries t := by
  unfold execClaimExpiry at h
  cases h
  split
  · exact .trans .of_same (State.deliverWaiting_keepsEntries ..)
  · exact .refl s

theorem execResponseComplete_keepsEntries {l : LaneId} {byte : Byte} {mark : Bool} {s t : State}
    (h : execResponseComplete l byte mark s = .next t) : s.KeepsEntries t := by
  unfold execResponseComplete at h
  cases h
  split
  · split
    · exact s.endTransaction_keepsEntries ..
    · exact .refl s
  · exact .refl s

theorem execAcyclicTimeout_keepsEntries {tag : Half} {s t : State} (h : execAcyclicTimeout tag s = .next t) :
    s.KeepsEntries t := by
  unfold execAcyclicTimeout at h
  cases h
  split
  · split
    · exact s.timeOut_keepsEntries _
    · exact .refl s
  · exact .refl s

/-! ### Every step -/

theorem exec_keepsQueues {c : Instr} {s t : State} (h : exec c s = .next t) : s.KeepsQueues t := by
  cases c
  case query seq p => cases h; exact State.serve_keepsQueues fun u => by rw [(ownReads_same p u).1]; exact .refl u
  case reset => exact execReset_keepsQueues h
  case configureLane seq p => cases h; exact State.serve_keepsQueues (ownConfigureLane_keepsEntries p)
  case sleepLane seq p => cases h; exact State.serve_keepsQueues (ownSleepLane_keepsEntries p)
  case wakeLane seq p => cases h; exact State.serve_keepsQueues (ownWakeLane_keepsEntries p)
  case configureTimer seq p => cases h; exact State.serve_keepsQueues (ownConfigureTimer_keepsEntries p)
  case start seq p => cases h; exact State.serve_keepsQueues (ownStart_keepsEntries p)
  case stopEnd seq p =>
    cases h
    split
    · exact .refl s
    · exact State.serve_keepsQueues (ownStop_keepsEntries State.stopAtEnd_keepsEntries p 0)
  case stopNow seq p =>
    cases h
    split
    · exact .refl s
    · exact State.serve_keepsQueues (ownStop_keepsEntries State.stopAtOnce_keepsEntries p 1)
  case stageEntry seq p => cases h; exact State.serve_keepsQueues (ownStageEntry_keepsEntries p)
  case clearStaged seq p => cases h; exact State.serve_keepsQueues (ownClearStaged_keepsEntries p)
  case readEntry seq p =>
    cases h; exact State.serve_keepsQueues fun u => by rw [(ownReads_same p u).2.1]; exact .refl u
  case commit seq p => cases h; exact State.serve_keepsQueues (ownCommit_keepsEntries p)
  case withdraw seq p => cases h; exact State.serve_keepsQueues (ownWithdraw_keepsEntries p)
  case writeOutput seq p => cases h; exact State.serve_keepsQueues (ownWriteOutput_keepsEntries p)
  case writeFallback seq p => cases h; exact State.serve_keepsQueues (ownWriteFallback_keepsEntries p)
  case publish seq p => cases h; exact State.serve_keepsQueues (ownPublish_keepsEntries p)
  case setSupervision seq p => cases h; exact State.serve_keepsQueues (ownSetSupervision_keepsEntries p)
  case resume seq p => cases h; exact State.serve_keepsQueues (ownResume_keepsEntries p)
  case hold seq p => cases h; exact State.serve_keepsQueues (ownHold_keepsEntries p)
  case readImage seq p =>
    cases h; exact State.serve_keepsQueues fun u => by rw [(ownReads_same p u).2.2.1]; exact .refl u
  case readStatus seq p =>
    cases h; exact State.serve_keepsQueues fun u => by rw [(ownReads_same p u).2.2.2.1]; exact .refl u
  case release seq p => cases h; exact State.serve_keepsQueues (ownRelease_keepsEntries p)
  case transact seq p => cases h; exact State.serve_keepsQueues (ownTransact_keepsEntries p)
  case cancel seq p => cases h; exact State.serve_keepsQueues (ownCancel_keepsEntries p)
  case readNode seq p =>
    cases h; exact State.serve_keepsQueues fun u => by rw [(ownReads_same p u).2.2.2.2]; exact .refl u
  case forgetNode seq p => cases h; exact State.serve_keepsQueues (ownForgetNode_keepsEntries p)
  case fetch seq p => cases h; exact State.serve_keepsQueues (ownFetch_keepsEntries p)
  case duplicateReplay seq kind p =>
    cases h
    split
    · exact State.take_keepsQueues fun u _ => .refl u
    · exact .refl s
  case unknownKind seq kind p =>
    cases h
    split
    · exact .refl s
    · exact State.serve_keepsQueues .refl
  case frameReceived byte mark | lengthNak byte mark =>
    cases h
    split
    · exact s.receiveByte_keepsQueues byte mark
    · exact .refl s
  case hostByteReceived byte mark => cases h; exact s.receiveByte_keepsQueues byte mark
  case powerOn => cases h; exact s.cleared_keepsQueues ..
  case rstPin => exact execRstPin_keepsQueues h
  case replySent => exact execReplySent_keepsQueues h
  case resetEnd => exact execResetEnd_keepsQueues h
  case firstFrameStart => exact (execFirstFrameStart_keepsEntries h).queues
  case frameClose => exact (execFrameClose_keepsEntries h).queues
  case trigEdge => exact (execTrigEdge_keepsEntries h).queues
  case postClaims i =>
    cases h
    split
    · exact (s.postAll_keepsEntries i).queues
    · exact .refl s
  case grant => exact (execGrant_keepsEntries h).queues
  case claimExpiry => exact (execClaimExpiry_keepsEntries h).queues
  case echoMismatch l echo =>
    cases h
    split
    · exact (s.failEcho_keepsEntries l).queues
    · exact .refl s
  case responseTimeout | characterLimitExpiry | broadcastComplete =>
    cases h
    split
    · exact (s.endTransaction_keepsEntries ..).queues
    · exact .refl s
  case responseComplete => exact (execResponseComplete_keepsEntries h).queues
  case lineFault =>
    cases h
    split
    · exact (State.KeepsEntries.trans .of_same (State.resolveAll_keepsEntries ..)).queues
    · exact .refl s
  case acyclicTimeout => exact (execAcyclicTimeout_keepsEntries h).queues
  case responseCharacterReceived | sleepCommandEnd =>
    cases h
    repeat' split
    all_goals exact .of_same
  case partialFrameDiscard | skipEnd | syncEnd | sleepCommandStart | wakePulseEnd | settleEnd | nodeWake |
      lineFaultRecovery | supervisionExpiry =>
    cases h
    split <;> exact .of_same

/-- Time leaves the queues and the acyclic table alone. -/
theorem State.pass_keepsQueues (s : State) : s.KeepsQueues s.pass := by
  obtain ⟨r, -, h | h⟩ | ⟨-, -, h⟩ | ⟨-, -, h⟩ := s.pass_cases <;> rw [h] <;> exact .of_same

/-- Settles O14: what is added to a queue or to the acyclic table has found a place there. -/
theorem queueBoundsKept : Obligations.QueueBoundsKept := fun s t hs h => by
  obtain ⟨c, q, hc⟩ | rfl := step_cases h
  · exact (exec_keepsQueues (s := { s with pending := q }) hc).ok hs
  · exact s.pass_keepsQueues.ok hs

end Sys2Proof.Machine
end

section
/-!
SUPPORT. CANCEL and the timeout of an acyclic entry, WAITING or IN_FLIGHT (R136 to R138, R140).
-/

set_option Elab.async false

namespace Sys2Proof.Machine

/-! ### A WAITING entry that ends without the wire -/

/-- The claim of an entry leaves its lane's list, the entry leaves the table, TRANSACT_DONE is queued without data, and
the roster is told (R140). -/
theorem State.dropAcyclic_eq (s : State) (e : AcyclicEntry) (o : Outcome) :
    s.dropAcyclic e o =
      ((State.onLane { s with acyclic := s.acyclic.filter fun x => x.tag != e.tag } e.lane fun x =>
        { x with claims := x.claims.filter fun c => !c.hasTag e.tag }).notify
          (.transactDone e.tag o e.attempt.waited [])).rosterOutcome e.lane e.node (e.attempt.rosterOutcome o) := by
  simp only [State.dropAcyclic, State.completeAcyclic, ite_self]
  rfl

/-- An entry that ends reads nothing of the message controller. -/
theorem State.dropAcyclic_taken (s : State) (e : AcyclicEntry) (o : Outcome) :
    s.taken.dropAcyclic e o = (s.dropAcyclic e o).taken := by
  rw [State.dropAcyclic_eq s e o, ← State.rosterOutcome_taken, State.dropAcyclic_eq]
  rfl

/-! ### CANCEL (R138) -/

/-- The tag of a CANCEL is read back from its payload (R168). -/
theorem ownCancel_of (tag : Half) (s : State) :
    ownCancel (bytes2 tag.toNat) s =
      match s.acyclicEntry tag with
      | some e => if e.inFlight then refuse .inFlight s else (s.dropAcyclic e .cancelled, .plain .ok)
      | none => refuse .notFound s := by
  have htag : BitVec.ofNat 16 (halfAt (bytes2 tag.toNat) 0) = tag := by
    rw [halfAt_of_bytes (Nat.le_of_lt_succ tag.isLt) rfl rfl, BitVec.ofNat_toNat, BitVec.setWidth_eq]
  rw [ownCancel, htag]
  rfl

theorem execCancel_answers {s u : State} {seq : Byte} {tag : Half} {code : ReplyCode}
    (hr : s.ready (requestOf seq 0x19 (bytes2 tag.toNat)) = true)
    (h : ownCancel (bytes2 tag.toNat) s.taken = (u.taken, .plain code)) :
    exec (.cancel seq (bytes2 tag.toNat)) s =
      .next (u.replied (requestOf seq 0x19 (bytes2 tag.toNat)) code []) :=
  congrArg Host.Outcome.next (State.serve_replied hr h)

/-! ### The timeout (R136, R137) -/

/-- A timeout that has run out is taken where the entry is WAITING or not marked yet. -/
theorem execAcyclicTimeout_eq {s : State} {tag : Half} {e : AcyclicEntry} (hr : s.resetting = none)
    (he : s.acyclicEntry tag = some e) (hover : e.timeout * 1000 ≤ (s.time - e.acceptedAt).toNat)
    (hmark : e.inFlight = false ∨ e.runOut = false) : exec (.acyclicTimeout tag) s = .next (s.timeOut e) := by
  have htime : e.timeOver s.time = true := decide_eq_true hover
  have hdue : (s.resetting.isNone && e.timeoutDue s.time) = true := by
    obtain h | h := hmark <;> simp [hr, AcyclicEntry.timeoutDue, htime, h]
  change execAcyclicTimeout tag s = _
  simp only [execAcyclicTimeout, he, hdue, if_true]

/-- Settles O42: CANCEL by the entry of its tag, and the timeout by the state of the entry. -/
theorem waitingEntriesCancelledOrTimedOut : Obligations.WaitingEntriesCancelledOrTimedOut := by
  unfold Obligations.WaitingEntriesCancelledOrTimedOut
  intro gone
  have hgone (s : State) (e : AcyclicEntry) (o : Outcome) : s.dropAcyclic e o = gone s e o := by
    rw [State.dropAcyclic_eq]
    simp only [gone]
    cases e.attempt <;> rfl
  refine ⟨fun s seq tag => ?cancel, fun s tag e hr he hover => ?timeout⟩
  case cancel =>
    intro p rq hr
    have hown := ownCancel_of tag s.taken
    rw [show s.taken.acyclicEntry tag = s.acyclicEntry tag from rfl] at hown
    refine ⟨fun hnone => ?_, fun e he hf => ?_, fun e he hf => ?_⟩
    · exact execCancel_answers (u := s) hr (by rw [hown, hnone]; rfl)
    · exact execCancel_answers (u := s) hr (by rw [hown, he]; exact if_pos hf)
    · refine execCancel_answers hr ?_
      rw [hown, he, ← hgone, ← State.dropAcyclic_taken]
      exact if_neg (Bool.eq_false_iff.mp hf)
  case timeout =>
    refine ⟨fun hf => ?_, fun hf hmark => ?_⟩
    · rw [execAcyclicTimeout_eq hr he hover (.inl hf), ← hgone]
      exact congrArg Host.Outcome.next (if_neg (Bool.eq_false_iff.mp hf))
    · rw [execAcyclicTimeout_eq hr he hover (.inr hmark)]
      refine congrArg Host.Outcome.next ((if_pos hf).trans ?_)
      rw [State.acyclicEntry_tag he]
      rfl

end Sys2Proof.Machine
end

section
/-!
SUPPORT. The notification queue (R144 to R148): what a record handed over makes of it, and that handing over, fetching
and a reset keep its limit, its OVERFLOW record last and its numbers running.
-/

set_option Elab.async false

namespace Sys2Proof.Machine

/-! ### Numbers that run on (R144) -/

/-- The last `n` numbers below a counter, in order. -/
def numbersBelow (counter : Half) (n : Nat) : List Half :=
  (List.range n).map fun i => counter - BitVec.ofNat 16 (n - i)

theorem numbersBelow_succ (counter : Half) (n : Nat) :
    numbersBelow (counter + 1) (n + 1) = numbersBelow counter n ++ [counter] := by
  have hlast : counter + 1 - BitVec.ofNat 16 (n + 1 - n) = counter := by simp
  have hbefore : ∀ i ∈ List.range n,
      counter + 1 - BitVec.ofNat 16 (n + 1 - i) = counter - BitVec.ofNat 16 (n - i) := fun i hi => by
    rw [Nat.succ_sub (List.mem_range.mp hi).le, Nat.succ_eq_add_one, BitVec.ofNat_add]
    exact add_sub_add_right_eq_sub ..
  rw [numbersBelow, List.range_succ, List.map_append, List.map_singleton, hlast, List.map_congr_left hbefore]
  rfl

theorem drop_numbersBelow (counter : Half) (n k : Nat) :
    (numbersBelow counter n).drop k = numbersBelow counter (n - k) := by
  refine List.ext_getElem (by simp [numbersBelow]) fun i _ _ => ?_
  simp [numbersBelow, Nat.sub_sub]

theorem NoteQueue.ok_iff {q : NoteQueue} :
    q.Ok ↔ q.records.length ≤ 32 ∧ (∀ n ∈ q.records.dropLast, n.isOverflow = false) ∧
      ((∀ n ∈ q.records, n.isOverflow = false) → q.records.length ≤ 31) ∧
      q.records.map Note.number = numbersBelow q.counter q.records.length := Iff.rfl

/-! ### A record handed over (R146, R147) -/

section
variable {q : NoteQueue} {now : Time} {body : NoteBody}

/-- Without an OVERFLOW record, the next number is given to the record or to the OVERFLOW record in its place. -/
theorem NoteQueue.hand_append (h : ∀ n ∈ q.records, n.isOverflow = false) :
    q.hand now body =
      { records := q.records ++
          [{ number := q.counter, time := now, body := if q.records.length < 31 then body else .overflow 1 }]
        counter := q.counter + 1 } := by
  obtain ⟨⟨n, hn, hover⟩, -⟩ | ⟨-, hq⟩ := q.hand_cases now body
  · rw [h n hn] at hover
    cases hover
  · exact hq

/-- With an OVERFLOW record, the record is only counted. -/
theorem NoteQueue.hand_bump (h : ∃ n ∈ q.records, n.isOverflow = true) :
    q.hand now body = { q with records := q.records.map Note.bump } := by
  obtain ⟨-, hq⟩ | ⟨hnone, -⟩ := q.hand_cases now body
  · exact hq
  · obtain ⟨n, hn, hover⟩ := h
    rw [hnone n hn] at hover
    cases hover

end

/-- Only an OVERFLOW record counts. -/
theorem Note.bump_of_not_overflow {n : Note} (h : n.isOverflow = false) : n.bump = n := by
  unfold Note.isOverflow at h
  unfold Note.bump
  split
  · next hb => rw [hb] at h; cases h
  · rfl

theorem map_bump_of_not_overflow {front : List Note} (h : ∀ n ∈ front, n.isOverflow = false) :
    front.map Note.bump = front := by
  rw [List.map_congr_left fun n hn => Note.bump_of_not_overflow (h n hn), List.map_id'']
  exact fun _ => rfl

/-- A lost record is counted in the OVERFLOW record, whose number and time stay (R146). -/
theorem NoteQueue.hand_overflow {q : NoteQueue} {front : List Note} {number : Half} {time : Time} {lost : Nat}
    (now : Time) (body : NoteBody) (hfront : ∀ n ∈ front, n.isOverflow = false)
    (hq : q.records = front ++ [{ number := number, time := time, body := .overflow lost }]) :
    q.hand now body =
      { q with
        records := front ++ [{ number := number, time := time, body := .overflow (min (lost + 1) 65535) }] } := by
  rw [NoteQueue.hand_bump ⟨_, by rw [hq]; exact List.mem_append_right _ (List.mem_singleton_self _), rfl⟩, hq,
    List.map_append, map_bump_of_not_overflow hfront]
  rfl

/-! ### The invariant (R144, R146) -/

/-- An appended record takes the next number; the 32nd is an OVERFLOW record. -/
theorem NoteQueue.Ok.append {q : NoteQueue} (hq : q.Ok) (hnone : ∀ n ∈ q.records, n.isOverflow = false) (now : Time)
    (body : NoteBody) :
    NoteQueue.Ok
      { records := q.records ++
          [{ number := q.counter, time := now, body := if q.records.length < 31 then body else .overflow 1 }]
        counter := q.counter + 1 } := by
  obtain ⟨-, -, hlimit, hnumbers⟩ := NoteQueue.ok_iff.mp hq
  have hlength : q.records.length ≤ 31 := hlimit hnone
  refine NoteQueue.ok_iff.mpr ⟨by simpa using Nat.lt_succ_of_le hlength, ?_, fun hall => ?_, ?_⟩
  · rw [List.dropLast_concat]
    exact hnone
  · have hroom : q.records.length < 31 := by
      by_contra hfull
      have hlast := hall _ (List.mem_append_right _ (List.mem_singleton_self _))
      rw [if_neg hfull] at hlast
      cases hlast
    simpa using hroom
  · rw [List.map_append, hnumbers, List.length_append, List.length_singleton, numbersBelow_succ]
    rfl

theorem NoteQueue.Ok.hand {q : NoteQueue} (hq : q.Ok) (now : Time) (body : NoteBody) : (q.hand now body).Ok := by
  obtain ⟨-, hbump⟩ | ⟨hnone, happend⟩ := q.hand_cases now body
  · rw [hbump]
    obtain ⟨hlength, hlast, hlimit, hnumbers⟩ := NoteQueue.ok_iff.mp hq
    refine NoteQueue.ok_iff.mpr ⟨by simpa using hlength, ?_, fun hall => ?_, ?_⟩
    · rw [← List.map_dropLast]
      simpa only [List.forall_mem_map, Note.bump_isOverflow] using hlast
    · rw [List.length_map]
      exact hlimit fun n hn => by simpa using hall _ (List.mem_map_of_mem hn)
    · rw [List.length_map, ← hnumbers, List.map_map]
      exact List.map_congr_left fun n _ => n.bump_number
  · rw [happend]
    exact hq.append hnone now body

/-- The oldest records leave the list, and with any of them a place below its limit (R148). -/
theorem NoteQueue.Ok.fetch {q : NoteQueue} (hq : q.Ok) (k : Nat) :
    NoteQueue.Ok { q with records := q.records.drop k } := by
  cases k with
  | zero => exact hq
  | succ k =>
    obtain ⟨hlength, hlast, -, hnumbers⟩ := NoteQueue.ok_iff.mp hq
    have hshorter : (q.records.drop (k + 1)).length ≤ 31 := by
      rw [List.length_drop]
      omega
    refine NoteQueue.ok_iff.mpr ⟨hshorter.trans (by decide), fun n hn => ?_, fun _ => hshorter, ?_⟩
    · rw [List.dropLast_drop_eq_drop_dropLast] at hn
      exact hlast n (List.mem_of_mem_drop hn)
    · rw [List.map_drop, hnumbers, drop_numbersBelow, List.length_drop]

/-- Within a reset the queue is empty with counter 0 (R143). -/
theorem NoteQueue.ok_empty : NoteQueue.Ok { records := [], counter := 0 } :=
  ⟨Nat.zero_le _, nofun, fun _ => Nat.zero_le _, rfl⟩

/-! ### Changes of the queue -/

/-- What happens to the queue: a record is handed over (R144), its oldest records are fetched (R148), or a reset empties
it (R143). -/
inductive NoteQueue.Change : NoteQueue → NoteQueue → Prop
  | hand (q : NoteQueue) (now : Time) (body : NoteBody) : Change q (q.hand now body)
  | fetch (q : NoteQueue) (k : Nat) : Change q { q with records := q.records.drop k }
  | reset (q : NoteQueue) : Change q { records := [], counter := 0 }

theorem NoteQueue.Change.ok {q r : NoteQueue} (h : q.Change r) (hq : q.Ok) : r.Ok := by
  cases h with
  | hand now body => exact hq.hand now body
  | fetch k => exact hq.fetch k
  | reset => exact NoteQueue.ok_empty

/-- Several changes, one after the other, keep what each of them keeps. -/
theorem NoteQueue.ok_of_changes {q r : NoteQueue} (h : Relation.ReflTransGen NoteQueue.Change q r) (hq : q.Ok) :
    r.Ok := by
  induction h with
  | refl => exact hq
  | tail _ hchange ih => exact hchange.ok ih

end Sys2Proof.Machine
end

section
/-!
SUPPORT. What the blocks do with the notification queue: a frame, a stop, the end of a transaction or of an acyclic
entry only hands records over (R144).
-/

set_option Elab.async false

namespace Sys2Proof.Machine

/-- A change in which nothing happens to the queue but handings over, fetches and resets. -/
def State.ChangesNotes (s t : State) : Prop := Relation.ReflTransGen NoteQueue.Change s.notes t.notes

theorem State.ChangesNotes.trans {s t u : State} (h : s.ChangesNotes t) (k : t.ChangesNotes u) : s.ChangesNotes u :=
  Relation.ReflTransGen.trans h k

theorem State.ChangesNotes.of_same {s t : State} (h : t.notes = s.notes := by simp) : s.ChangesNotes t := by
  rw [State.ChangesNotes, h]

theorem State.ChangesNotes.refl (s : State) : s.ChangesNotes s := .of_same

/-- One record is handed over, and the queue is else left alone. -/
theorem State.ChangesNotes.of_hand {s t : State} {body : NoteBody}
    (h : t.notes = s.notes.hand s.time body := by rfl) : s.ChangesNotes t := by
  rw [State.ChangesNotes, h]
  exact .single (.hand ..)

/-- What every single step of a fold does, the fold does. -/
theorem State.ChangesNotes.foldl {α : Type} {f : State → α → State} (h : ∀ (s : State) a, s.ChangesNotes (f s a))
    (xs : List α) (s : State) : s.ChangesNotes (xs.foldl f s) :=
  List.foldlRecOn (motive := s.ChangesNotes) xs f (.refl s) fun u hu a _ => hu.trans (h u a)

/-! ### The delivery of outcomes -/

theorem State.rosterOutcome_changesNotes (s : State) (l : LaneId) (node : Nat) (o : Outcome) :
    s.ChangesNotes (s.rosterOutcome l node o) := by
  unfold State.rosterOutcome
  split
  · exact .refl s
  · dsimp only
    cases nodeNote l node (s.node l node) ((s.node l node).apply o (s.lane l).config s.time) with
    | none => exact .of_same rfl
    | some body => exact .of_hand

theorem State.completeAcyclic_changesNotes (s : State) (tag : Half) (o : Outcome) (n : Nat) (d : List Byte) :
    s.ChangesNotes (s.completeAcyclic tag o n d) := .of_hand

theorem State.deliverWaiting_changesNotes (s : State) (l : LaneId) (o : Outcome) (c : Claim) :
    s.ChangesNotes (s.deliverWaiting l o c) := by
  cases c with
  | cyclic k =>
    simp only [State.deliverWaiting]
    split
    · exact .trans .of_same (State.rosterOutcome_changesNotes ..)
    · exact .of_same
  | acyclic tag a =>
    simp only [State.deliverWaiting]
    split
    · exact (s.completeAcyclic_changesNotes ..).trans (State.rosterOutcome_changesNotes ..)
    · exact .refl s

theorem State.deliverAll_changesNotes (s : State) (l : LaneId) (o : Outcome) (cs : List Claim) :
    s.ChangesNotes (s.deliverAll l o cs) := .foldl (fun u c => u.deliverWaiting_changesNotes l o c) cs s

theorem State.deliverFinal_changesNotes (s : State) (l : LaneId) (f : InFlight) (o : Outcome) (d : List Byte) :
    s.ChangesNotes (s.deliverFinal l f o d) := by
  unfold State.deliverFinal
  split
  · exact .trans .of_same (State.rosterOutcome_changesNotes ..)
  · exact (s.completeAcyclic_changesNotes ..).trans (State.rosterOutcome_changesNotes ..)

theorem State.resolveAll_changesNotes (s : State) (l : LaneId) (o : Outcome) : s.ChangesNotes (s.resolveAll l o) :=
  .trans (t := s.onLane l fun x => { x with claims := [] }) .of_same (State.deliverAll_changesNotes ..)

theorem State.enterSleeping_changesNotes (s : State) (l : LaneId) : s.ChangesNotes (s.enterSleeping l) :=
  .trans .of_same (State.resolveAll_changesNotes ..)

/-! ### The end of a transaction and of an acyclic entry -/

theorem State.clearFlight_changesNotes (s : State) (l : LaneId) : s.ChangesNotes (s.clearFlight l) := by
  unfold State.clearFlight
  dsimp only
  split
  · exact .trans .of_same (State.enterSleeping_changesNotes ..)
  · exact .of_same

theorem State.endTransaction_changesNotes (s : State) (l : LaneId) (f : InFlight) (o : Outcome) (d : List Byte) :
    s.ChangesNotes (s.endTransaction l f o d) := by
  unfold State.endTransaction
  split
  · exact (s.clearFlight_changesNotes l).trans .of_same
  · exact (s.clearFlight_changesNotes l).trans (State.deliverFinal_changesNotes ..)

theorem State.failEcho_changesNotes (s : State) (l : LaneId) : s.ChangesNotes (s.failEcho l) := by
  unfold State.failEcho
  split
  · exact s.endTransaction_changesNotes ..
  · split <;> exact .of_same

theorem State.dropAcyclic_changesNotes (s : State) (e : AcyclicEntry) (o : Outcome) :
    s.ChangesNotes (s.dropAcyclic e o) := by
  rw [State.dropAcyclic_eq]
  exact .trans .of_hand (State.rosterOutcome_changesNotes ..)

theorem State.timeOut_changesNotes (s : State) (e : AcyclicEntry) : s.ChangesNotes (s.timeOut e) := by
  unfold State.timeOut
  split
  · exact .of_same
  · exact s.dropAcyclic_changesNotes e .expired

/-! ### Posting -/

theorem State.postToLane_changesNotes (s : State) (l : LaneId) (node : Nat) (c : CyclicClaim) :
    s.ChangesNotes (s.postToLane l node c) := by
  unfold State.postToLane
  split
  · exact .of_same
  · dsimp only
    split
    · exact .trans .of_same (State.deliverWaiting_changesNotes ..)
    · exact .of_same

theorem State.post_changesNotes (s : State) (e : ScanEntry) (c : CyclicClaim) : s.ChangesNotes (s.post e c) := by
  unfold State.post
  split
  · exact .refl s
  · exact s.postToLane_changesNotes ..
  · exact s.postToLane_changesNotes ..
  all_goals exact s.deliverWaiting_changesNotes ..

theorem State.postAll_changesNotes (s : State) (i : TimerId) : s.ChangesNotes (s.postAll i) :=
  s.postAll_keeps (.refl s) (fun u _ e _ _ _ hu => hu.trans (u.post_changesNotes e _)) fun _ _ hu => hu.trans .of_same

/-! ### Frames -/

theorem State.withdrawLate_changesNotes (s : State) (i : TimerId) (r : Half) (n : Time) (l : LaneId) :
    s.ChangesNotes (s.withdrawLate i r n l) :=
  .trans (t := s.onLane l fun x => { x with claims := x.claims.filter fun c => !c.isOfFrame i r n }) .of_same
    (State.deliverAll_changesNotes ..)

theorem State.endFrame_changesNotes (s : State) (i : TimerId) : s.ChangesNotes (s.endFrame i) := by
  unfold State.endFrame
  dsimp only
  exact .trans (.foldl (fun u l => u.withdrawLate_changesNotes ..) _ _) (.foldl (fun u l => .of_same) _ _)

/-- FRAME_DONE is queued by the report policy (R15). -/
theorem State.reportFrame_changesNotes (s : State) (i : TimerId) : s.ChangesNotes (s.reportFrame i) := by
  unfold State.reportFrame
  split
  · dsimp only
    split
    · exact .of_hand
    · exact .refl s
  · exact .refl s

theorem State.closeBuffer_changesNotes (s : State) (i : TimerId) : s.ChangesNotes (s.closeBuffer i) := .of_same rfl

theorem State.closeFrame_changesNotes (s : State) (i : TimerId) : s.ChangesNotes (s.closeFrame i) :=
  (s.endFrame_changesNotes i).trans
    ((State.closeBuffer_changesNotes ..).trans (State.reportFrame_changesNotes ..))

theorem State.startCommit_changesNotes (s : State) (i : TimerId) : s.ChangesNotes (s.startCommit i) := by
  unfold State.startCommit
  split
  · exact .of_hand
  · exact .refl s

theorem State.applyPublish_notes (s : State) (i : TimerId) : (s.applyPublish i).notes = s.notes := by
  unfold State.applyPublish
  split <;> rfl

/-- COMMIT_DONE is queued where a commit is pending (R17). -/
theorem State.frameStart_changesNotes (s : State) (i : TimerId) : s.ChangesNotes (s.frameStart i) :=
  (s.startCommit_changesNotes i).trans (.of_same (State.applyPublish_notes ..))

theorem State.openFirst_changesNotes {s t : State} {i : TimerId} (h : s.openFirst i = some t) :
    s.ChangesNotes t := by
  unfold State.openFirst at h
  rw [Option.map_eq_some_iff] at h
  obtain ⟨u, hu, rfl⟩ := h
  obtain ⟨bs, -, rfl⟩ := State.firstFrame_some hu
  exact .trans .of_same ((State.frameStart_changesNotes _ i).trans (State.postAll_changesNotes _ i))

theorem State.openNext_changesNotes (s : State) (i : TimerId) : s.ChangesNotes (s.openNext i) :=
  .trans (t := s.onTimer i fun x => { x with frame := x.frame + 1 }) .of_same
    ((State.frameStart_changesNotes _ i).trans (State.postAll_changesNotes _ i))

/-! ### Stops -/

/-- COMMIT_DONE, where a commit is pending, and TIMER_STOPPED are queued (R19). -/
theorem State.stopped_changesNotes (s : State) (i : TimerId) : s.ChangesNotes (s.stopped i) := by
  rw [← State.halt_eq_stopped]
  have hcommit : s.ChangesNotes (s.applyCommit i) := by
    unfold State.applyCommit
    split
    · exact .of_hand
    · exact .refl s
  exact hcommit.trans (.trans (.of_same (State.applyPublish_notes ..)) .of_hand)

theorem State.withdrawnToRoster_changesNotes (s : State) (l : LaneId) (c : Claim) :
    s.ChangesNotes (s.withdrawnToRoster l c) := by
  unfold State.withdrawnToRoster
  split
  · split
    · exact s.rosterOutcome_changesNotes ..
    · exact .refl s
  · exact .refl s

theorem State.withdrawNow_changesNotes (s : State) (i : TimerId) (l : LaneId) :
    s.ChangesNotes (s.withdrawNow i l) :=
  .trans (t := s.onLane l fun x => x.without fun c => c.isOfTimer i) .of_same
    (.foldl (fun u c => u.withdrawnToRoster_changesNotes l c) _ _)

theorem State.stopWaiting_changesNotes (s : State) (i : TimerId) : s.ChangesNotes (s.stopWaiting i) := by
  rw [State.stopWaiting_eq_stopped]
  exact .trans .of_same (State.stopped_changesNotes _ i)

theorem State.stopRunning_changesNotes (s : State) (i : TimerId) : s.ChangesNotes (s.stopRunning i) := by
  have hwithdrawn : s.ChangesNotes (s.withdrawn i) :=
    .trans (t := s.onBuffers i Three.freeFilling) .of_same
      (.foldl (fun u l => u.withdrawNow_changesNotes i l) allLanes _)
  rw [State.stopRunning_eq_stopped]
  exact hwithdrawn.trans (State.stopped_changesNotes _ i)

theorem State.stopAtEnd_changesNotes (s : State) (i : TimerId) : s.ChangesNotes (s.stopAtEnd i) := by
  unfold State.stopAtEnd
  split
  · exact .of_same
  · exact .refl s
  · exact .of_hand
  · exact s.stopWaiting_changesNotes i
  · exact .refl s

theorem State.stopAtOnce_changesNotes (s : State) (i : TimerId) : s.ChangesNotes (s.stopAtOnce i) := by
  unfold State.stopAtOnce
  split
  · exact s.stopRunning_changesNotes i
  · exact s.stopRunning_changesNotes i
  · exact .of_hand
  · exact s.stopWaiting_changesNotes i
  · exact .refl s

theorem State.close_changesNotes {s t : State} {i : TimerId} (h : s.close i = some t) : s.ChangesNotes t := by
  refine (s.closeFrame_changesNotes i).trans ?_
  unfold State.close at h
  dsimp only at h
  split at h
  · cases h
    rw [State.drain_eq_stopped]
    exact State.stopped_changesNotes _ i
  · rw [Option.map_eq_some_iff] at h
    obtain ⟨u, hu, rfl⟩ := h
    obtain ⟨bs, -, rfl⟩ := State.prepareNext_some hu
    split
    · exact .of_same
    · exact .trans .of_same (State.openNext_changesNotes _ i)

end Sys2Proof.Machine
end

section
/-!
SUPPORT. Every step keeps the notification queue in order (R144, R146): only FETCH takes records from it, only a reset
empties it, and every other command hands records over or leaves it alone.
-/

set_option Elab.async false

namespace Sys2Proof.Machine

/-! ### The owners of the requests -/

/-- The owners of requests that leave the notification queue alone. -/
def ownersLeavingNotes : List (List Byte → State → State × Answer) :=
  [ownQuery, ownReadEntry, ownReadImage, ownReadStatus, ownReadNode, ownConfigureLane, ownWakeLane, ownConfigureTimer,
    ownStart, ownStageEntry, ownClearStaged, ownCommit, ownWithdraw, ownWriteOutput, ownWriteFallback, ownPublish,
    ownSetSupervision, ownResume, ownHold, ownRelease, ownTransact, ownForgetNode]

theorem notes_of_mem_ownersLeavingNotes {own : List Byte → State → State × Answer} (h : own ∈ ownersLeavingNotes)
    (p : List Byte) (s : State) : (own p s).1.notes = s.notes := by
  obtain ⟨hquery, hentry, himage, hstatus, hnode⟩ := ownReads_same p s
  simp only [ownersLeavingNotes, List.mem_cons, List.not_mem_nil, or_false] at h
  obtain rfl | rfl | rfl | rfl | rfl | h := h
  · rw [hquery]
  · rw [hentry]
  · rw [himage]
  · rw [hstatus]
  · rw [hnode]
  · obtain rfl | rfl | rfl | rfl | rfl | rfl | rfl | rfl | rfl | rfl | rfl | rfl | rfl | rfl | rfl | rfl | rfl := h
    all_goals
      simp only [ownConfigureLane, State.tryConfigureLane, ownWakeLane, State.wakeLane, ownConfigureTimer,
        State.configureTimer, ownStart, State.startTimer, ownStageEntry, State.stage, ownClearStaged, ownCommit,
        State.commitTable, State.commitNow, ownWithdraw, ownWriteOutput, ownWriteFallback, ownPublish,
        State.publishImage, ownSetSupervision, State.superviseFor, ownResume, ownHold, ownRelease, ownTransact,
        ownForgetNode]
      repeat' split
    all_goals rfl

theorem ownSleepLane_changesNotes (p : List Byte) (s : State) : s.ChangesNotes (ownSleepLane p s).1 := by
  unfold ownSleepLane State.sleepLane
  split
  · split
    · split
      · exact s.enterSleeping_changesNotes _
      all_goals exact .of_same rfl
    · exact .refl s
  · exact .refl s

theorem ownStop_changesNotes {act : State → TimerId → State} (hact : ∀ (s : State) i, s.ChangesNotes (act s i))
    (p : List Byte) (code : Nat) (s : State) : s.ChangesNotes (ownStop p code act s).1 := by
  unfold ownStop
  split
  · split
    · split
      · exact hact s _
      · exact .refl s
    · exact .refl s
  · exact .refl s

theorem ownCancel_changesNotes (p : List Byte) (s : State) : s.ChangesNotes (ownCancel p s).1 := by
  unfold ownCancel
  split
  · split
    · split
      · exact .refl s
      · exact s.dropAcyclic_changesNotes ..
    · exact .refl s
  · exact .refl s

theorem ownFetch_changesNotes (p : List Byte) (s : State) : s.ChangesNotes (ownFetch p s).1 := by
  unfold ownFetch
  split
  · split
    · exact .single (.fetch s.notes (byteAt p 0))
    · exact .refl s
  · exact .refl s

/-! ### The message controller -/

theorem State.take_changesNotes {s : State} {rq : Request} {run : State → State}
    (h : ∀ u : State, u.ChangesNotes (run u)) : s.ChangesNotes (s.take rq run) := by
  obtain ht | ⟨u, hu, hrun⟩ := s.take_cases rq run
  · rw [ht]; exact .refl s
  · obtain ⟨-, -, -, rest, hrest, -⟩ := State.accept_some hu
    have htaken : s.ChangesNotes u := .of_same (by rw [hrest])
    obtain ⟨k, -, hk⟩ | hr := hrun
    · rw [hk]; exact htaken.trans .of_same
    · rw [hr]; exact htaken.trans (h u)

theorem State.serve_changesNotes {s : State} {seq kind : Byte} {p : List Byte} {owner : State → State × Answer}
    (h : ∀ u : State, u.ChangesNotes (owner u).1) : s.ChangesNotes (s.serve seq kind p owner) :=
  State.take_changesNotes fun u => (h u).trans .of_same

/-- A request whose owner leaves the queue alone leaves it alone. -/
theorem State.serve_leavingNotes {s : State} {seq kind : Byte} {p : List Byte}
    {own : List Byte → State → State × Answer} (h : own ∈ ownersLeavingNotes) :
    s.ChangesNotes (s.serve seq kind p (own p)) :=
  State.serve_changesNotes fun u => .of_same (notes_of_mem_ownersLeavingNotes h p u)

theorem execReset_changesNotes {seq : Byte} {p : List Byte} {s t : State} (h : execReset seq p s = .next t) :
    s.ChangesNotes t := by
  unfold execReset at h
  cases h
  refine State.take_changesNotes fun u => ?_
  dsimp only
  split <;> exact .of_same rfl

theorem State.nak_notes (s : State) (seq : Byte) (code : NakCode) : (s.nak seq code).notes = s.notes := by
  unfold State.nak
  split <;> rfl

theorem State.judgeFrame_notes (s : State) (got : List Byte) (marked : Bool) :
    (s.judgeFrame got marked).notes = s.notes := by
  have hactive : s.hostActivity.notes = s.notes := by rw [State.hostActivity_eq]
  unfold State.judgeFrame
  dsimp only
  split
  · exact s.nak_notes ..
  · split
    · exact hactive
    · rw [State.nak_notes, hactive]

theorem State.receiveByte_notes (s : State) (byte : Byte) (mark : Bool) :
    (s.receiveByte byte mark).notes = s.notes := by
  unfold State.receiveByte
  dsimp only
  repeat' split
  case h_3.isTrue => exact State.nak_notes ..
  case h_6.isTrue => exact State.judgeFrame_notes ..
  all_goals rfl

/-! ### Resets -/

theorem State.cleared_changesNotes (s : State) (pins : Pins) (q : List Instr) (r : Option Resetting) :
    s.ChangesNotes (State.cleared pins q r) := .single (.reset s.notes)

/-- At the end of a reset RESTARTED is queued with number 0 and time 0 (R152). -/
theorem State.restarted_changesNotes (s : State) (pins : Pins) (q : List Instr) (c : Cause) :
    s.ChangesNotes (State.restarted pins q c) :=
  .trans (s.cleared_changesNotes pins q none) (.of_hand (body := .restarted c))

theorem execReplySent_changesNotes {s t : State} (h : execReplySent s = .next t) : s.ChangesNotes t := by
  unfold execReplySent at h
  cases h
  split
  · split
    · exact .refl s
    · split
      · exact s.cleared_changesNotes ..
      · exact .of_same
  · exact .refl s

theorem execRstPin_changesNotes {asserted : Bool} {s t : State} (h : execRstPin asserted s = .next t) :
    s.ChangesNotes t := by
  unfold execRstPin at h
  cases h
  split
  · exact s.cleared_changesNotes ..
  · split <;> exact .of_same

theorem execResetEnd_changesNotes {s t : State} (h : execResetEnd s = .next t) : s.ChangesNotes t := by
  unfold execResetEnd at h
  cases h
  split
  · split
    · exact s.restarted_changesNotes ..
    · exact .refl s
  · exact .refl s

/-! ### Timers and lanes -/

theorem execFirstFrameStart_changesNotes {i : TimerId} {s t : State} (h : execFirstFrameStart i s = .next t) :
    s.ChangesNotes t := by
  unfold execFirstFrameStart at h
  split at h
  · exact State.openFirst_changesNotes (bufferOrFault_next h)
  · cases h; exact .refl s

theorem execFrameClose_changesNotes {i : TimerId} {s t : State} (h : execFrameClose i s = .next t) :
    s.ChangesNotes t := by
  obtain rfl | hclose := execFrameClose_close h
  · exact .refl _
  · exact State.close_changesNotes hclose

theorem execTrigEdge_changesNotes {i : TimerId} {s t : State} (h : execTrigEdge i s = .next t) :
    s.ChangesNotes t := by
  unfold execTrigEdge at h
  split at h
  · cases h; exact .refl s
  · have ht := bufferOrFault_next h
    unfold State.trigger at ht
    split at ht
    · exact State.openFirst_changesNotes ht
    · exact State.openFirst_changesNotes ht
    · cases ht; exact s.openNext_changesNotes i
    · cases ht; exact .of_hand
    · cases ht; exact .of_hand
    · cases ht; exact .refl s

theorem execClaimExpiry_changesNotes {l : LaneId} {i : TimerId} {position : Nat} {s t : State}
    (h : execClaimExpiry l i position s = .next t) : s.ChangesNotes t := by
  unfold execClaimExpiry at h
  cases h
  split
  · exact .trans .of_same (State.deliverWaiting_changesNotes ..)
  · exact .refl s

theorem execResponseComplete_changesNotes {l : LaneId} {byte : Byte} {mark : Bool} {s t : State}
    (h : execResponseComplete l byte mark s = .next t) : s.ChangesNotes t := by
  unfold execResponseComplete at h
  cases h
  split
  · split
    · exact s.endTransaction_changesNotes ..
    · exact .refl s
  · exact .refl s

theorem execSleepCommandEnd_changesNotes {l : LaneId} {s t : State} (h : execSleepCommandEnd l s = .next t) :
    s.ChangesNotes t := by
  unfold execSleepCommandEnd at h
  cases h
  split
  · split
    · exact .of_same
    · exact .of_hand
  · exact .refl s

theorem execLineFault_changesNotes {l : LaneId} {s t : State} (h : execLineFault l s = .next t) :
    s.ChangesNotes t := by
  unfold execLineFault at h
  cases h
  split
  · exact .trans .of_hand (State.resolveAll_changesNotes ..)
  · exact .refl s

theorem execAcyclicTimeout_changesNotes {tag : Half} {s t : State} (h : execAcyclicTimeout tag s = .next t) :
    s.ChangesNotes t := by
  unfold execAcyclicTimeout at h
  cases h
  split
  · split
    · exact s.timeOut_changesNotes _
    · exact .refl s
  · exact .refl s

/-! ### Every step -/

theorem exec_changesNotes {c : Instr} {s t : State} (h : exec c s = .next t) : s.ChangesNotes t := by
  cases c
  case query | readEntry | readImage | readStatus | readNode | configureLane | wakeLane | configureTimer | start |
      stageEntry | clearStaged | commit | withdraw | writeOutput | writeFallback | publish | setSupervision | resume |
      hold | release | transact | forgetNode =>
    cases h
    exact State.serve_leavingNotes (by simp [ownersLeavingNotes])
  case reset => exact execReset_changesNotes h
  case sleepLane seq p => cases h; exact State.serve_changesNotes (ownSleepLane_changesNotes p)
  case stopEnd seq p =>
    cases h
    split
    · exact .refl s
    · exact State.serve_changesNotes (ownStop_changesNotes State.stopAtEnd_changesNotes p 0)
  case stopNow seq p =>
    cases h
    split
    · exact .refl s
    · exact State.serve_changesNotes (ownStop_changesNotes State.stopAtOnce_changesNotes p 1)
  case cancel seq p => cases h; exact State.serve_changesNotes (ownCancel_changesNotes p)
  case fetch seq p => cases h; exact State.serve_changesNotes (ownFetch_changesNotes p)
  case duplicateReplay seq kind p =>
    cases h
    split
    · exact State.take_changesNotes .refl
    · exact .refl s
  case unknownKind seq kind p =>
    cases h
    split
    · exact .refl s
    · exact State.serve_changesNotes .refl
  case frameReceived byte mark | lengthNak byte mark =>
    cases h
    split
    · exact .of_same (s.receiveByte_notes byte mark)
    · exact .refl s
  case hostByteReceived byte mark => cases h; exact .of_same (s.receiveByte_notes byte mark)
  case powerOn => cases h; exact s.cleared_changesNotes ..
  case rstPin => exact execRstPin_changesNotes h
  case replySent => exact execReplySent_changesNotes h
  case resetEnd => exact execResetEnd_changesNotes h
  case firstFrameStart => exact execFirstFrameStart_changesNotes h
  case frameClose => exact execFrameClose_changesNotes h
  case trigEdge => exact execTrigEdge_changesNotes h
  case postClaims i =>
    cases h
    split
    · exact s.postAll_changesNotes i
    · exact .refl s
  case claimExpiry => exact execClaimExpiry_changesNotes h
  case echoMismatch l echo =>
    cases h
    split
    · exact s.failEcho_changesNotes l
    · exact .refl s
  case responseTimeout | characterLimitExpiry | broadcastComplete =>
    cases h
    split
    · exact s.endTransaction_changesNotes ..
    · exact .refl s
  case responseComplete => exact execResponseComplete_changesNotes h
  case sleepCommandEnd => exact execSleepCommandEnd_changesNotes h
  case lineFault => exact execLineFault_changesNotes h
  case acyclicTimeout => exact execAcyclicTimeout_changesNotes h
  case settleEnd | nodeWake | lineFaultRecovery | supervisionExpiry =>
    cases h
    split
    · exact .of_hand
    · exact .refl s
  case responseCharacterReceived =>
    cases h
    repeat' split
    all_goals exact .of_same
  case partialFrameDiscard | skipEnd | syncEnd | grant | sleepCommandStart | wakePulseEnd =>
    cases h
    split <;> exact .of_same

/-- Time leaves the queue alone. -/
theorem State.pass_notes (s : State) : s.pass.notes = s.notes := by
  obtain ⟨r, -, h | h⟩ | ⟨-, -, h⟩ | ⟨-, -, h⟩ := s.pass_cases <;> rw [h] <;> rfl

/-- Settles O60: a record is stored by what the queue holds, and a step only makes changes of the queue, each of which
keeps its order. -/
theorem notesStoredInOrder : Obligations.NotesStoredInOrder := by
  refine ⟨fun q now body => ⟨fun hnone => ⟨fun hroom => ?appended, fun hfull => ?replaced⟩,
    fun front number time lost hfront hq => NoteQueue.hand_overflow now body hfront hq⟩, fun s t hs h => ?step⟩
  case appended => rw [NoteQueue.hand_append hnone, if_pos hroom]
  case replaced => rw [NoteQueue.hand_append hnone, if_neg (by omega)]
  case step =>
    obtain ⟨c, q, hc⟩ | rfl := step_cases h
    · exact NoteQueue.ok_of_changes (exec_changesNotes hc) hs
    · rw [State.pass_notes]
      exact hs

end Sys2Proof.Machine
end

section
/-!
SUPPORT. FETCH (R148), and the codes and fields of the fifteen kinds of record (R167, R170).
-/

set_option Elab.async false

namespace Sys2Proof.Machine

/-! ### FETCH (R148) -/

/-- FETCH of a payload that fits. -/
theorem ownFetch_of (k : Byte) (s : State) :
    ownFetch [k] s = if 1 ≤ k.toNat ∧ k.toNat ≤ 4 then s.fetchNotes k.toNat else refuse .badArg s := rfl

/-- A FETCH of more records than the list holds is one of all of them. -/
theorem State.fetchNotes_min (s : State) (k : Nat) :
    s.fetchNotes (min k s.notes.records.length) = s.fetchNotes k := by
  obtain h | h := Nat.le_total k s.notes.records.length
  · rw [Nat.min_eq_left h]
  · rw [Nat.min_eq_right h, State.fetchNotes, State.fetchNotes, List.drop_of_length_le h, List.take_of_length_le h,
      List.drop_length, List.take_length]

/-- The reply to a FETCH of records that the list holds (R169). -/
theorem fetchAnswer_of_le {records : List Note} {k : Nat} (h : k ≤ records.length) :
    fetchAnswer (records.drop k).length (records.take k) =
      { code := .ok
        fields := BitVec.ofNat 8 (records.length - k) :: BitVec.ofNat 8 k :: (records.take k).flatMap Note.bytes } := by
  rw [fetchAnswer, List.length_drop, List.length_take, Nat.min_eq_left h]

/-! ### Codes (R167) -/

/-- In a table of codes each item stands with its code. -/
theorem code_of_mem {α : Type} {items : List α} {code : α → Byte} {a : α} {value : Byte}
    (h : (a, value) ∈ items.map fun x => (x, code x)) : value = code a := by
  obtain ⟨x, -, hx⟩ := List.mem_map.mp h
  cases hx
  rfl

/-- The outcomes in the order of their codes. -/
def outcomesByCode : List Outcome :=
  [.ok, .nodeFault, .noResponse, .check, .short, .echo, .late, .overrun, .suppressed, .asleep, .lineFault, .expired,
    .cancelled, .notRun, .notDue, .empty]

/-- Settles O59: FETCH by its maximum, and the layout of each kind by the codes of what it names. -/
theorem fetchTakesOldestRecords : Obligations.FetchTakesOldestRecords := by
  refine ⟨fun s seq k => ?fetch, ⟨⟨rfl, rfl⟩, ⟨rfl, rfl⟩, ⟨rfl, rfl⟩⟩,
    fun t timer ht run frame executed failed missed => ?timer,
    fun outcome code ho tag attempts data => ?transact, fun l lane hl => ?lane, ⟨rfl, rfl⟩,
    fun lost => ⟨rfl, rfl⟩⟩
  case fetch =>
    intro rq taken hr
    refine ⟨fun hout => State.serve_badArg hr ((ownFetch_of k _).trans (if_neg (by omega))), fun h1 h4 => ?_⟩
    refine congrArg Host.Outcome.next (State.serve_replied hr ?_)
    rw [ownFetch_of, if_pos ⟨h1, h4⟩, ← State.fetchNotes_min, State.fetchNotes, fetchAnswer_of_le (Nat.min_le_right ..)]
    rfl
  case timer =>
    obtain rfl := code_of_mem (items := [.a, .b]) (code := timerCode) ht
    exact ⟨fun position => ⟨rfl, rfl⟩, fun position => ⟨rfl, rfl⟩, ⟨rfl, rfl⟩, ⟨rfl, rfl⟩, ⟨rfl, rfl⟩, ⟨rfl, rfl⟩,
      ⟨rfl, rfl⟩⟩
  case transact =>
    obtain rfl := code_of_mem (items := outcomesByCode) (code := Outcome.code) ho
    exact ⟨rfl, rfl⟩
  case lane =>
    obtain rfl := code_of_mem (items := [.l0, .l1, .l2, .l3]) (code := laneCode) hl
    exact ⟨fun node => ⟨⟨rfl, rfl⟩, ⟨rfl, rfl⟩⟩, ⟨rfl, rfl⟩, ⟨rfl, rfl⟩, ⟨rfl, rfl⟩, ⟨rfl, rfl⟩, ⟨rfl, rfl⟩⟩

end Sys2Proof.Machine
end

section
/-!
SUPPORT. The receive side byte by byte, and its returns to HUNT (R155, R157, R158, R165).
-/

set_option Elab.async false

namespace Sys2Proof.Machine

/-! ### Bytes that no frame takes in -/

/-- Within a reset no byte is received (R165). -/
theorem State.receiveByte_resetting {s : State} (h : s.resetting ≠ none) (byte : Byte) (mark : Bool) :
    s.receiveByte byte mark = s := by
  rw [State.receiveByte, if_pos (Option.isSome_iff_ne_none.mpr h)]

/-- A byte whose start edge fell within a reset only sets the gap measure to 0 (R165; log 23). -/
theorem State.receiveByte_early {s : State} (hr : s.resetting = none) (he : s.link.early = true) (byte : Byte)
    (mark : Bool) : s.receiveByte byte mark = { s with link := { s.link with early := false, gap := 0 } } := by
  rw [State.receiveByte, if_neg (by simp [hr]), if_pos he]

section
variable {s : State} {byte : Byte} {mark : Bool} (hr : s.resetting = none) (he : s.link.early = false)
include hr he

/-- In HUNT every byte but the start value without a framing mark is ignored, and so is every byte in SKIP (R155). -/
theorem State.receiveByte_ignored
    (h : s.link.rx = .hunt ∧ (byte ≠ Config.startByte ∨ mark = true) ∨ s.link.rx = .skip) :
    s.receiveByte byte mark = { s with link := { s.link with gap := 0 } } := by
  rw [State.receiveByte, if_neg (by simp [hr]), if_neg (by simp [he])]
  obtain ⟨hx, hno⟩ | hx := h
  · simp only [hx]
    refine if_neg ?_
    rintro ⟨hbyte, hmark⟩
    exact hno.elim (· hbyte) (by simp [hmark])
  · simp only [hx]

/-! ### Bytes of a frame -/

/-- A byte of a frame that is neither too long nor complete with it fills its field (R155). -/
theorem State.receiveByte_collects (hx : s.link.rx.inFrame = true)
    (hlong : s.link.rx = .sequence → halfAt s.link.got 0 ≤ 250)
    (hlast : s.link.rx = .crc → s.link.got.length + 1 ≠ 6 + halfAt s.link.got 0) :
    s.receiveByte byte mark =
      { s with link := Link.collect { s.link with gap := 0 } (s.link.rx.after s.link.got) byte mark } := by
  rw [State.receiveByte, if_neg (by simp [hr]), if_neg (by simp [he])]
  cases hrx : s.link.rx with
  | hunt | skip => rw [hrx] at hx; cases hx
  | length | kind | payload => simp only [hrx, RxMode.after]
  | sequence =>
    simp only [hrx]
    exact if_neg (Nat.not_lt.mpr (hlong hrx))
  | crc =>
    simp only [hrx]
    exact if_neg (hlast hrx)

/-- The sequence byte of a frame longer than 250 queues a LENGTH NAK, and the rest of the frame is skipped (R157). -/
theorem State.receiveByte_long (hx : s.link.rx = .sequence) (hlong : 250 < halfAt s.link.got 0) :
    s.receiveByte byte mark =
      { s with link := Link.nakked { s.link.leavesFrame .skip with gap := 0 } byte .length } := by
  rw [State.receiveByte, if_neg (by simp [hr]), if_neg (by simp [he])]
  simp only [hx]
  exact (if_pos hlong).trans (State.nak_eq ..)

end

/-- The sequence byte of a frame longer than 250 by either row (log 15). -/
theorem exec_longSequence {s : State} {byte : Byte} {mark : Bool} {c : Instr} (hx : s.link.rx = .sequence)
    (hlong : 250 < halfAt s.link.got 0) (hc : c = .lengthNak byte mark ∨ c = .hostByteReceived byte mark) :
    exec c s = .next (s.receiveByte byte mark) := by
  obtain rfl | rfl := hc
  · exact congrArg Host.Outcome.next (if_pos (by simp [Link.atLongSequence, hx, Config.maxPayload, hlong]))
  · rfl

/-- Within a reset none of the three rows of a byte on RXD changes anything (R165). -/
theorem exec_byte_resetting {s : State} {byte : Byte} {mark : Bool} {c : Instr}
    (hc : c = .hostByteReceived byte mark ∨ c = .frameReceived byte mark ∨ c = .lengthNak byte mark)
    (h : s.resetting ≠ none) : exec c s = .next s := by
  have hbyte := State.receiveByte_resetting h byte mark
  obtain rfl | rfl | rfl := hc
  · exact congrArg Host.Outcome.next hbyte
  · change execFrameReceived byte mark s = _
    rw [execFrameReceived, hbyte, ite_self]
  · change execLengthNak byte mark s = _
    rw [execLengthNak, hbyte, ite_self]

/-! ### Back to HUNT with no reply -/

/-- A gap of more than 1 ms ends a partial frame (R155). -/
theorem execPartialFrameDiscard_hunts {s : State} (hr : s.resetting = none) (hx : s.link.rx.inFrame = true)
    (hgap : 2000 < s.link.gap) :
    exec .partialFrameDiscard s = .next { s with link := s.link.leavesFrame .hunt } :=
  congrArg Host.Outcome.next (if_pos (by simp [State.gapExceeded, hr, hx, halves, Config.linkGap, hgap]))

theorem RxMode.inFrame_of_ne {rx : RxMode} (hh : rx ≠ .hunt) (hs : rx ≠ .skip) : rx.inFrame = true := by
  cases rx with
  | hunt => exact absurd rfl hh
  | skip => exact absurd rfl hs
  | length | sequence | kind | payload | crc => rfl

/-- 1 ms without a start edge ends SKIP (R157). -/
theorem execSkipEnd_hunts {s : State} (hr : s.resetting = none) (hx : s.link.rx = .skip) (hgap : 2000 ≤ s.link.gap)
    (hbusy : s.pins.rxdBusy = false) : exec .skipEnd s = .next { s with link := s.link.leavesFrame .hunt } :=
  congrArg Host.Outcome.next (if_pos (by simp [State.skipOver, hr, hx, halves, Config.linkGap, hgap, hbusy]))

/-- A character that has begun keeps SKIP (R157; log 30). -/
theorem execSkipEnd_busy {s : State} (hbusy : s.pins.rxdBusy = true) : exec .skipEnd s = .next s :=
  congrArg Host.Outcome.next (if_neg (by simp [State.skipOver, hbusy]))

/-- Settles O13: the byte by the receive state, the rows that return to HUNT, and the bytes of a reset. -/
theorem hostByteAdvancesReceiver : Obligations.HostByteAdvancesReceiver := by
  refine ⟨fun s byte mark hr he => ?bytes, fun s byte mark c hr he hx hlong hc => ?long,
    fun s hr hh hs hgap => execPartialFrameDiscard_hunts hr (RxMode.inFrame_of_ne hh hs) hgap,
    fun s hr hx hgap hbusy => execSkipEnd_hunts hr hx hgap hbusy, fun s _ hbusy => execSkipEnd_busy hbusy,
    fun s byte mark c hc h => exec_byte_resetting hc h,
    fun s byte mark hr he => congrArg Host.Outcome.next (State.receiveByte_early hr he byte mark),
    fun s cause hr hp hrst => ⟨_, execResetEnd_restarts hr hp hrst, rfl⟩⟩
  case long => rw [exec_longSequence hx hlong hc, State.receiveByte_long hr he hx hlong]
  case bytes =>
    intro k fill len answer
    have ignored (h : s.link.rx = .hunt ∧ (byte ≠ Config.startByte ∨ mark = true) ∨ s.link.rx = .skip) : answer k :=
      congrArg Host.Outcome.next (State.receiveByte_ignored hr he h)
    have filled {rx after : RxMode} (hx : s.link.rx = rx) (hin : rx.inFrame = true)
        (hlong : rx = .sequence → len ≤ 250) (hlast : rx = .crc → s.link.got.length + 1 ≠ 6 + len)
        (hnext : rx.after s.link.got = after) : answer (fill after) := by
      subst hx hnext
      exact congrArg Host.Outcome.next (State.receiveByte_collects hr he hin hlong hlast)
    refine ⟨fun hx hb hm => ?start, fun hx hno => ignored (.inl ⟨hx, hno⟩), fun hx => ignored (.inr hx),
      fun hx hl => filled hx rfl nofun nofun (if_neg (by omega)), fun hx hl => filled hx rfl nofun nofun (if_pos hl),
      fun hx hlen => filled hx rfl (fun _ => hlen) nofun rfl, fun hx h0 => filled hx rfl nofun nofun (if_pos h0),
      fun hx h0 => filled hx rfl nofun nofun (if_neg h0),
      fun hx hl => filled hx rfl nofun nofun (if_neg (Nat.ne_of_lt hl)),
      fun hx hl => filled hx rfl nofun nofun (if_pos hl), fun hx hl => filled hx rfl nofun (fun _ => by omega) rfl⟩
    subst hb hm
    exact congrArg Host.Outcome.next (State.receiveByte_start hr he hx)

end Sys2Proof.Machine
end

section
/-!
SUPPORT. Duplicates and requests of no known kind (R160, R161).
-/

set_option Elab.async false

namespace Sys2Proof.Machine

/-! ### Taking by any row -/

/-- A request of none of the 27 kinds is taken by the row of unknown kinds (R160 step 2). -/
theorem rowOf_unknown {kind : Byte} (h : isRequestKind kind = false) (seq : Byte) (p : List Byte) :
    rowOf seq kind p = .unknownKind seq kind p := by
  unfold rowOf
  split
  case h_28 => rfl
  all_goals next hk => simp [isRequestKind, hk] at h

/-- A request of no known kind is answered KIND by its owner (R160 step 2). -/
theorem execUnknownKind_serves {kind : Byte} (h : isRequestKind kind = false) (seq : Byte) (p : List Byte) (s : State) :
    exec (.unknownKind seq kind p) s = .next (s.serve seq kind p (refuse .kind)) :=
  congrArg Host.Outcome.next (if_neg (by simp [h]))

section
variable (s : State) (seq : Byte) (p : List Byte)

/-- STOP is taken by the row that its mode names (log 16). -/
theorem exec_rowOf_stop_takes : ∃ run, exec (rowOf seq 0x08 p) s = .next (s.take (requestOf seq 0x08 p) run) := by
  change ∃ run, exec (if stopModeIs p 1 then .stopNow seq p else .stopEnd seq p) s = _
  split
  · next h1 =>
    have h0 : ¬ stopModeIs p 0 = true := by
      simp only [stopModeIs, Bool.and_eq_true, beq_iff_eq] at h1 ⊢
      omega
    exact ⟨_, congrArg Host.Outcome.next (if_neg h0)⟩
  · next h1 => exact ⟨_, congrArg Host.Outcome.next (if_neg h1)⟩

/-- The row of each of the 27 kinds takes the request (R160). -/
theorem exec_rowOf_known_takes :
    ∀ kind ∈ requestKinds, ∃ run, exec (rowOf seq kind p) s = .next (s.take (requestOf seq kind p) run) := by
  simp only [requestKinds, List.forall_mem_cons, List.not_mem_nil, false_imp_iff, implies_true, and_true]
  split_ands
  pick_goal 8
  · exact exec_rowOf_stop_takes s seq p
  all_goals exact ⟨_, rfl⟩

/-- The row of a request takes it, whatever its kind (R160). -/
theorem exec_rowOf_takes (kind : Byte) :
    ∃ run, exec (rowOf seq kind p) s = .next (s.take (requestOf seq kind p) run) := by
  cases h : isRequestKind kind with
  | true => exact exec_rowOf_known_takes s seq p kind (mem_requestKinds h)
  | false => exact ⟨_, (congrArg (exec · s) (rowOf_unknown h seq p)).trans (execUnknownKind_serves h seq p s)⟩

end

/-! ### Duplicates -/

section
variable {s : State} {rq : Request} {last : LastTaken}

theorem Link.isDuplicate_of {k : Link} (hlast : k.lastTaken = some last) (hseq : last.seq = rq.seq)
    (hcrc : last.crc = rq.crc) : k.isDuplicate rq = true := by
  simp [Link.isDuplicate, hlast, hseq, hcrc]

/-- The oldest request is admitted and leaves its queue when taking goes on and a reply has a place (R159, R160). -/
theorem State.accept_oldest (hr : s.resetting = none) (ht : s.link.takingStopped = false)
    (hroom : s.link.replies.length < 4) (hhead : s.link.requests.head? = some rq) : s.accept rq = some s.taken := by
  obtain ⟨rest, hq⟩ := List.head?_eq_some_iff.mp hhead
  simp [State.accept, State.taken, hr, ht, hroom, hq, Config.linkLimit]

/-- An admitted duplicate is answered by its stored reply, and what it asks for is not run (R160 step 1). -/
theorem State.take_duplicate (ha : s.accept rq = some s.taken) (hlast : s.link.lastTaken = some last)
    (hdup : s.link.isDuplicate rq = true) (run : State → State) :
    s.take rq run = { s with link := s.link.sends last.reply.replayed } := by
  have hdup' : s.taken.link.isDuplicate rq = true := hdup
  have hlast' : s.taken.link.lastTaken = some last := hlast
  simp only [State.take, ha, hlast', hdup', if_true]
  rfl

/-- A stored reply queued again has its flags byte at REPLAY (R161, R169). -/
theorem Reply.replayed_of {r : Reply} {code flags : Byte} {fields : List Byte} (h : r.payload = code :: flags :: fields) :
    r.replayed = { r with payload := code :: 0x01 :: fields } := by
  rw [Reply.replayed, h]

/-- DUPLICATE_REPLAY takes a duplicate. -/
theorem execDuplicateReplay_takes {seq kind : Byte} {p : List Byte}
    (h : s.link.isDuplicate (requestOf seq kind p) = true) :
    exec (.duplicateReplay seq kind p) s = .next (s.take (requestOf seq kind p) id) :=
  congrArg Host.Outcome.next (if_pos h)

end

/-- Settles O9: a duplicate by DUPLICATE_REPLAY and by the row of its kind, and an unknown kind. -/
theorem duplicatesReplayedUnknownAnswered : Obligations.DuplicatesReplayedUnknownAnswered := by
  refine ⟨fun s seq kind p last code flags fields hr ht hroom hhead hlast hseq hcrc hpayload c hc => ?replay,
    fun s seq kind p h hr => ?unknown⟩
  case replay =>
    have hdup : s.link.isDuplicate (requestOf seq kind p) = true := Link.isDuplicate_of hlast hseq hcrc
    have htakes : ∃ run, exec c s = .next (s.take (requestOf seq kind p) run) := by
      obtain rfl | rfl := hc
      · exact ⟨id, execDuplicateReplay_takes hdup⟩
      · exact exec_rowOf_takes s seq p kind
    obtain ⟨run, hrun⟩ := htakes
    rw [hrun, State.take_duplicate (State.accept_oldest hr ht hroom hhead) hlast hdup, Reply.replayed_of hpayload]
  case unknown =>
    rw [execUnknownKind_serves h]
    exact congrArg Host.Outcome.next (State.serve_replied (u := s) hr rfl)

end Sys2Proof.Machine
end

section
/-!
SUPPORT. RESET and the end of a reply on TXD (R162, R164).
-/

set_option Elab.async false

namespace Sys2Proof.Machine

/-- RESET answers OK outside the last-taken record, and taking stops (R160, R164). -/
theorem execReset_stopsTaking {s : State} {seq : Byte} (hr : s.ready (requestOf seq 0x02 []) = true) :
    exec (.reset seq []) s =
      .next { s with
        link := { s.link.sends { seq := seq, kind := 0x02, payload := [0x00, 0x00] } with takingStopped := true } } :=
  congrArg Host.Outcome.next (State.take_ready _ hr)

/-- The reply OK of an executed RESET, by its kind and payload (R164; log 27). -/
theorem Reply.isReset_iff {r : Reply} : r.isReset = true ↔ r.kind = 0x02 ∧ r.payload = [0x00, 0x00] := by
  rw [Reply.isReset, Bool.and_eq_true, beq_iff_eq, beq_iff_eq]

/-- REPLY_SENT once the last byte of the oldest reply is out (R162, R164). -/
theorem execReplySent_out {s : State} {r : Reply} {rest : List Reply} (hr : s.resetting = none)
    (hq : s.link.replies = r :: rest) (hout : r.duration ≤ s.link.sending) :
    exec .replySent s =
      .next (if r.isReset then s.beginReset .request else { s with link := s.link.sent r rest }) := by
  have hreply : s.replyOut = true := by simp [State.replyOut, hr, hq, hout]
  change execReplySent s = _
  rw [execReplySent, if_pos hreply, hq]

/-- Settles O8: RESET, and the reply whose last byte is out, by whether it is the reply to RESET. -/
theorem resetRequestEndsInReset : Obligations.ResetRequestEndsInReset := by
  refine ⟨fun s seq hr => execReset_stopsTaking hr, fun s r rest hr hq hout => ⟨fun hreset => ?_, fun hother => ?_⟩⟩
  · rw [execReplySent_out hr hq hout, if_pos (Reply.isReset_iff.mpr hreset)]
    rfl
  · rw [execReplySent_out hr hq hout, if_neg (mt Reply.isReset_iff.mp hother)]
    simp only [Link.sent, List.isEmpty_iff]
    rfl

end Sys2Proof.Machine
end

section
/-!
SUPPORT. No command touches the queue of waiting commands: every operation of the blocks leaves it alone, and a reset
takes it over. A step takes the command at the front of that queue, and on an empty queue what is due or half a tick.
-/

set_option Elab.async false

namespace Sys2Proof.Machine

/-! ### The taking of a request -/

/-- Where an owner leaves the waiting commands alone, so does the taking of its request. -/
theorem State.take_pending {s : State} {rq : Request} {run : State → State}
    (h : ∀ u : State, (run u).pending = u.pending) : (s.take rq run).pending = s.pending := by
  obtain ht | ⟨u, hu, ⟨k, -, hk⟩ | hr⟩ := s.take_cases rq run
  · rw [ht]
  · obtain ⟨-, -, -, rest, rfl, -⟩ := State.accept_some hu
    rw [hk]
    rfl
  · obtain ⟨-, -, -, rest, rfl, -⟩ := State.accept_some hu
    rw [hr, h]

theorem State.serve_pending {s : State} {seq kind : Byte} {p : List Byte} {owner : State → State × Answer}
    (h : ∀ u : State, (owner u).1.pending = u.pending) : (s.serve seq kind p owner).pending = s.pending :=
  State.take_pending h

/-! ### Frames and stops -/

@[simp] theorem State.postAll_pending (s : State) (i : TimerId) : (s.postAll i).pending = s.pending :=
  foldl_same (g := State.pending) (by simp) _ _

@[simp] theorem State.openNext_pending (s : State) (i : TimerId) : (s.openNext i).pending = s.pending := by
  simp [State.openNext, State.nextFrame]

theorem State.openFirst_pending {s t : State} {i : TimerId} (h : s.openFirst i = some t) : t.pending = s.pending := by
  unfold State.openFirst at h
  rw [Option.map_eq_some_iff] at h
  obtain ⟨u, hu, rfl⟩ := h
  obtain ⟨bs, -, rfl⟩ := State.firstFrame_some hu
  simp

theorem State.close_pending {s t : State} {i : TimerId} (h : s.close i = some t) : t.pending = s.pending := by
  unfold State.close at h
  dsimp only at h
  split at h
  · cases h
    simp [State.drain_eq_stopped]
  · rw [Option.map_eq_some_iff] at h
    obtain ⟨u, hu, rfl⟩ := h
    obtain ⟨bs, -, rfl⟩ := State.prepareNext_some hu
    split <;> simp

theorem State.trigger_pending {s t : State} {i : TimerId} (h : s.trigger i = some t) : t.pending = s.pending := by
  unfold State.trigger at h
  split at h
  · exact State.openFirst_pending h
  · exact State.openFirst_pending h
  · cases h; exact s.openNext_pending i
  all_goals cases h; rfl

theorem State.stopAtEnd_pending (s : State) (i : TimerId) : (s.stopAtEnd i).pending = s.pending := by
  unfold State.stopAtEnd
  split
  case h_4 => rw [State.stopWaiting_eq_stopped]; simp
  all_goals rfl

theorem State.stopAtOnce_pending (s : State) (i : TimerId) : (s.stopAtOnce i).pending = s.pending := by
  have hrunning : (s.stopRunning i).pending = s.pending := by rw [State.stopRunning_eq_stopped]; simp
  unfold State.stopAtOnce
  split
  · exact hrunning
  · exact hrunning
  · rfl
  · rw [State.stopWaiting_eq_stopped]; simp
  · rfl

/-! ### The owners of the requests -/

section
variable (p : List Byte) (s : State)

@[simp] theorem ownConfigureLane_pending : (ownConfigureLane p s).1.pending = s.pending := by
  unfold ownConfigureLane State.tryConfigureLane
  repeat' split
  all_goals rfl

@[simp] theorem ownSleepLane_pending : (ownSleepLane p s).1.pending = s.pending := by
  unfold ownSleepLane State.sleepLane
  repeat' split
  case h_1 => simp
  all_goals rfl

@[simp] theorem ownWakeLane_pending : (ownWakeLane p s).1.pending = s.pending := by
  unfold ownWakeLane State.wakeLane
  repeat' split
  all_goals rfl

@[simp] theorem ownConfigureTimer_pending : (ownConfigureTimer p s).1.pending = s.pending := by
  unfold ownConfigureTimer State.configureTimer
  repeat' split
  all_goals rfl

@[simp] theorem ownStart_pending : (ownStart p s).1.pending = s.pending := by
  unfold ownStart State.startTimer
  repeat' split
  all_goals rfl

theorem ownStop_pending {act : State → TimerId → State} (hact : ∀ (s : State) i, (act s i).pending = s.pending)
    (code : Nat) : (ownStop p code act s).1.pending = s.pending := by
  unfold ownStop
  repeat' split
  case h_1.isTrue => exact hact s _
  all_goals rfl

@[simp] theorem ownStageEntry_pending : (ownStageEntry p s).1.pending = s.pending := by
  unfold ownStageEntry State.stage
  dsimp only
  repeat' split
  all_goals rfl

@[simp] theorem ownClearStaged_pending : (ownClearStaged p s).1.pending = s.pending := by
  unfold ownClearStaged
  repeat' split
  all_goals rfl

@[simp] theorem ownCommit_pending : (ownCommit p s).1.pending = s.pending := by
  unfold ownCommit State.commitTable State.commitNow
  repeat' split
  all_goals rfl

@[simp] theorem ownWithdraw_pending : (ownWithdraw p s).1.pending = s.pending := by
  unfold ownWithdraw
  repeat' split
  all_goals rfl

@[simp] theorem ownWriteOutput_pending : (ownWriteOutput p s).1.pending = s.pending := by
  unfold ownWriteOutput
  split <;> rfl

@[simp] theorem ownWriteFallback_pending : (ownWriteFallback p s).1.pending = s.pending := by
  unfold ownWriteFallback
  split <;> rfl

@[simp] theorem ownPublish_pending : (ownPublish p s).1.pending = s.pending := by
  unfold ownPublish State.publishImage
  repeat' split
  all_goals rfl

@[simp] theorem ownSetSupervision_pending : (ownSetSupervision p s).1.pending = s.pending := by
  unfold ownSetSupervision State.superviseFor
  repeat' split
  all_goals rfl

@[simp] theorem ownResume_pending : (ownResume p s).1.pending = s.pending := by
  unfold ownResume
  repeat' split
  all_goals rfl

@[simp] theorem ownHold_pending : (ownHold p s).1.pending = s.pending := by
  unfold ownHold
  repeat' split
  all_goals rfl

@[simp] theorem ownRelease_pending : (ownRelease p s).1.pending = s.pending := by
  unfold ownRelease
  repeat' split
  all_goals rfl

@[simp] theorem ownTransact_pending : (ownTransact p s).1.pending = s.pending := by
  unfold ownTransact
  repeat' split
  all_goals rfl

@[simp] theorem ownCancel_pending : (ownCancel p s).1.pending = s.pending := by
  unfold ownCancel
  repeat' split
  case h_1.isFalse => simp
  all_goals rfl

@[simp] theorem ownForgetNode_pending : (ownForgetNode p s).1.pending = s.pending := by
  unfold ownForgetNode
  repeat' split
  all_goals rfl

@[simp] theorem ownFetch_pending : (ownFetch p s).1.pending = s.pending := by
  unfold ownFetch
  repeat' split
  all_goals rfl

end

theorem execReset_pending {seq : Byte} {p : List Byte} {s t : State} (h : execReset seq p s = .next t) :
    t.pending = s.pending := by
  unfold execReset at h
  cases h
  refine State.take_pending fun u => ?_
  dsimp only
  split <;> rfl

/-! ### The host link -/

theorem State.nak_pending (s : State) (seq : Byte) (code : NakCode) : (s.nak seq code).pending = s.pending := by
  unfold State.nak
  split <;> rfl

theorem State.judgeFrame_pending (s : State) (got : List Byte) (marked : Bool) :
    (s.judgeFrame got marked).pending = s.pending := by
  unfold State.judgeFrame
  rw [State.hostActivity_eq]
  dsimp only
  repeat' split
  case isFalse.isTrue => rfl
  all_goals exact State.nak_pending ..

theorem State.receiveByte_pending (s : State) (byte : Byte) (mark : Bool) :
    (s.receiveByte byte mark).pending = s.pending := by
  unfold State.receiveByte
  dsimp only
  repeat' split
  case h_3.isTrue => exact State.nak_pending ..
  case h_6.isTrue => exact State.judgeFrame_pending ..
  all_goals rfl

theorem execReplySent_pending {s t : State} (h : execReplySent s = .next t) : t.pending = s.pending := by
  unfold execReplySent at h
  cases h
  repeat' split
  all_goals rfl

theorem execRstPin_pending {asserted : Bool} {s t : State} (h : execRstPin asserted s = .next t) :
    t.pending = s.pending := by
  unfold execRstPin at h
  cases h
  repeat' split
  all_goals rfl

theorem execResetEnd_pending {s t : State} (h : execResetEnd s = .next t) : t.pending = s.pending := by
  unfold execResetEnd at h
  cases h
  repeat' split
  all_goals rfl

/-! ### Timers and lanes -/

theorem execFirstFrameStart_pending {i : TimerId} {s t : State} (h : execFirstFrameStart i s = .next t) :
    t.pending = s.pending := by
  unfold execFirstFrameStart at h
  split at h
  · exact State.openFirst_pending (bufferOrFault_next h)
  · cases h; rfl

theorem execFrameClose_pending {i : TimerId} {s t : State} (h : execFrameClose i s = .next t) :
    t.pending = s.pending := by
  obtain rfl | hclose := execFrameClose_close h
  · rfl
  · exact State.close_pending hclose

theorem execTrigEdge_pending {i : TimerId} {s t : State} (h : execTrigEdge i s = .next t) : t.pending = s.pending := by
  unfold execTrigEdge at h
  split at h
  · cases h; rfl
  · exact State.trigger_pending (bufferOrFault_next h)

theorem State.failEcho_pending (s : State) (l : LaneId) : (s.failEcho l).pending = s.pending := by
  unfold State.failEcho
  repeat' split
  case h_1 => simp
  all_goals rfl

/-! ### Every command, and a step -/

theorem exec_pending {c : Instr} {s t : State} (h : exec c s = .next t) : t.pending = s.pending := by
  cases c
  case query seq p | readEntry seq p | readImage seq p | readStatus seq p | readNode seq p =>
    cases h
    exact State.serve_pending fun u => by simp only [ownReads_same p u]
  case reset => exact execReset_pending h
  case configureLane | sleepLane | wakeLane | configureTimer | start | stageEntry | clearStaged | commit | withdraw |
      writeOutput | writeFallback | publish | setSupervision | resume | hold | release | transact | cancel |
      forgetNode | fetch =>
    cases h
    exact State.serve_pending (by simp)
  case stopEnd seq p =>
    cases h
    split
    · rfl
    · exact State.serve_pending fun u => ownStop_pending p u State.stopAtEnd_pending 0
  case stopNow seq p =>
    cases h
    split
    · rfl
    · exact State.serve_pending fun u => ownStop_pending p u State.stopAtOnce_pending 1
  case duplicateReplay seq kind p =>
    cases h
    split
    · exact State.take_pending fun _ => rfl
    · rfl
  case unknownKind seq kind p =>
    cases h
    split
    · rfl
    · exact State.serve_pending fun _ => rfl
  case frameReceived byte mark | lengthNak byte mark =>
    cases h
    split
    · exact s.receiveByte_pending byte mark
    · rfl
  case hostByteReceived byte mark => cases h; exact s.receiveByte_pending byte mark
  case powerOn => cases h; rfl
  case rstPin => exact execRstPin_pending h
  case replySent => exact execReplySent_pending h
  case resetEnd => exact execResetEnd_pending h
  case firstFrameStart => exact execFirstFrameStart_pending h
  case frameClose => exact execFrameClose_pending h
  case trigEdge => exact execTrigEdge_pending h
  case echoMismatch l echo =>
    cases h
    split
    · exact s.failEcho_pending l
    · rfl
  case postClaims | grant | claimExpiry | responseTimeout | characterLimitExpiry | broadcastComplete | lineFault =>
    cases h
    split <;> simp
  case responseComplete | acyclicTimeout =>
    cases h
    repeat' split
    all_goals simp
  case responseCharacterReceived | sleepCommandEnd =>
    cases h
    repeat' split
    all_goals rfl
  case partialFrameDiscard | skipEnd | syncEnd | sleepCommandStart | wakePulseEnd | settleEnd | nodeWake |
      lineFaultRecovery | supervisionExpiry =>
    cases h
    split <;> rfl

/-- Settles O3, command by command: owners, frames, lanes, link and resets each hand the waiting commands on. -/
theorem commandsLeaveQueue : Obligations.CommandsLeaveQueue := fun _ _ _ h => exec_pending h

theorem step_of_front {s : State} {c : Instr} {rest : List Instr} (h : s.pending = c :: rest) :
    step s = exec c { s with pending := rest } := by
  rw [step, h]

theorem step_of_empty {s : State} (h : s.pending = []) : step s = idle s := by
  rw [step, h]

theorem idle_of_due {s : State} {c : Instr} (h : due s = some c) : idle s = exec c s := by
  rw [idle, h]

theorem idle_of_none {s : State} (h : due s = none) : idle s = .next s.pass := by
  rw [idle, h]

/-- Settles O1: the queue by its front, and the empty queue by what is due. -/
theorem stepRunsFrontCommand : Obligations.StepRunsFrontCommand :=
  ⟨fun _ _ _ hfront => step_of_front hfront,
    fun _ _ hempty hdue => (step_of_empty hempty).trans (idle_of_due hdue),
    fun _ hempty hnone => (step_of_empty hempty).trans (idle_of_none hnone)⟩

end Sys2Proof.Machine
end
